-- ==== Sys2Proof/Word.lean ====
section
/-! DEFINITION. The byte and the two fixed-length tables (three pumps; eight circuits, eight probes) of the part. -/

namespace Sys2Proof

/-- One byte as it travels on either port (chapter 12). -/
abbrev Byte := BitVec 8

/-- One value for each of the three pumps 0, 1 and 2 (chapter 4). -/
structure Trio (α : Type) where
  p0 : α
  p1 : α
  p2 : α
deriving DecidableEq, Repr

namespace Trio

/-- The value of pump `i`. -/
def get {α : Type} (t : Trio α) (i : Fin 3) : α :=
  match i with
  | 0 => t.p0
  | 1 => t.p1
  | 2 => t.p2

/-- The table with the value of pump `i` replaced. -/
def set {α : Type} (t : Trio α) (i : Fin 3) (v : α) : Trio α :=
  match i with
  | 0 => { t with p0 := v }
  | 1 => { t with p1 := v }
  | 2 => { t with p2 := v }

/-- The same value for every pump. -/
def all {α : Type} (v : α) : Trio α := ⟨v, v, v⟩

/-- The values in pump order. -/
def toList {α : Type} (t : Trio α) : List α := [t.p0, t.p1, t.p2]

/-- The table with a function applied to every value. -/
def map {α β : Type} (f : α → β) (t : Trio α) : Trio β := ⟨f t.p0, f t.p1, f t.p2⟩

end Trio

/-- One value for each of eight circuits or probes 0 to 7 (chapter 7). -/
structure Octo (α : Type) where
  c0 : α
  c1 : α
  c2 : α
  c3 : α
  c4 : α
  c5 : α
  c6 : α
  c7 : α
deriving DecidableEq, Repr

namespace Octo

/-- The value of entry `i`. -/
def get {α : Type} (t : Octo α) (i : Fin 8) : α :=
  match i with
  | 0 => t.c0
  | 1 => t.c1
  | 2 => t.c2
  | 3 => t.c3
  | 4 => t.c4
  | 5 => t.c5
  | 6 => t.c6
  | 7 => t.c7

/-- The table with entry `i` replaced. -/
def set {α : Type} (t : Octo α) (i : Fin 8) (v : α) : Octo α :=
  match i with
  | 0 => { t with c0 := v }
  | 1 => { t with c1 := v }
  | 2 => { t with c2 := v }
  | 3 => { t with c3 := v }
  | 4 => { t with c4 := v }
  | 5 => { t with c5 := v }
  | 6 => { t with c6 := v }
  | 7 => { t with c7 := v }

/-- The same value for every entry. -/
def all {α : Type} (v : α) : Octo α := ⟨v, v, v, v, v, v, v, v⟩

/-- The values in ascending order of entry. -/
def toList {α : Type} (t : Octo α) : List α := [t.c0, t.c1, t.c2, t.c3, t.c4, t.c5, t.c6, t.c7]

/-- The table with a function applied to every value. -/
def map {α β : Type} (f : α → β) (t : Octo α) : Octo β :=
  ⟨f t.c0, f t.c1, f t.c2, f t.c3, f t.c4, f t.c5, f t.c6, f t.c7⟩

end Octo

/-- The three pump numbers in ascending order. -/
def pumpNumbers : List (Fin 3) := [0, 1, 2]

/-- The eight circuit or probe numbers in ascending order. -/
def eightNumbers : List (Fin 8) := [0, 1, 2, 3, 4, 5, 6, 7]

end Sys2Proof
end

