-- ==== Sys2Proof/Syntax.lean ====
section
/-! DEFINITION. The commands of the block: one constructor of Instr for each row of spec/opcode_table.json, with the operands of each. -/

namespace Sys2Proof

/-- The port that carries a request (chapters 9 and 10). -/
inductive Port | cabinet | district
deriving DecidableEq, Repr

/-- The three tariff bands (R42). -/
inductive Band | night | shoulder | day
deriving DecidableEq, Repr

/-- The bands a FILL order may run in (R6, R53). -/
inductive BandPermission | nightOnly | nightShoulder | any
deriving DecidableEq, Repr

/-- The seven kinds of content a report can carry, in canonical order (R9). -/
inductive Selector | level | guard | pumps | frost | orders | tally | events
deriving DecidableEq, Repr

/-- A recurrence as a request carries it (R7, chapter 12.3). -/
inductive RecurrenceField
  | onceOn (day : Nat)
  | once
  | every (k r : Nat)
deriving DecidableEq, Repr

/-- The fields of a FILL order as PLACE gives them (R6). -/
structure FillFields where
  pump : Nat
  target : Nat
  start : Nat
  stop : Nat
  recur : RecurrenceField
  band : BandPermission
  priority : Nat
deriving DecidableEq, Repr

/-- The fields of a HEAT order as PLACE gives them (R8). -/
structure HeatFields where
  circuit : Nat
  hold : Int
  start : Nat
  stop : Nat
  recur : RecurrenceField
deriving DecidableEq, Repr

/-- The fields of a REPORT order as PLACE gives them (R9). -/
structure ReportFields where
  slot : Nat
  k : Nat
  r : Nat
  contents : List Selector
deriving DecidableEq, Repr

/-- The kind and fields of a PLACE (R15). -/
inductive PlaceFields
  | fill (f : FillFields)
  | heat (h : HeatFields)
  | report (r : ReportFields)
deriving DecidableEq, Repr

/-- A set of FILL fields to change; a field left out is `none` (R17). -/
structure FillAmend where
  pump : Option Nat := none
  target : Option Nat := none
  start : Option Nat := none
  stop : Option Nat := none
  recur : Option RecurrenceField := none
  band : Option BandPermission := none
  priority : Option Nat := none
deriving DecidableEq, Repr

/-- A set of HEAT fields to change (R17). -/
structure HeatAmend where
  circuit : Option Nat := none
  hold : Option Int := none
  start : Option Nat := none
  stop : Option Nat := none
  recur : Option RecurrenceField := none
deriving DecidableEq, Repr

/-- A set of REPORT fields to change; the round code changes as one (R17, chapter 12.3). -/
structure ReportAmend where
  slot : Option Nat := none
  code : Option (Nat × Nat) := none
  contents : Option (List Selector) := none
deriving DecidableEq, Repr

/-- The fields of an AMEND, by the kind whose fields they are (R17). -/
inductive AmendFields
  | fill (f : FillAmend)
  | heat (h : HeatAmend)
  | report (r : ReportAmend)
deriving DecidableEq, Repr

/-- One entry of a SET TARIFF, the band as its code (R44). -/
structure TariffField where
  start : Nat
  band : Nat
deriving DecidableEq, Repr

/-- A complete frame as heard on the district link; the start byte and the length byte are implied (R154). -/
structure Frame where
  dest : Byte
  src : Byte
  kind : Byte
  seq : Byte
  body : List Byte
  check : BitVec 16
deriving DecidableEq, Repr

/-- The levels of the input pins that no row of the table announces, as they stand when the command is taken:
KEY (R181) and the overload relays (R83, R90). -/
structure Sample where
  key : Bool
  overload : Trio Bool
deriving DecidableEq, Repr

/-- Every field input as a reset finds it (R91, R92, R127, R198). -/
structure Pins where
  feedback : Trio Bool
  overload : Trio Bool
  float : Bool
  openLimit : Bool
  closedLimit : Bool
  current : Octo Bool
  key : Bool
deriving DecidableEq, Repr

/-- A request with its fields read, as it is handed to the block that owns it (R174, R186). -/
inductive Request
  | place (order : PlaceFields)
  | amend (number : Nat) (expected : Option Nat) (fields : AmendFields)
  | retire (number : Nat) (expected : Option Nat)
  | look (number : Nat)
  | list (above : Nat)
  | readTower (part : Nat)
  | readGuard (ids : List Byte)
  | writeGuard (id : Byte) (value : BitVec 32)
  | setTariff (entries : List TariffField)
  | readTariff
  | setClock (day minute second : Nat)
  | unlock (code : BitVec 32)
  | lock
  | pumpService (pump operand : Nat)
  | circuitReset (circuit : Nat)
  | acknowledge
  | clearEvents (flags : BitVec 17)
  | setEventEnables (flags : BitVec 17)
deriving DecidableEq, Repr

/-- The commands of the block, one for each row of spec/opcode_table.json, in the table's order.
A request names the port that carries it; an event names the input or timer it comes from. -/
inductive Instr
  | place (port : Port) (order : PlaceFields)
  | amend (port : Port) (number : Nat) (expected : Option Nat) (fields : AmendFields)
  | retire (port : Port) (number : Nat) (expected : Option Nat)
  | look (port : Port) (number : Nat)
  | list (port : Port) (above : Nat)
  | readTower (port : Port) (sample : Sample) (part : Nat)
  | readGuard (port : Port) (ids : List Byte)
  | writeGuard (port : Port) (sample : Sample) (id : Byte) (value : BitVec 32)
  | setTariff (port : Port) (entries : List TariffField)
  | readTariff (port : Port)
  | setClock (port : Port) (day minute second : Nat)
  | unlock (port : Port) (code : BitVec 32)
  | lock (port : Port)
  | pumpServiceOut (port : Port) (sample : Sample) (pump : Nat)
  | pumpServiceReturn (port : Port) (sample : Sample) (pump : Nat)
  | circuitReset (port : Port) (circuit : Nat)
  | acknowledge (port : Port) (sample : Sample)
  | clearEvents (port : Port) (flags : BitVec 17)
  | setEventEnables (port : Port) (flags : BitVec 17)
  | cabinetFrameBegin
  | cabinetFrameEnd (sample : Sample) (sdi : List Byte)
  | frameStart
  | frameCutShort
  | byteGapTimeout
  | discardedFrame (f : Frame)
  | ignoredFrame (f : Frame)
  | opener (instant : Nat) (f : Frame)
  | requestFrame (instant : Nat) (sample : Sample) (f : Frame)
  | slotStart (slot : Nat)
  | instantOfSending
  | transmissionEnd
  | minuteEvent
  | holdoverEntry
  | holdoverRound
  | flowPulse (p : Fin 3)
  | noFlowExpiry (p : Fin 3)
  | dwellExpiry (p : Fin 3)
  | confirmExpiry (p : Fin 3)
  | feedbackCloses (p : Fin 3)
  | feedbackOpens (p : Fin 3) (sample : Sample)
  | overloadTrip (p : Fin 3)
  | stopTimerExpiry (p : Fin 3)
  | lockoutExpiry (p : Fin 3)
  | valveLimitChange (openLimit closedLimit : Bool)
  | travelTimerExpiry
  | levelReading (value : Int) (error : Bool)
  | validityTimerExpiry
  | floatChange (active : Bool)
  | probeReading (i : Fin 8) (temperature : Int) (error : Bool)
  | silenceTimerExpiry (i : Fin 8)
  | heaterCurrentChange (c : Fin 8) (current : Bool)
  | feedbackTimerExpiry (c : Fin 8)
  | commitEnd
  | reset (pins : Pins)
  | ownerFormsResult (sample : Sample)
  | secondAdvance
deriving DecidableEq, Repr

end Sys2Proof
end

