-- ==== Sys2Proof/Decode.lean ====
section
/-! DEFINITION. The decoder over the rows of spec/opcode_table.json that give bits. None does, so no word spells a command. -/

namespace Sys2Proof

/-- No row of the table gives bits: every word answers none (98_reader.md, "n_rows_with_fixed": 0). -/
def decodeTableWord (_nbits _w : Nat) : Option Instr := none

end Sys2Proof
end

