-- ==== Sys2Proof/Config.lean ====
section
/-! DEFINITION. What the spec leaves open and the model does not decide: one uninterpreted constant. -/

namespace Sys2Proof.Config

/-- The free value behind every "in any order relative to the others" (R78, R112, R123, R103).
It has no body: nothing can evaluate it, so no claim rests on a particular order (log entry 3). -/
opaque freeOrder : Nat → Nat

end Sys2Proof.Config
end

