-- ==== Sys2Proof/Machine/Wire.lean ====
section
/-! DEFINITION. Bytes on either port: numbers high byte first, the 16-bit cyclic check and the sum check (chapter 12, R155). -/

namespace Sys2Proof.Machine.Wire

/-- A number in one byte. -/
def u8 (n : Nat) : List Byte := [BitVec.ofNat 8 n]

/-- A number in two bytes, high byte first. -/
def u16 (n : Nat) : List Byte := [BitVec.ofNat 8 (n / 256), BitVec.ofNat 8 n]

/-- A number in three bytes, high byte first. -/
def u24 (n : Nat) : List Byte := BitVec.ofNat 8 (n / 65536) :: u16 n

/-- A 32-bit value in four bytes, high byte first. -/
def u32 (v : BitVec 32) : List Byte := u16 (v.toNat / 65536) ++ u16 v.toNat

/-- A signed number in two bytes, two's complement (chapter 12, opening). -/
def s16 (t : Int) : List Byte := u16 (BitVec.ofInt 16 t).toNat

/-- A yes or no in one byte: 1 for yes, 0 for no (log entry 49). -/
def flag (b : Bool) : List Byte := u8 (if b then 1 else 0)

/-- A byte that may be absent: FFh then, as the opening of chapter 12 gives it for an enumerated byte; a number in one byte is taken alike
(log entry 50). -/
def optU8 : Option Nat → List Byte
  | none => [0xFF]
  | some n => u8 n

/-- A level that may be absent: FFFFh then. -/
def optU16 : Option Nat → List Byte
  | none => [0xFF, 0xFF]
  | some n => u16 n

/-- A signed value that may be absent: 8000h then. -/
def optS16 : Option Int → List Byte
  | none => [0x80, 0x00]
  | some t => s16 t

/-- The number that bytes spell, high byte first. -/
def number (bs : List Byte) : Nat := bs.foldl (fun n b => n * 256 + b.toNat) 0

/-- The signed number that two bytes spell. -/
def signed16 (bs : List Byte) : Int := (BitVec.ofNat 16 (number bs)).toInt

/-- One bit into the check register (R155). -/
def crcBit (r : BitVec 16) (b : Bool) : BitVec 16 :=
  if r.msb != b then (r <<< 1) ^^^ 0x1021 else r <<< 1

/-- One byte into the check register, most significant bit first (R155). -/
def crcByte (r : BitVec 16) (x : Byte) : BitVec 16 :=
  [7, 6, 5, 4, 3, 2, 1, 0].foldl (fun r i => crcBit r (x.getLsbD i)) r

/-- The 16-bit cyclic check with generator 1021h, started at FFFFh (R155). -/
def crc16 (bs : List Byte) : BitVec 16 := bs.foldl crcByte 0xFFFF

/-- The sum check of the cabinet port: the sum modulo 256 (chapter 12.1). -/
def sum8 (bs : List Byte) : Byte := bs.foldl (· + ·) 0

end Sys2Proof.Machine.Wire
end

