-- ==== Sys2Proof/Machine/GuardSet.lean ====
section
/-! DEFINITION. The guard set of R194: its fields, their identifiers (chapter 12.4), ranges, factory values and relations
(R107, R130, R134), and the tariff calendar of R42. -/

namespace Sys2Proof.Machine

/-- The duty of a heater circuit (chapter 7). -/
inductive Role | none | overflowPipe | riser | valveChamber | tank | general
deriving DecidableEq, Repr

/-- The installer's values, in the order of the table of R194. -/
structure GuardSet where
  ceiling : Nat
  coldMargin : Nat
  approachBand : Nat
  disagreement : Nat
  rearm : Nat
  reserveFloor : Nat
  refillMargin : Nat
  dayStart : Nat
  holdoverLimit : Nat
  weightNight : Nat
  weightShoulder : Nat
  weightDay : Nat
  allowance : Nat
  noFlowTime : Nat
  rating : Trio Nat
  litres : Trio Nat
  dwell : Trio Nat
  confirmTime : Nat
  stopConfirmTime : Nat
  lockoutTime : Nat
  retries : Nat
  travelLimit : Nat
  supplyLimit : Nat
  role : Octo Role
  circuitRating : Octo Nat
  probeIndex : Octo (Fin 8)
  floorOverflow : Int
  floorRiser : Int
  floorChamber : Int
  hysteresis : Int
  frozenThreshold : Int
  thawThreshold : Int
  tankProbe : Option (Fin 8)
  tankCold : Int
  stagnationTime : Nat
  turnoverDepth : Nat
  towerAddress : Nat
  answerSlot : Nat
  accessCode : BitVec 32
deriving DecidableEq, Repr

/-- One field of the guard set, as WRITE GUARD and READ GUARD name it. -/
inductive GuardField
  | ceiling | coldMargin | approachBand | disagreement | rearm | reserveFloor | refillMargin
  | dayStart | holdoverLimit | weightNight | weightShoulder | weightDay | allowance
  | noFlowTime
  | rating (p : Fin 3) | litres (p : Fin 3) | dwell (p : Fin 3)
  | confirmTime | stopConfirmTime | lockoutTime | retries | travelLimit | supplyLimit
  | role (c : Fin 8) | circuitRating (c : Fin 8) | probeIndex (c : Fin 8)
  | floorOverflow | floorRiser | floorChamber | hysteresis | frozenThreshold | thawThreshold
  | tankProbe | tankCold | stagnationTime | turnoverDepth
  | towerAddress | answerSlot | accessCode
deriving DecidableEq, Repr

/-- One entry of the tariff calendar (R42). -/
structure TariffEntry where
  start : Nat
  band : Band
deriving DecidableEq, Repr

/-- The code of a role (chapter 12.4). -/
def roleCode : Role → Nat
  | .none => 0 | .overflowPipe => 1 | .riser => 2 | .valveChamber => 3 | .tank => 4 | .general => 5

/-- The role a code names; codes above 5 lie outside the range (R194). -/
def roleOfCode : Nat → Role
  | 1 => .overflowPipe | 2 => .riser | 3 => .valveChamber | 4 => .tank | 5 => .general | _ => .none

/-- The code of a band (chapter 12.4). -/
def bandCode : Band → Nat
  | .night => 0 | .shoulder => 1 | .day => 2

/-- The band a code names, if any (chapter 12.4). -/
def bandOfCode : Nat → Option Band
  | 0 => some .night | 1 => some .shoulder | 2 => some .day | _ => Option.none

/-- The field an identifier names; an unassigned identifier names none (chapter 12.4). -/
def guardFieldOfId (id : Byte) : Option GuardField :=
  let n := id.toNat
  let pump := fun (b : Nat) (f : Fin 3 → GuardField) =>
    if n = b then some (f 0) else if n = b + 1 then some (f 1) else if n = b + 2 then some (f 2) else Option.none
  let circuit := fun (f : Fin 8 → GuardField) => some (f (Fin.ofNat 8 n))
  match n with
  | 0x01 => some .ceiling | 0x02 => some .coldMargin | 0x03 => some .approachBand | 0x04 => some .disagreement
  | 0x05 => some .rearm | 0x06 => some .reserveFloor | 0x07 => some .refillMargin
  | 0x10 => some .dayStart | 0x11 => some .holdoverLimit | 0x12 => some .weightNight | 0x13 => some .weightShoulder
  | 0x14 => some .weightDay | 0x15 => some .allowance
  | 0x18 => some .noFlowTime
  | 0x2C => some .confirmTime | 0x2D => some .stopConfirmTime | 0x2E => some .lockoutTime | 0x2F => some .retries
  | 0x30 => some .travelLimit | 0x31 => some .supplyLimit
  | 0x58 => some .floorOverflow | 0x59 => some .floorRiser | 0x5A => some .floorChamber
  | 0x5B => some .hysteresis | 0x5C => some .frozenThreshold | 0x5D => some .thawThreshold
  | 0x5E => some .tankProbe | 0x5F => some .tankCold | 0x60 => some .stagnationTime | 0x61 => some .turnoverDepth
  | 0x70 => some .towerAddress | 0x71 => some .answerSlot | 0x7F => some .accessCode
  | _ =>
    if 0x20 ≤ n ∧ n < 0x24 then pump 0x20 .rating
    else if 0x24 ≤ n ∧ n < 0x28 then pump 0x24 .litres
    else if 0x28 ≤ n ∧ n < 0x2C then pump 0x28 .dwell
    else if 0x40 ≤ n ∧ n < 0x48 then circuit .role
    else if 0x48 ≤ n ∧ n < 0x50 then circuit .circuitRating
    else if 0x50 ≤ n ∧ n < 0x58 then circuit .probeIndex
    else Option.none

/-- Every field in the order of the table of R194. -/
def allGuardFields : List GuardField :=
  [.ceiling, .coldMargin, .approachBand, .disagreement, .rearm, .reserveFloor, .refillMargin, .dayStart, .holdoverLimit,
    .weightNight, .weightShoulder, .weightDay, .allowance, .noFlowTime] ++
  pumpNumbers.map .rating ++ pumpNumbers.map .litres ++ pumpNumbers.map .dwell ++
  [.confirmTime, .stopConfirmTime, .lockoutTime, .retries, .travelLimit, .supplyLimit] ++
  eightNumbers.map .role ++ eightNumbers.map .circuitRating ++ eightNumbers.map .probeIndex ++
  [.floorOverflow, .floorRiser, .floorChamber, .hysteresis, .frozenThreshold, .thawThreshold, .tankProbe, .tankCold,
    .stagnationTime, .turnoverDepth, .towerAddress, .answerSlot, .accessCode]

/-- The value of a field as a number; the tank probe reads 8 for none (chapter 12.4). -/
def guardValue (g : GuardSet) : GuardField → Int
  | .ceiling => g.ceiling | .coldMargin => g.coldMargin | .approachBand => g.approachBand
  | .disagreement => g.disagreement | .rearm => g.rearm | .reserveFloor => g.reserveFloor
  | .refillMargin => g.refillMargin | .dayStart => g.dayStart | .holdoverLimit => g.holdoverLimit
  | .weightNight => g.weightNight | .weightShoulder => g.weightShoulder | .weightDay => g.weightDay
  | .allowance => g.allowance | .noFlowTime => g.noFlowTime
  | .rating p => g.rating.get p | .litres p => g.litres.get p | .dwell p => g.dwell.get p
  | .confirmTime => g.confirmTime | .stopConfirmTime => g.stopConfirmTime | .lockoutTime => g.lockoutTime
  | .retries => g.retries | .travelLimit => g.travelLimit | .supplyLimit => g.supplyLimit
  | .role c => roleCode (g.role.get c) | .circuitRating c => g.circuitRating.get c
  | .probeIndex c => (g.probeIndex.get c).val
  | .floorOverflow => g.floorOverflow | .floorRiser => g.floorRiser | .floorChamber => g.floorChamber
  | .hysteresis => g.hysteresis | .frozenThreshold => g.frozenThreshold | .thawThreshold => g.thawThreshold
  | .tankProbe => match g.tankProbe with | Option.none => 8 | some i => i.val
  | .tankCold => g.tankCold | .stagnationTime => g.stagnationTime | .turnoverDepth => g.turnoverDepth
  | .towerAddress => g.towerAddress | .answerSlot => g.answerSlot | .accessCode => g.accessCode.toNat

/-- The least and greatest value of a field (R194, with the chapters that own the fields). -/
def guardRange : GuardField → Int × Int
  | .ceiling => (1000, 20000) | .coldMargin => (0, 5000) | .approachBand => (0, 2000) | .disagreement => (0, 2000)
  | .rearm => (0, 20000) | .reserveFloor => (0, 20000) | .refillMargin => (100, 10000)
  | .dayStart => (0, 1439) | .holdoverLimit => (1, 255)
  | .weightNight => (0, 15) | .weightShoulder => (0, 15) | .weightDay => (0, 15)
  | .allowance => (0, 65535) | .noFlowTime => (10, 600)
  | .rating _ => (1, 31) | .litres _ => (1, 100) | .dwell _ => (0, 60)
  | .confirmTime => (1, 30) | .stopConfirmTime => (1, 10) | .lockoutTime => (30, 1800) | .retries => (0, 3)
  | .travelLimit => (5, 120) | .supplyLimit => (1, 63)
  | .role _ => (0, 5) | .circuitRating _ => (1, 15) | .probeIndex _ => (0, 7)
  | .floorOverflow => (0, 100) | .floorRiser => (0, 100) | .floorChamber => (0, 100)
  | .hysteresis => (2, 50) | .frozenThreshold => (-100, 50) | .thawThreshold => (-50, 150)
  | .tankProbe => (0, 8) | .tankCold => (0, 100) | .stagnationTime => (1, 72) | .turnoverDepth => (100, 3000)
  | .towerAddress => (1, 250) | .answerSlot => (2, 31) | .accessCode => (0, 4294967295)

/-- The fields whose value is read signed: the temperatures (R199). -/
def guardFieldSigned : GuardField → Bool
  | .floorOverflow | .floorRiser | .floorChamber | .hysteresis | .frozenThreshold | .thawThreshold | .tankCold => true
  | _ => false

/-- The number that the four bytes of a value carry for a field (R199). -/
def guardOperand (f : GuardField) (v : BitVec 32) : Int :=
  if guardFieldSigned f then v.toInt else v.toNat

/-- The value lies in the field's range (R195). -/
def guardInRange (f : GuardField) (v : Int) : Bool := (guardRange f).1 ≤ v && v ≤ (guardRange f).2

/-- The guard set with one field replaced. -/
def putGuardValue (g : GuardSet) (f : GuardField) (v : Int) : GuardSet :=
  match f with
  | .ceiling => { g with ceiling := v.toNat } | .coldMargin => { g with coldMargin := v.toNat }
  | .approachBand => { g with approachBand := v.toNat } | .disagreement => { g with disagreement := v.toNat }
  | .rearm => { g with rearm := v.toNat } | .reserveFloor => { g with reserveFloor := v.toNat }
  | .refillMargin => { g with refillMargin := v.toNat } | .dayStart => { g with dayStart := v.toNat }
  | .holdoverLimit => { g with holdoverLimit := v.toNat } | .weightNight => { g with weightNight := v.toNat }
  | .weightShoulder => { g with weightShoulder := v.toNat } | .weightDay => { g with weightDay := v.toNat }
  | .allowance => { g with allowance := v.toNat } | .noFlowTime => { g with noFlowTime := v.toNat }
  | .rating p => { g with rating := g.rating.set p v.toNat } | .litres p => { g with litres := g.litres.set p v.toNat }
  | .dwell p => { g with dwell := g.dwell.set p v.toNat }
  | .confirmTime => { g with confirmTime := v.toNat } | .stopConfirmTime => { g with stopConfirmTime := v.toNat }
  | .lockoutTime => { g with lockoutTime := v.toNat } | .retries => { g with retries := v.toNat }
  | .travelLimit => { g with travelLimit := v.toNat } | .supplyLimit => { g with supplyLimit := v.toNat }
  | .role c => { g with role := g.role.set c (roleOfCode v.toNat) }
  | .circuitRating c => { g with circuitRating := g.circuitRating.set c v.toNat }
  | .probeIndex c => { g with probeIndex := g.probeIndex.set c (Fin.ofNat 8 v.toNat) }
  | .floorOverflow => { g with floorOverflow := v } | .floorRiser => { g with floorRiser := v }
  | .floorChamber => { g with floorChamber := v } | .hysteresis => { g with hysteresis := v }
  | .frozenThreshold => { g with frozenThreshold := v } | .thawThreshold => { g with thawThreshold := v }
  | .tankProbe => { g with tankProbe := if v = 8 then Option.none else some (Fin.ofNat 8 v.toNat) }
  | .tankCold => { g with tankCold := v } | .stagnationTime => { g with stagnationTime := v.toNat }
  | .turnoverDepth => { g with turnoverDepth := v.toNat } | .towerAddress => { g with towerAddress := v.toNat }
  | .answerSlot => { g with answerSlot := v.toNat } | .accessCode => { g with accessCode := BitVec.ofInt 32 v }

/-- The four bytes that carry a field's value (chapter 12.4). -/
def guardBytes (g : GuardSet) (f : GuardField) : List Byte := Wire.u32 (BitVec.ofInt 32 (guardValue g f))

/-- The level relations of R130, judged with the pipe taken as FROZEN. -/
def levelRelations (g : GuardSet) : Bool :=
  g.rearm + g.coldMargin + g.approachBand + 100 ≤ g.ceiling
    && g.reserveFloor + g.refillMargin + g.coldMargin + g.approachBand ≤ g.ceiling

/-- Every rating is at or below the supply limit (R107, R130). -/
def ratingsFit (g : GuardSet) : Bool :=
  g.rating.toList.all (· ≤ g.supplyLimit) && g.circuitRating.toList.all (· ≤ g.supplyLimit)

/-- At most one circuit has the role (R134). -/
def roleUnique (g : GuardSet) (r : Role) : Bool := (g.role.toList.filter (· = r)).length ≤ 1

/-- The relations of R134: one OVERFLOW_PIPE, one TANK, the thaw threshold above the frozen threshold. -/
def frostRelations (g : GuardSet) : Bool :=
  roleUnique g .overflowPipe && roleUnique g .tank && g.frozenThreshold < g.thawThreshold

/-- Every relation a written working copy must meet (R195, third check). -/
def guardRelations (g : GuardSet) : Bool := levelRelations g && ratingsFit g && frostRelations g

/-- The circuit whose role is the one given, if any (R134, R145). -/
def circuitOfRole (g : GuardSet) (r : Role) : Option (Fin 8) := eightNumbers.find? (fun c => g.role.get c = r)

/-- The factory guard set (R194). -/
def factoryGuardSet : GuardSet where
  ceiling := 18000
  coldMargin := 800
  approachBand := 300
  disagreement := 500
  rearm := 16500
  reserveFloor := 6000
  refillMargin := 3000
  dayStart := 1320
  holdoverLimit := 120
  weightNight := 0
  weightShoulder := 2
  weightDay := 4
  allowance := 600
  noFlowTime := 120
  rating := Trio.all 10
  litres := Trio.all 10
  dwell := Trio.all 5
  confirmTime := 5
  stopConfirmTime := 3
  lockoutTime := 180
  retries := 2
  travelLimit := 60
  supplyLimit := 24
  role := ⟨.overflowPipe, .riser, .valveChamber, .tank, .none, .none, .none, .none⟩
  circuitRating := Octo.all 2
  probeIndex := ⟨0, 1, 2, 3, 4, 5, 6, 7⟩
  floorOverflow := 20
  floorRiser := 20
  floorChamber := 30
  hysteresis := 10
  frozenThreshold := 0
  thawThreshold := 15
  tankProbe := some 3
  tankCold := 30
  stagnationTime := 12
  turnoverDepth := 500
  towerAddress := 250
  answerSlot := 31
  accessCode := 0

/-- The factory calendar (R194). -/
def factoryCalendar : List TariffEntry :=
  [⟨0, .night⟩, ⟨480, .shoulder⟩, ⟨600, .day⟩, ⟨1260, .shoulder⟩]

/-- Start minutes rise strictly along the list (R42). -/
def startsAscend : List Nat → Bool
  | a :: b :: rest => a < b && startsAscend (b :: rest)
  | _ => true

/-- The entries form a calendar: 1 to 8 of them, the first at minute 0, minutes at most 1439 and strictly ascending (R42). -/
def calendarStarts (starts : List Nat) : Bool :=
  1 ≤ starts.length && starts.length ≤ 8 && starts.head? == some 0 && starts.all (· ≤ 1439) && startsAscend starts

/-- A stored calendar meets R42. -/
def calendarGood (es : List TariffEntry) : Bool := calendarStarts (es.map (·.start))

/-- The entries of a SET TARIFF as a calendar, when they meet R42 and R44. -/
def calendarOf (es : List TariffField) : Option (List TariffEntry) :=
  if calendarStarts (es.map (·.start)) && es.all (fun e => (bandOfCode e.band).isSome) then
    some (es.map (fun e => ⟨e.start, (bandOfCode e.band).getD .night⟩))
  else Option.none

/-- The bytes of a calendar entry: start minute 2, band 1 (chapter 12.3). -/
def entryBytes (e : TariffEntry) : List Byte := Wire.u16 e.start ++ Wire.u8 (bandCode e.band)

/-- The check value over a guard set and a calendar: the fields in the order of R194, four bytes each, then the
entries in ascending start minute (R194; the byte form is log entry 17). -/
def imageCheck (g : GuardSet) (es : List TariffEntry) : BitVec 16 :=
  Wire.crc16 (allGuardFields.flatMap (guardBytes g) ++ es.flatMap entryBytes)

/-- Every field of the guard set lies in its range (R198). -/
def guardSetInRange (g : GuardSet) : Bool := allGuardFields.all (fun f => guardInRange f (guardValue g f))

end Sys2Proof.Machine
end

