-- ==== Sys2Proof/Machine/State.lean ====
section
/-! DEFINITION. Every piece of state the spec gives the part, as plain data, the queue of commands, and the state after reset. -/

namespace Sys2Proof.Machine

/-! ### The order book (chapter 1) -/

/-- Who placed an order (R4). -/
inductive Origin | cabinet | district | system
deriving DecidableEq, Repr

/-- The states of a FILL order, in the order of R11. -/
inductive FillState | pending | due | starting | running | suspended | served | retiring
deriving DecidableEq, Repr

/-- The states of a HEAT order (R12). -/
inductive HeatState | pending | active | served
deriving DecidableEq, Repr

/-- The hold reasons of a FILL order (R6). -/
inductive Hold | band | allowance | guard | level | pump | supply | valve | time
deriving DecidableEq, Repr

/-- The outcomes of a FILL order (R26). -/
inductive Served | reached | windowClosed | missed | cut | noFlow | pumpFault | interrupted
deriving DecidableEq, Repr

/-- A recurrence as the book stores it: a ONCE always has its day (R7). -/
inductive Recurrence
  | once (day : Nat)
  | every (k r : Nat)
deriving DecidableEq, Repr

/-- The window of an external order: its marks and the days it is due (R6, R8). -/
structure Window where
  start : Nat
  stop : Nat
  recur : Recurrence
deriving DecidableEq, Repr

/-- The resume context of a FILL order (R6). -/
structure Context where
  litres : Nat
  first : Nat
  interruptions : Nat
deriving DecidableEq, Repr

/-- A checked set of FILL fields to change, its ONCE bound: the staged amendment (R19). -/
structure FillChange where
  pump : Option (Fin 3)
  target : Option Nat
  start : Option Nat
  stop : Option Nat
  recur : Option Recurrence
  band : Option BandPermission
  priority : Option Nat
deriving DecidableEq, Repr

/-- The FILL part of a record; the window is absent on a system order (R6, R13). -/
structure FillRecord where
  pump : Fin 3
  target : Nat
  window : Option Window
  band : BandPermission
  priority : Nat
  state : FillState
  hold : Option Hold
  context : Option Context
  outcome : Option Served
  servedDay : Option Nat
  staged : Option FillChange
deriving DecidableEq, Repr

/-- The HEAT part of a record (R8). -/
structure HeatRecord where
  circuit : Fin 8
  hold : Int
  window : Window
  state : HeatState
  servedDay : Option Nat
deriving DecidableEq, Repr

/-- The REPORT part of a record (R9). -/
structure ReportRecord where
  slot : Nat
  k : Nat
  r : Nat
  contents : List Selector
  lastSent : Option Nat
deriving DecidableEq, Repr

/-- The part of a record that belongs to its kind (R4). -/
inductive Body
  | fill (f : FillRecord)
  | heat (h : HeatRecord)
  | report (r : ReportRecord)
deriving DecidableEq, Repr

/-- One order record (R4). -/
structure Record where
  number : Nat
  origin : Origin
  revision : Nat
  body : Body
deriving DecidableEq, Repr

/-- The day outcome counts, 0 to 255 each (R26). -/
structure OutcomeCounts where
  reached : Nat
  windowClosed : Nat
  missed : Nat
  cut : Nat
  noFlow : Nat
  pumpFault : Nat
  interrupted : Nat
deriving DecidableEq, Repr

/-- The order book: the live records in ascending number, the allocator and the day's counts (R1). -/
structure Book where
  records : List Record
  lastAssigned : Nat
  outcomes : OutcomeCounts
deriving DecidableEq, Repr

/-! ### The schedule clock (chapter 2) -/

/-- How far schedule time may be relied upon (R34). -/
inductive Trust | free | synced | holdover | local
deriving DecidableEq, Repr

/-- The items of R29; the calendar stands in the store. -/
structure Clock where
  day : Nat
  minute : Nat
  second : Nat
  ms : Nat
  lastMinute : Nat
  trust : Trust
  rank : Nat
  roundPeriod : Nat
  lastOpener : Option Nat
  holdover : Nat
  band : Band
  tally : Nat
  reachedToday : Bool
deriving DecidableEq, Repr

/-! ### Filling (chapter 3) -/

/-- The pump assignment and no-flow timer of one pump (R49). The cause with which the last holder was suspended is the
model's own field (log entry 12). -/
structure Assignment where
  holder : Option Nat
  lastHolder : Option Nat
  lastCause : Option Hold
  noFlow : Option Nat
deriving DecidableEq, Repr

/-! ### Pumps and the inlet valve (chapter 4) -/

/-- The states of a pump channel, in the order of R75. -/
inductive PumpState | stopped | claiming | starting | running | stopping | lockout | faulted | outOfService
deriving DecidableEq, Repr

/-- Why a channel is FAULTED (R75). -/
inductive FaultCause | overload | noStart | noFlow | welded
deriving DecidableEq, Repr

/-- What the stop under way will end in (R75). -/
inductive StopCause | none | retry | noStart | noFlow | overload
deriving DecidableEq, Repr

/-- The classes of claims, best first (R96). -/
inductive ClaimClass | reserve | critical | turnover | fill | frost
deriving DecidableEq, Repr

/-- One pump channel (R75). A timer that is stopped is `none`. -/
structure Pump where
  state : PumpState
  cause : Option FaultCause
  attempts : Nat
  pendingStart : Option ClaimClass
  stopCause : StopCause
  dwell : Option Nat
  confirm : Option Nat
  stopTimer : Option Nat
  lockout : Option Nat
  judged : Bool
  overload : Bool
deriving DecidableEq, Repr

/-- The states of the inlet valve channel (R92). -/
inductive ValveState | isOpen | closing | closed | opening | fault
deriving DecidableEq, Repr

/-- A direction of valve travel (R92). -/
inductive Direction | toOpen | toClose
deriving DecidableEq, Repr

/-- The inlet valve channel (R92); the last travel is what R94 names in both limits active. -/
structure Valve where
  state : ValveState
  travel : Option Nat
  faultDirection : Option Direction
  lastTravel : Direction
deriving DecidableEq, Repr

/-! ### The supply arbiter (chapter 5) -/

/-- A load that asks for supply (R95). -/
inductive Claimant
  | pump (p : Fin 3)
  | circuit (c : Fin 8)
deriving DecidableEq, Repr

/-- A claim; in the granted list `reclaiming` tells RECLAIMING from GRANTED (R95, R97). -/
structure Claim where
  claimant : Claimant
  units : Nat
  cls : ClaimClass
  seq : Nat
  reclaiming : Bool
deriving DecidableEq, Repr

/-- A reclaim in flight (R104). -/
structure Reclaim where
  serves : Claimant
  need : Nat
  victims : List Claimant
deriving DecidableEq, Repr

/-- The arbiter: the two lists, the arrival counter, the reclaim (R95 to R108). -/
structure Arbiter where
  waiting : List Claim
  granted : List Claim
  counter : Nat
  reclaim : Option Reclaim
deriving DecidableEq, Repr

/-! ### Level and guarding (chapter 6) -/

/-- The level monitor (R111 to R114); the window stands oldest first. -/
structure Level where
  window : List Nat
  timer : Option Nat
  rejected : Nat
  newSample : Option Nat
  oldSample : Option Nat
  trend : Option Int
deriving DecidableEq, Repr

/-- The six guard states (chapter 6.3). -/
inductive GuardState | normal | near | blind | tripped | latched | containment
deriving DecidableEq, Repr

/-- The overflow guard (R115, R116, R121, R128). -/
structure Guard where
  state : GuardState
  ceiling : Nat
  frozenPipe : Bool
  held : Trio Bool
  reserve : Bool
deriving DecidableEq, Repr

/-! ### Frost protection (chapter 7) -/

/-- Whether a probe may be relied on (R132). -/
inductive ProbeCondition | awaiting | valid | invalid
deriving DecidableEq, Repr

/-- One entry of the probe table (R132). -/
structure Probe where
  condition : ProbeCondition
  reading : Option Int
  silence : Option Nat
deriving DecidableEq, Repr

/-- The states of a heater circuit (R138). -/
inductive CircuitState | off | calling | heating | shed | fault
deriving DecidableEq, Repr

/-- One heater circuit: its state, the setpoint it holds to and its feedback timer (R135, R138). -/
structure Circuit where
  state : CircuitState
  setpoint : Option Int
  timer : Option Nat
deriving DecidableEq, Repr

/-- Why the pipe is held FROZEN (R145). -/
inductive PipeReason | cold | noReading
deriving DecidableEq, Repr

/-- The frost controller; the pipe is FROZEN with its reason, or THAWED (`none`) (R145). -/
structure Frost where
  probes : Octo Probe
  circuits : Octo Circuit
  pipe : Option PipeReason
  stagnation : Nat
  fallback : Bool
deriving DecidableEq, Repr

/-! ### The district link (chapters 8 and 9) -/

/-- What the controller does on the line (R153). -/
inductive LineState | quiet | receiving | sending
deriving DecidableEq, Repr

/-- The round in force: its count, slot length and starting instant, and the slots that have begun (R153, R159). -/
structure Round where
  count : Nat
  slotLength : Nat
  start : Nat
  begun : Nat
deriving DecidableEq, Repr

/-- What a built frame carries: a REPORT of an order (`none` once the order has left the book), or the ANSWER (R160, R164). -/
inductive FrameContent
  | report (order : Option Nat) (round : Nat)
  | answer
deriving DecidableEq, Repr

/-- A built frame with its slot and the instant its sending is due (R160). -/
structure FrameDue where
  slot : Nat
  due : Nat
  content : FrameContent
  bytes : List Byte
deriving DecidableEq, Repr

/-- The district link controller (R153); the frame being sent is `sending` (R161). -/
structure Link where
  line : LineState
  assembly : List Byte
  round : Option Round
  plan : List (Nat × Nat)
  answerSlot : Option Nat
  frameDue : Option FrameDue
  sending : Option FrameDue
  sequence : Nat
deriving DecidableEq, Repr

/-- The result codes, in the order of the table of chapter 10. -/
inductive ResultCode
  | done | staged | busy | full | noOrder | stale | stagedBusy | retiring | system | invalid | conflict | locked
  | inUse | conditions | timeSynced | notHere | unknown | frameError | none
deriving DecidableEq, Repr

/-- A result with its body; `masked` is the body with every guard-set value carried as 0 (R177). -/
structure Response where
  code : ResultCode
  body : List Byte
  masked : List Byte
deriving DecidableEq, Repr

/-- The answer record (R172). -/
structure Answer where
  seq : Byte
  code : Byte
  response : Response
  refused : Option Byte
  heldOver : Bool
deriving DecidableEq, Repr

/-- The remote request handling (R172). -/
structure Remote where
  answer : Option Answer
  unlocked : Bool
  unlockLeft : Nat
  refusalLeft : Nat
deriving DecidableEq, Repr

/-! ### The cabinet port (chapter 10) -/

/-- The port state (R183). -/
inductive PortState | idle | working | held
deriving DecidableEq, Repr

/-- A frame being clocked: the port state at its beginning and what SDO gives (R184). -/
structure Clocked where
  atBegin : PortState
  sdo : List Byte
deriving DecidableEq, Repr

/-- A request in flight and the result once its owner has formed it (R183, R186). -/
structure InFlight where
  request : Request
  formed : Option Response
deriving DecidableEq, Repr

/-- The cabinet port (R183). -/
structure Cabinet where
  state : PortState
  held : Option Response
  clocked : Option Clocked
  inFlight : Option InFlight
deriving DecidableEq, Repr

/-! ### The guard store (chapter 11) -/

/-- The non-volatile image (R194, R197). -/
structure Image where
  incomplete : Bool
  guardSet : GuardSet
  calendar : List TariffEntry
  check : BitVec 16
deriving DecidableEq, Repr

/-- The guard store: the working copy of the calendar, the image, and whether a commit is in flight (R194, R197).
The working copy of the guard set is the field `gs` of State. -/
structure Store where
  calendar : List TariffEntry
  image : Image
  commit : Bool
deriving DecidableEq, Repr

/-- The levels of the field inputs as last announced or sampled. -/
structure Inputs where
  feedback : Trio Bool
  overload : Trio Bool
  float : Bool
  openLimit : Bool
  closedLimit : Bool
  current : Octo Bool
  key : Bool
deriving DecidableEq, Repr

/-- An announcement one block has made and the receiver has not yet taken (00_scope.md, the paths between blocks). -/
inductive Note
  /-- to the fill controller: evaluate (R50) -/
  | evalFill
  /-- a pump channel changed state (R78) -/
  | pumpChanged (p : Fin 3)
  /-- running confirmed (R58) -/
  | runningConfirmed (p : Fin 3)
  /-- feedback drop while running (R83) -/
  | feedbackDrop (p : Fin 3)
  /-- the arbiter marked a pump's claim (R64) -/
  | reclaimReport (p : Fin 3)
  /-- a weld, to the guard (R89) -/
  | weld (p : Fin 3)
  /-- the granting walk is to run (R103) -/
  | walk
  /-- to the guard: judge the state (R116) -/
  | guardJudge
  /-- to the guard: work the effective ceiling out (R115) -/
  | ceiling
  /-- the guard asks for order 240 (R69) -/
  | reserveRequest
  /-- to the frost controller: the judgement of R149 -/
  | frostJudge
  /-- a FILL service with the level at first start (R148) -/
  | served (first : Option Nat)
  /-- the frost controller asks for order 241 (R70) -/
  | turnoverRequest (target : Nat)
  /-- the frost controller withdraws its request (R151) -/
  | withdrawTurnover
  /-- the tally charge of the ended minute (R47) -/
  | charge
  /-- re-evaluate the band (R43) -/
  | reband
  /-- the fill controller judges windows at a minute (R51) -/
  | fillWindows (m : Nat)
  /-- the frost controller takes a minute event (R136, R148) -/
  | heatMinute (m : Nat)
  /-- the frost controller judges windows at the day end (R136) -/
  | heatWindows (m : Nat)
  /-- the level monitor takes its sample (R114) -/
  | sample
  /-- the rollover and minute 0 of the day reached (R32), with the second the new day begins at -/
  | rollTo (day : Nat) (second : Nat)
  /-- the fill controller and the frost controller judge a discontinuity (R68, R137) -/
  | discontinuity
deriving DecidableEq, Repr

/-- The whole state of the part, and the queue of commands that wait. -/
structure State where
  /-- the commands waiting, first in, first out (log entry 1) -/
  pending : List Instr
  /-- the local instant of the crystal in milliseconds (R35, R159; log entry 32) -/
  crystal : Nat
  clock : Clock
  gs : GuardSet
  store : Store
  book : Book
  fill : Trio Assignment
  pumps : Trio Pump
  valve : Valve
  arbiter : Arbiter
  level : Level
  guard : Guard
  frost : Frost
  link : Link
  remote : Remote
  cabinet : Cabinet
  /-- the event set, flag i as bit i (R188, chapter 12.3) -/
  events : BitVec 17
  /-- the enables of the event set (R188) -/
  enables : BitVec 17
  inputs : Inputs
  /-- the last result formed; the model's own field (log entry 6) -/
  lastResult : Option Response
  /-- announcements not yet taken; the model's own field (log entries 4 and 5) -/
  agenda : List Note
  /-- the free value that picks the next free orders; the model's own field (log entry 3) -/
  choice : Nat
  /-- how many free values have been taken; the model's own field (log entry 3) -/
  freeCount : Nat
deriving DecidableEq, Repr

/-- The part never faults: every misuse the spec describes is a result code or leaves the state (no constructor; safe). -/
inductive Fault
deriving DecidableEq, Repr

/-- A command without a meaning. -/
inductive Refusal
  /-- raised by a refused arm of exec for a row that has no meaning yet; safe: the state is not advanced -/
  | notModelled (mnemonic : String)
deriving DecidableEq, Repr

/-! ### The state after reset (R198) -/

namespace State

/-- The field inputs right after power-up as the model fixes them (log entry 2). -/
def quietInputs : Inputs where
  feedback := Trio.all false
  overload := Trio.all false
  float := false
  openLimit := false
  closedLimit := false
  current := Octo.all false
  key := false

/-- A pump channel after reset with its inputs inactive: resting for the full lockout time (R91). -/
def resetPump : Pump where
  state := .lockout
  cause := none
  attempts := 0
  pendingStart := none
  stopCause := .none
  dwell := none
  confirm := none
  stopTimer := none
  lockout := some 180
  judged := false
  overload := false

/-- A circuit after reset, holding the setpoint of its frost floor (R135, R138). -/
def resetCircuit (setpoint : Option Int) : Circuit where
  state := .off
  setpoint := setpoint
  timer := none

/-- The machine right after reset (R198), with a good image of the factory values and every field input inactive
(log entries 2 and 30). -/
def reset : State where
  pending := []
  crystal := 0
  clock :=
    { day := 0, minute := 0, second := 0, ms := 0, lastMinute := 0, trust := .free, rank := 7, roundPeriod := 60000,
      lastOpener := none, holdover := 0, band := .day, tally := 0, reachedToday := false }
  gs := factoryGuardSet
  store :=
    { calendar := factoryCalendar
      image := { incomplete := false, guardSet := factoryGuardSet, calendar := factoryCalendar,
                 check := imageCheck factoryGuardSet factoryCalendar }
      commit := false }
  book := { records := [], lastAssigned := 0, outcomes := ⟨0, 0, 0, 0, 0, 0, 0⟩ }
  fill := Trio.all { holder := none, lastHolder := none, lastCause := none, noFlow := none }
  pumps := Trio.all resetPump
  valve := { state := .opening, travel := some 60, faultDirection := none, lastTravel := .toOpen }
  arbiter := { waiting := [], granted := [], counter := 0, reclaim := none }
  level := { window := [], timer := none, rejected := 0, newSample := none, oldSample := none, trend := none }
  guard := { state := .blind, ceiling := 17200, frozenPipe := true, held := Trio.all false, reserve := false }
  frost :=
    { probes := Octo.all { condition := .awaiting, reading := none, silence := some 30 }
      circuits :=
        ⟨resetCircuit (some 20), resetCircuit (some 20), resetCircuit (some 30), resetCircuit none, resetCircuit none,
          resetCircuit none, resetCircuit none, resetCircuit none⟩
      pipe := some .noReading
      stagnation := 0
      fallback := false }
  link :=
    { line := .quiet, assembly := [], round := none, plan := [], answerSlot := none, frameDue := none, sending := none,
      sequence := 0 }
  remote := { answer := none, unlocked := false, unlockLeft := 0, refusalLeft := 0 }
  cabinet := { state := .idle, held := none, clocked := none, inFlight := none }
  events := 0x10000
  enables := 0x1FFFF
  inputs := quietInputs
  lastResult := none
  agenda := []
  choice := 0
  freeCount := 0

end State

end Sys2Proof.Machine
end

