-- ==== Sys2Proof/Machine/Flags.lean ====
section
/-! DEFINITION. The cabinet event set, its lines (R188, R189) and the other outputs the state drives. -/

namespace Sys2Proof.Machine

/-- The seventeen flags, in the order of R188. -/
inductive EventFlag
  | trip | rearm | latch | contain | blind | pumpFault | valveFault | circuitFault | probeFault | frozen | outcome
  | allowance | time | discontinuity | remote | defaulted | powerUp
deriving DecidableEq, Repr

/-- The bit of a flag (chapter 12.3). -/
def flagBit : EventFlag → Nat
  | .trip => 0 | .rearm => 1 | .latch => 2 | .contain => 3 | .blind => 4 | .pumpFault => 5 | .valveFault => 6
  | .circuitFault => 7 | .probeFault => 8 | .frozen => 9 | .outcome => 10 | .allowance => 11 | .time => 12
  | .discontinuity => 13 | .remote => 14 | .defaulted => 15 | .powerUp => 16

/-- The flag as a mask over the event set. -/
def flagMask (f : EventFlag) : BitVec 17 := 1#17 <<< flagBit f

/-- Sets a flag; a flag already set stays set (R188). -/
def setEvent (f : EventFlag) (s : State) : State := { s with events := s.events ||| flagMask f }

/-- Whether a flag is set. -/
def eventIsSet (f : EventFlag) (s : State) : Bool := (s.events &&& flagMask f) != 0#17

/-- The flags of the ALERT line (R188). -/
def alertFlags : BitVec 17 :=
  flagMask .trip ||| flagMask .latch ||| flagMask .contain ||| flagMask .pumpFault ||| flagMask .valveFault
    ||| flagMask .defaulted

/-- The ALERT line: some flag of the line is both set and enabled (R189). -/
def alertLine (s : State) : Bool := (s.events &&& s.enables &&& alertFlags) != 0#17

/-- The NOTICE line: every flag not of ALERT is of NOTICE (R188, R189). -/
def noticeLine (s : State) : Bool := (s.events &&& s.enables &&& ~~~alertFlags) != 0#17

/-- READY follows the port state (R183). -/
def readyLine (s : State) : Bool := s.cabinet.state = .held

/-- A pump's contactor drive is on in STARTING and RUNNING (R77). -/
def pumpDrive (s : State) (p : Fin 3) : Bool :=
  (s.pumps.get p).state = .starting || (s.pumps.get p).state = .running

/-- The valve's drive to open is on in OPENING (R92). -/
def valveDriveOpen (s : State) : Bool := s.valve.state = .opening

/-- The valve's drive to close is on in CLOSING (R92). -/
def valveDriveClose (s : State) : Bool := s.valve.state = .closing

/-- A heater's output is on in HEATING (R138). -/
def heaterDrive (s : State) (c : Fin 8) : Bool := (s.frost.circuits.get c).state = .heating

/-- The driver enable of the district link is asserted while SENDING (R161). -/
def driverEnable (s : State) : Bool := s.link.line = .sending

end Sys2Proof.Machine
end

