-- ==== Sys2Proof/Machine/Ops.lean ====
section
/-! DEFINITION. The named operations every block shares: announcements, free orders, pumps, circuits, timers, the book. -/

namespace Sys2Proof.Machine

/-! ### Announcements -/

/-- Makes an announcement; it is taken after those already made (log entry 4). -/
def emit (n : Note) (s : State) : State := { s with agenda := s.agenda ++ [n] }

/-- Puts a list into the order that the digits of `k` pick, and gives the digits left (log entry 3). -/
def pickOrder : Nat → List Note → Nat → List Note × Nat
  | 0, ns, k => (ns, k)
  | n + 1, ns, k =>
    match ns[k % ns.length]? with
    | none => (ns, k)
    | some x =>
      let r := pickOrder n (ns.eraseIdx (k % ns.length)) (k / ns.length)
      (x :: r.1, r.2)

/-- Makes announcements that receivers may take in any order relative to one another (R78, R112). -/
def emitFree (ns : List Note) (s : State) : State :=
  let r := pickOrder ns.length ns s.choice
  { s with agenda := s.agenda ++ r.1, choice := r.2 }

/-- Takes a fresh free value for the next command (log entry 3). -/
def refreshChoice (s : State) : State :=
  { s with choice := Config.freeOrder s.freeCount, freeCount := s.freeCount + 1 }

/-! ### Pumps, circuits and probes -/

/-- Replaces a pump channel. -/
def setPump (p : Fin 3) (q : Pump) (s : State) : State := { s with pumps := s.pumps.set p q }

/-- Replaces a pump's assignment. -/
def setAssign (p : Fin 3) (a : Assignment) (s : State) : State := { s with fill := s.fill.set p a }

/-- Replaces a circuit. -/
def setCircuit (c : Fin 8) (q : Circuit) (s : State) : State :=
  { s with frost := { s.frost with circuits := s.frost.circuits.set c q } }

/-- Replaces a probe entry. -/
def setProbe (i : Fin 8) (q : Probe) (s : State) : State :=
  { s with frost := { s.frost with probes := s.frost.probes.set i q } }

/-- Takes the sampled levels of the pins no row announces (log entry 28). -/
def takeSample (x : Sample) (s : State) : State :=
  { s with inputs := { s.inputs with key := x.key, overload := x.overload } }

/-! ### Timers in seconds -/

/-- A timer after `n` seconds; it stands at 0 until its expiry is taken (log entry 8). -/
def tickTimer (n : Nat) (t : Option Nat) : Option Nat := t.map (· - n)

/-- A running timer may expire once a second has been counted since it was started or restarted: an arrival taken first in the
second of the expiry has restarted it (R60, R113, R133; log entry 8). -/
def mayExpire (full : Nat) : Option Nat → Bool
  | none => false
  | some n => n < full

/-- Every timer of a pump channel after `n` seconds. -/
def tickPump (n : Nat) (q : Pump) : Pump :=
  { q with dwell := tickTimer n q.dwell, confirm := tickTimer n q.confirm, stopTimer := tickTimer n q.stopTimer,
           lockout := tickTimer n q.lockout }

/-- Every timer of the part after `n` seconds (log entry 8). -/
def tickTimers (n : Nat) (s : State) : State :=
  { s with
    pumps := s.pumps.map (tickPump n)
    fill := s.fill.map (fun a => { a with noFlow := tickTimer n a.noFlow })
    valve := { s.valve with travel := tickTimer n s.valve.travel }
    level := { s.level with timer := tickTimer n s.level.timer }
    frost := { s.frost with
      probes := s.frost.probes.map (fun q => { q with silence := tickTimer n q.silence })
      circuits := s.frost.circuits.map (fun q => { q with timer := tickTimer n q.timer }) } }

/-! ### Levels -/

/-- The validity timer of the level monitor, in seconds (R113). -/
def validityTime : Nat := 2

/-- The filtered level: the mean of 4 readings rounded down, defined only while the window holds 4 (R112). -/
def filtered (s : State) : Option Nat :=
  match s.level.window with
  | [a, b, c, d] => some ((a + b + c + d) / 4)
  | _ => none

/-! ### The order book -/

/-- The record of a live number (R1). -/
def findRecord (n : Nat) (s : State) : Option Record := s.book.records.find? (fun r => r.number = n)

/-- A number is live while its record stands in the book (R1). -/
def isLive (n : Nat) (s : State) : Bool := (findRecord n s).isSome

/-- The FILL part of a live record, when it is a FILL order. -/
def findFill (n : Nat) (s : State) : Option FillRecord :=
  match findRecord n s with
  | some ⟨_, _, _, .fill f⟩ => some f
  | _ => none

/-- Replaces the records of the book. -/
def setRecords (rs : List Record) (s : State) : State := { s with book := { s.book with records := rs } }

/-- Applies a change to the record of one number. -/
def mapRecord (n : Nat) (f : Record → Record) (rs : List Record) : List Record :=
  rs.map (fun r => if r.number = n then f r else r)

/-- Replaces the FILL part of a record. -/
def putFill (n : Nat) (f : FillRecord) (s : State) : State :=
  setRecords (mapRecord n (fun r => { r with body := .fill f }) s.book.records) s

/-- Replaces the HEAT part of a record. -/
def putHeat (n : Nat) (h : HeatRecord) (s : State) : State :=
  setRecords (mapRecord n (fun r => { r with body := .heat h }) s.book.records) s

/-- Enters a record at its place in ascending number. -/
def insertRecord (r : Record) : List Record → List Record
  | [] => [r]
  | x :: rest => if r.number < x.number then r :: x :: rest else x :: insertRecord r rest

/-- A removed order leaves the pump assignments (R49). -/
def forgetAssignment (n : Nat) (a : Assignment) : Assignment :=
  { a with
    holder := if a.holder = some n then none else a.holder
    noFlow := if a.holder = some n then none else a.noFlow
    lastHolder := if a.lastHolder = some n then none else a.lastHolder
    lastCause := if a.lastHolder = some n then none else a.lastCause }

/-- A frame built for a removed order writes no record at its end (R161). -/
def forgetFrame (n : Nat) (f : FrameDue) : FrameDue :=
  match f.content with
  | .report (some m) r => if m = n then { f with content := .report none r } else f
  | _ => f

/-- Removes a record from the book: its plan entry is struck at that moment (R160), and no assignment names it (R49). -/
def removeRecord (n : Nat) (s : State) : State :=
  { s with
    book := { s.book with records := s.book.records.filter (fun r => r.number ≠ n) }
    fill := s.fill.map (forgetAssignment n)
    link := { s.link with
      plan := s.link.plan.filter (fun e => e.2 ≠ n)
      frameDue := s.link.frameDue.map (forgetFrame n)
      sending := s.link.sending.map (forgetFrame n) } }

/-- A recurrence matches a day count (R7). -/
def recurs : Recurrence → Nat → Bool
  | .once d, n => n = d
  | .every k r, n => n % 2 ^ k = r

/-- The recurrence selects the current day count (R7). -/
def dueToday (w : Window) (s : State) : Bool := recurs w.recur s.clock.day

/-- The minute lies in the window: start mark at or before, end mark after (R51). -/
def windowHolds (w : Window) (m : Nat) : Bool := w.start ≤ m && m < w.stop

end Sys2Proof.Machine
end

