-- ==== Sys2Proof/Machine/Arbiter.lean ====
section
/-! DEFINITION. The supply arbiter (chapter 5): claims, the waiting list, the granting walk, reclaim; and the taking of a grant by
a pump channel (R80) and by a circuit (R140), which are part of the walk. -/

namespace Sys2Proof.Machine

/-- The rank of a class, 0 the best (R96). -/
def classRank : ClaimClass → Nat
  | .reserve => 0 | .critical => 1 | .turnover => 2 | .fill => 3 | .frost => 4

/-- The class a circuit claims in (R96, R134); a circuit of role NONE places no claim. -/
def roleClass : Role → ClaimClass
  | .overflowPipe => .critical
  | .riser => .critical
  | _ => .frost

/-- The sum of the units of some claims. -/
def unitSum (cs : List Claim) : Nat := (cs.map (·.units)).sum

/-- The granted units (R99). -/
def grantedUnits (s : State) : Nat := unitSum (s.arbiter.granted.filter (fun c => !c.reclaiming))

/-- The reclaiming units (R99). -/
def reclaimingUnits (s : State) : Nat := unitSum (s.arbiter.granted.filter (·.reclaiming))

/-- The free units: the limit less the units held, or 0 when that is below 0 (R99). -/
def freeUnits (s : State) : Nat := s.gs.supplyLimit - unitSum s.arbiter.granted

/-- The claim of a claimant, in either list (R97). -/
def hasClaim (k : Claimant) (s : State) : Bool :=
  s.arbiter.waiting.any (fun c => c.claimant = k) || s.arbiter.granted.any (fun c => c.claimant = k)

/-- Enters a claim after every claim of the same or a higher class (R98). -/
def enterWaiting (c : Claim) : List Claim → List Claim
  | [] => [c]
  | x :: rest => if classRank c.cls < classRank x.cls then c :: x :: rest else x :: enterWaiting c rest

/-- The channel confirms running (R80): RUNNING, timers stopped, attempt count cleared, pending start dropped. -/
def confirmRunning (p : Fin 3) (s : State) : State :=
  let q := s.pumps.get p
  emit (.pumpChanged p) (emit (.runningConfirmed p)
    (setPump p { q with state := .running, dwell := none, confirm := none, attempts := 0, pendingStart := none } s))

/-- A pump channel in CLAIMING takes its grant and enters STARTING; with a start dwell of 0 the dwell expires at the
grant (R80). -/
def takePumpGrant (p : Fin 3) (s : State) : State :=
  let q := s.pumps.get p
  let d := s.gs.dwell.get p
  if q.state ≠ .claiming then s
  else
    let closed := s.inputs.feedback.get p
    let s1 := emit (.pumpChanged p) (setPump p
      { q with state := .starting, judged := closed, dwell := if d = 0 then none else some d,
               confirm := some (d + s.gs.confirmTime) } s)
    if d = 0 && closed then confirmRunning p s1 else s1

/-- A circuit in CALLING or SHED takes its grant and enters HEATING; its feedback timer starts at 30 s unless the
input shows current (R140, R142). -/
def takeCircuitGrant (c : Fin 8) (s : State) : State :=
  let q := s.frost.circuits.get c
  if q.state = .calling ∨ q.state = .shed then
    setCircuit c { q with state := .heating, timer := if s.inputs.current.get c then none else some 30 } s
  else s

/-- The claimant takes a grant (R103). -/
def takeGrant (k : Claimant) (s : State) : State :=
  match k with
  | .pump p => takePumpGrant p s
  | .circuit c => takeCircuitGrant c s

/-- The claim leaves the waiting list and enters the granted list at its end (R98). -/
def moveToGranted (c : Claim) (s : State) : State :=
  { s with arbiter := { s.arbiter with
      waiting := s.arbiter.waiting.filter (fun x => x.claimant ≠ c.claimant)
      granted := s.arbiter.granted ++ [c] } }

/-- A granted claim that a reclaim for class `cls` may take back: of strictly lower class, not already RECLAIMING, its
claimant no pump in FAULTED (R104). -/
def eligible (s : State) (cls : ClaimClass) (c : Claim) : Bool :=
  !c.reclaiming && classRank cls < classRank c.cls &&
    match c.claimant with
    | .pump p => (s.pumps.get p).state ≠ .faulted
    | .circuit _ => true

/-- The eligible claims in the order a reclaim takes them: lowest class first, most recent grant first (R104). -/
def victimOrder (s : State) (cls : ClaimClass) : List Claim :=
  let es := s.arbiter.granted.reverse.filter (eligible s cls)
  [ClaimClass.frost, .fill, .turnover, .critical].flatMap (fun k => es.filter (fun c => c.cls = k))

/-- Victims one at a time until the need is met (R104). -/
def takeVictims (have_ need : Nat) : List Claim → List Claim
  | [] => []
  | c :: rest => if need ≤ have_ then [] else c :: takeVictims (have_ + c.units) need rest

/-- Records the reclaim and marks its victims RECLAIMING (R104). -/
def markReclaim (c : Claim) (vs : List Claimant) (s : State) : State :=
  { s with arbiter := { s.arbiter with
      granted := s.arbiter.granted.map (fun x => if vs.contains x.claimant then { x with reclaiming := true } else x)
      reclaim := some { serves := c.claimant, need := c.units, victims := vs } } }

/-- A pump victim's channel reports the reclaim when it is in STARTING or RUNNING (R82, R104). -/
def reportReclaim (k : Claimant) (s : State) : State :=
  match k with
  | .pump p =>
    if (s.pumps.get p).state = .starting ∨ (s.pumps.get p).state = .running then emit (.reclaimReport p) s else s
  | .circuit _ => s

/-- Removes a claim from the granted list and counts its release toward a reclaim (R102). -/
def dropGranted (k : Claimant) (s : State) : State :=
  { s with arbiter := { s.arbiter with
      granted := s.arbiter.granted.filter (fun x => x.claimant ≠ k)
      reclaim := match s.arbiter.reclaim with
        | none => none
        | some r =>
          let vs := r.victims.filter (· ≠ k)
          if vs.isEmpty then none else some { r with victims := vs } } }

/-- Places a claim: it takes its arrival sequence and enters the waiting list; a claimant that already holds one is
not taken (R97, R100). -/
def enterClaim (k : Claimant) (units : Nat) (cls : ClaimClass) (s : State) : State :=
  if hasClaim k s then s
  else
    { s with arbiter := { s.arbiter with
        waiting := enterWaiting
          { claimant := k, units := units, cls := cls, seq := s.arbiter.counter, reclaiming := false } s.arbiter.waiting
        counter := (s.arbiter.counter + 1) % 65536 } }

/-- A circuit victim releases at the moment it is told: SHED, its units returned, a new claim placed (R104, R141).
`walk` is the walk that follows each of the two. -/
def shedCircuit (walk : State → State) (k : Claimant) (s : State) : State :=
  match k with
  | .pump _ => s
  | .circuit c =>
    let q := s.frost.circuits.get c
    let s1 := walk (dropGranted k (setCircuit c { q with state := .shed, timer := none } s))
    walk (enterClaim k (s1.gs.circuitRating.get c) (roleClass (s1.gs.role.get c)) s1)

/-- The granting walk from the head of the waiting list, and the reclaim it may begin (R103, R104).
It does not run while a reclaim is in flight. A walk longer than its bound is taken up again as an announcement
(log entry 5). -/
def walk : Nat → State → State
  | 0, s => emit .walk s
  | n + 1, s =>
    if s.arbiter.reclaim.isSome then s
    else
      match s.arbiter.waiting with
      | [] => s
      | c :: _ =>
        if c.units ≤ freeUnits s then walk n (takeGrant c.claimant (moveToGranted c s))
        else
          let es := victimOrder s c.cls
          if freeUnits s + unitSum es < c.units then s
          else
            let vs := (takeVictims (freeUnits s) c.units es).map (·.claimant)
            let s1 := vs.foldl (fun t k => reportReclaim k t) (markReclaim c vs s)
            vs.foldl (fun t k => shedCircuit (walk n) k t) s1

/-- The walk with the bound the model gives it (log entry 5). -/
def runWalk (s : State) : State := walk 64 s

/-- A claim arrives (R100). -/
def placeClaim (k : Claimant) (units : Nat) (cls : ClaimClass) (s : State) : State := runWalk (enterClaim k units cls s)

/-- A granted or reclaiming claim is released (R102). -/
def releaseClaim (k : Claimant) (s : State) : State := runWalk (dropGranted k s)

/-- Removes a claim from the waiting list; the removal of the served claim ends the reclaim and returns its victims to
GRANTED (R101, R105). -/
def dropWaiting (k : Claimant) (s : State) : State :=
  let s1 := { s with arbiter := { s.arbiter with
    waiting := s.arbiter.waiting.filter (fun x => x.claimant ≠ k) } }
  match s1.arbiter.reclaim with
  | some r =>
    if r.serves = k then
      { s1 with arbiter := { s1.arbiter with
        granted := s1.arbiter.granted.map (fun x => { x with reclaiming := false }), reclaim := none } }
    else s1
  | none => s1

/-- A waiting claim is withdrawn; a walk follows, which does nothing while a reclaim is still in flight (R101, R105). -/
def withdrawClaim (k : Claimant) (s : State) : State := runWalk (dropWaiting k s)

/-- A pump victim FAULTED WELDED has its claim returned to GRANTED and stays among the victims (R106). -/
def keepWeldedClaim (p : Fin 3) (s : State) : State :=
  { s with arbiter := { s.arbiter with
      granted := s.arbiter.granted.map
        (fun x => if x.claimant = .pump p then { x with reclaiming := false } else x) } }

/-- The pump's claim is RECLAIMING. -/
def claimReclaiming (p : Fin 3) (s : State) : Bool :=
  s.arbiter.granted.any (fun c => c.claimant = .pump p && c.reclaiming)

end Sys2Proof.Machine
end

