-- ==== Sys2Proof/Machine/Frost.lean ====
section
/-! DEFINITION. The frost controller (chapter 7): probes, setpoints and thermostats, the overflow pipe, stagnation and turnover. -/

namespace Sys2Proof.Machine

/-! ### Setpoints -/

/-- The frost floor of a circuit's role (R134). -/
def frostFloor (g : GuardSet) : Role → Option Int
  | .overflowPipe => some g.floorOverflow
  | .riser => some g.floorRiser
  | .valveChamber => some g.floorChamber
  | _ => none

/-- The greater of two values that may not apply. -/
def greater : Option Int → Option Int → Option Int
  | none, b => b
  | a, none => a
  | some a, some b => some (max a b)

/-- The hold temperature a record adds to a circuit: that of a HEAT order in ACTIVE that names it (R135). -/
def holdOf (c : Fin 8) (r : Record) : Option Int :=
  match r.body with
  | .heat h => if h.state = .active ∧ h.circuit = c then some h.hold else none
  | _ => none

/-- The setpoint of a circuit: the greatest of the values that apply (R135). -/
def setpointOf (s : State) (c : Fin 8) : Option Int :=
  let role := s.gs.role.get c
  let tank := if role = .tank ∧ s.frost.fallback then some s.gs.tankCold else none
  (s.book.records.map (holdOf c)).foldl greater (greater (frostFloor s.gs role) tank)

/-- The probe a circuit names (R134). -/
def probeOf (s : State) (c : Fin 8) : Probe := s.frost.probes.get (s.gs.probeIndex.get c)

/-- The reading of a VALID probe (R133: no judgement uses it otherwise). -/
def validReading (q : Probe) : Option Int := if q.condition = .valid then q.reading else none

/-- The probe calls for heat at a setpoint: VALID at or below it less the hysteresis, or INVALID (R139). -/
def callsForHeat (g : GuardSet) (q : Probe) (sp : Int) : Bool :=
  q.condition = .invalid ||
    match validReading q with
    | some t => t ≤ sp - g.hysteresis
    | none => false

/-- The circuit has no reason to heat: setpoint absent, or the probe VALID at or above it (R140, R141). -/
def heatSatisfied (q : Probe) (sp : Option Int) : Bool :=
  match sp with
  | none => true
  | some x =>
    match validReading q with
    | some t => x ≤ t
    | none => false

/-- A circuit enters CALLING and places its claim (R139). -/
def circuitCalls (c : Fin 8) (s : State) : State :=
  let q := s.frost.circuits.get c
  placeClaim (.circuit c) (s.gs.circuitRating.get c) (roleClass (s.gs.role.get c))
    (setCircuit c { q with state := .calling } s)

/-- A circuit gives up waiting: its claim is withdrawn and it enters OFF (R140). -/
def circuitGivesUp (c : Fin 8) (s : State) : State :=
  let q := s.frost.circuits.get c
  withdrawClaim (.circuit c) (setCircuit c { q with state := .off, timer := none } s)

/-- A heating circuit leaves HEATING for a state, its claim released (R141, R142). -/
def circuitStops (c : Fin 8) (st : CircuitState) (s : State) : State :=
  let q := s.frost.circuits.get c
  releaseClaim (.circuit c) (setCircuit c { q with state := st, timer := none } s)

/-- Judges a circuit in its present state (R139 to R141). -/
def judgeCircuit (c : Fin 8) (s : State) : State :=
  let q := s.frost.circuits.get c
  let pr := probeOf s c
  match q.state with
  | .off =>
    match q.setpoint with
    | some sp => if s.gs.role.get c ≠ .none ∧ callsForHeat s.gs pr sp then circuitCalls c s else s
    | none => s
  | .calling => if heatSatisfied pr q.setpoint then circuitGivesUp c s else s
  | .shed => if heatSatisfied pr q.setpoint then circuitGivesUp c s else s
  | .heating => if heatSatisfied pr q.setpoint then circuitStops c .off s else s
  | .fault => s

/-- Works one circuit's setpoint out afresh and judges the circuit when it changes (R135). -/
def refreshSetpoint (s : State) (c : Fin 8) : State :=
  let q := s.frost.circuits.get c
  let sp := setpointOf s c
  if sp = q.setpoint then s else judgeCircuit c (setCircuit c { q with setpoint := sp } s)

/-- Works every circuit's setpoint out afresh, in ascending circuit number (R135; log entry 46). -/
def refreshSetpoints (s : State) : State := eightNumbers.foldl refreshSetpoint s

/-! ### The overflow pipe -/

/-- The pipe after a judgement against its probe (R146). -/
def pipeAfter (g : GuardSet) (before : Option PipeReason) (q : Probe) : Option PipeReason :=
  match validReading q with
  | none => some .noReading
  | some t =>
    match before with
    | some .cold => if g.thawThreshold ≤ t then none else some .cold
    | _ => if t ≤ g.frozenThreshold then some .cold else none

/-- The pipe probe: that of the circuit whose role is OVERFLOW_PIPE (R145). -/
def pipeProbe (s : State) : Option (Fin 8) :=
  (circuitOfRole s.gs .overflowPipe).map (fun c => s.gs.probeIndex.get c)

/-- Judges the pipe; a change between FROZEN and THAWED sets FROZEN and is announced to the guard (R146, R147). -/
def judgePipe (s : State) : State :=
  let new := match pipeProbe s with
    | none => none
    | some i => pipeAfter s.gs s.frost.pipe (s.frost.probes.get i)
  let s1 := { s with frost := { s.frost with pipe := new } }
  if new.isSome = s.frost.pipe.isSome then s1 else emit .ceiling (setEvent .frozen s1)

/-! ### Probes -/

/-- A probe is in use while a circuit of a role other than NONE names it, or the tank probe does (R133). -/
def probeInUse (s : State) (i : Fin 8) : Bool :=
  eightNumbers.any (fun c => s.gs.role.get c ≠ .none && s.gs.probeIndex.get c = i) || s.gs.tankProbe = some i

/-- The silence time of a probe, in seconds (R132). -/
def silenceTime : Nat := 30

/-- The blocks that read a probe take its change: its circuits, the pipe, the stagnation judgements (R133). That they take it in this
order, the circuits among themselves in ascending number, is the model's choice (log entries 56 and 46). -/
def probeTaken (i : Fin 8) (s : State) : State :=
  let s1 := (eightNumbers.filter (fun c => s.gs.probeIndex.get c = i)).foldl (fun t c => judgeCircuit c t) s
  let s2 := if pipeProbe s1 = some i then judgePipe s1 else s1
  if s2.gs.tankProbe = some i then emit .frostJudge s2 else s2

/-- A good reading (R132). -/
def probeGood (i : Fin 8) (t : Int) (s : State) : State :=
  probeTaken i (setProbe i { condition := .valid, reading := some t, silence := some silenceTime } s)

/-- A probe becomes INVALID, setting PROBE_FAULT when it is in use and was not INVALID (R133). -/
def probeInvalid (i : Fin 8) (s : State) : State :=
  let q := s.frost.probes.get i
  let s1 := setProbe i { q with condition := .invalid, silence := none } s
  if q.condition = .invalid then s1
  else probeTaken i (if probeInUse s1 i then setEvent .probeFault s1 else s1)

/-- A reading is good when its flag is clear and it lies in -55.0 to +125.0 degrees (R132). -/
def readingGood (t : Int) (error : Bool) : Bool := !error && -550 ≤ t && t ≤ 1250

/-! ### Stagnation and turnover -/

/-- The tank probe's entry, when a tank probe is set. -/
def tankProbe (s : State) : Option Probe := s.gs.tankProbe.map (fun i => s.frost.probes.get i)

/-- The reading of the tank probe, when it is set and VALID. -/
def tankReading (s : State) : Option Int :=
  match tankProbe s with
  | none => none
  | some q => validReading q

/-- The tank probe is VALID and reads above the tank cold threshold (R150, R151). -/
def tankWarm (s : State) : Bool :=
  match tankReading s with
  | some t => s.gs.tankCold < t
  | none => false

/-- The stagnation clock is at or above the stagnation time (R149). -/
def stagnationLong (s : State) : Bool := s.gs.stagnationTime * 60 ≤ s.frost.stagnation

/-- The stagnation condition (R149). -/
def stagnationHolds (s : State) : Bool :=
  stagnationLong s &&
    match tankReading s with
    | some t => t ≤ s.gs.tankCold
    | none => false

/-- The target of a turnover the conditions call for; `none` while the turnover conditions fail (R149, R70). -/
def turnoverTarget (s : State) : Option Nat :=
  match filtered s with
  | none => none
  | some l =>
    if stagnationHolds s ∧ s.guard.state = .normal ∧ l + s.gs.turnoverDepth + s.gs.approachBand ≤ s.guard.ceiling then
      some (l + s.gs.turnoverDepth)
    else none

/-- Order 241 waits with a hold that gives the fallback (R150). -/
def turnoverStuck (s : State) : Bool :=
  match findFill 241 s with
  | some f =>
    (f.state = .due || f.state = .suspended) &&
      (f.hold = some .allowance || f.hold = some .pump || f.hold = some .valve)
  | none => false

/-- Sets or clears the fallback flag; the tank circuit's setpoint follows (R135, R150). -/
def setFallback (b : Bool) (s : State) : State :=
  if s.frost.fallback = b then s else refreshSetpoints { s with frost := { s.frost with fallback := b } }

/-- The bowl water is found turned over: the stagnation clock is 0 and the flag clear (R148, R150). -/
def turnedOver (s : State) : State := setFallback false { s with frost := { s.frost with stagnation := 0 } }

/-- A service or withdrawal with a level at first start judges whether the water was turned over (R148). -/
def judgeTurned (first : Option Nat) (s : State) : State :=
  match first, filtered s with
  | some a, some l => if a + s.gs.turnoverDepth ≤ l then turnedOver s else s
  | _, _ => s

/-- The cause for which a turnover request is withdrawn (R151). -/
def withdrawCause (s : State) : Bool := tankWarm s || s.gs.tankProbe.isNone || !stagnationLong s

/-- The fallback flag after a judgement (R150). -/
def fallbackAfter (s : State) : Bool :=
  if tankWarm s || s.gs.tankProbe.isNone then false
  else if stagnationHolds s && ((!isLive 241 s && (turnoverTarget s).isNone) || turnoverStuck s) then true
  else s.frost.fallback

/-- One judgement of R149, with the flag of R150, the request of R70 and the withdrawal of R151. The flag and the setpoint that follows it
come first, which is the model's choice (log entry 56). -/
def judgeFrost (s : State) : State :=
  let s1 := setFallback (fallbackAfter s) s
  let s2 := match turnoverTarget s1 with
    | some t => if isLive 241 s1 then s1 else emit (.turnoverRequest t) s1
    | none => s1
  if isLive 241 s2 && withdrawCause s2 then emit .withdrawTurnover s2 else s2

/-! ### Circuit inputs -/

/-- The current feedback input changes (R142). -/
def heaterCurrent (c : Fin 8) (b : Bool) (s : State) : State :=
  let was := s.inputs.current.get c
  let s1 := { s with inputs := { s.inputs with current := s.inputs.current.set c b } }
  let q := s1.frost.circuits.get c
  if q.state ≠ .heating then s1
  else if b then setCircuit c { q with timer := none } s1
  else if was then setCircuit c { q with timer := some 30 } s1
  else s1

/-- The feedback timer expires: the circuit fails (R142). -/
def circuitTimerExpiry (c : Fin 8) (s : State) : State :=
  let q := s.frost.circuits.get c
  if q.state = .heating ∧ q.timer.isSome then setEvent .circuitFault (circuitStops c .fault s) else s

/-- CIRCUIT RESET of a circuit in FAULT (R143). -/
def resetCircuitFault (c : Fin 8) (s : State) : State :=
  let q := s.frost.circuits.get c
  judgeCircuit c (setCircuit c { q with state := .off, timer := none } s)

end Sys2Proof.Machine
end

