-- ==== Sys2Proof/Machine/Pump.lean ====
section
/-! DEFINITION. The pump channel (chapter 4): start and stop commands, failed attempts, stops, faults, inputs and timers. -/

namespace Sys2Proof.Machine

/-- A pump is placed in the supply arbiter for its rating (R79, R87). -/
def claimPump (p : Fin 3) (cls : ClaimClass) (s : State) : State :=
  placeClaim (.pump p) (s.gs.rating.get p) cls s

/-- Entry to LOCKOUT with the lockout timer at the full lockout time (R87). -/
def enterLockout (p : Fin 3) (s : State) : State :=
  let q := s.pumps.get p
  emit (.pumpChanged p) (setPump p { q with state := .lockout, lockout := some s.gs.lockoutTime } s)

/-- Entry to FAULTED: PUMP_FAULT set, pending start absent, timers stopped; a weld is announced to the guard besides
(R88, R89). -/
def enterFaulted (p : Fin 3) (why : FaultCause) (s : State) : State :=
  let q := s.pumps.get p
  let s1 := setEvent .pumpFault (setPump p
    { q with state := .faulted, cause := some why, pendingStart := none, stopCause := .none, dwell := none,
             confirm := none, stopTimer := none, lockout := none } s)
  if why = .welded then emitFree [.weld p, .pumpChanged p] s1 else emit (.pumpChanged p) s1

/-- A stop completes: the claim is released and the stop cause gives the state (R86). `walk` is the walk that follows the release. -/
def completeStopBy (walk : State → State) (p : Fin 3) (s : State) : State :=
  let q := s.pumps.get p
  let s1 := setPump p { q with stopTimer := none, stopCause := .none } s
  walk (dropGranted (.pump p)
    (match q.stopCause with
     | .none => enterLockout p s1
     | .retry => enterLockout p s1
     | .noStart => enterFaulted p .noStart s1
     | .noFlow => enterFaulted p .noFlow s1
     | .overload => enterFaulted p .overload s1))

/-- A stop completes, the arbiter walking at the release (R86, R102). -/
def completeStop (p : Fin 3) (s : State) : State := completeStopBy runWalk p s

/-- Entry to STOPPING with a stop cause: the stop timer starts, and the stop completes at entry when the feedback is
open (R86). `walk` is the walk that follows a release. -/
def enterStoppingBy (walk : State → State) (p : Fin 3) (why : StopCause) (s : State) : State :=
  let q := s.pumps.get p
  let closed := s.inputs.feedback.get p
  let s1 := emit (.pumpChanged p) (setPump p
    { q with state := .stopping, stopCause := why, dwell := none, confirm := none,
             stopTimer := some s.gs.stopConfirmTime, judged := closed } s)
  if closed then s1 else completeStopBy walk p s1

/-- Entry to STOPPING, the arbiter walking at a release (R86). -/
def enterStopping (p : Fin 3) (why : StopCause) (s : State) : State := enterStoppingBy runWalk p why s

/-- A start command with a claim class (R79). -/
def startCommand (p : Fin 3) (cls : ClaimClass) (s : State) : State :=
  let q := s.pumps.get p
  match q.state with
  | .stopped =>
    claimPump p cls (emit (.pumpChanged p) (setPump p { q with state := .claiming, pendingStart := some cls } s))
  | .lockout => setPump p { q with pendingStart := some cls } s
  | _ => s

/-- A stop command; `noFlow` marks the stop of a no-flow expiry (R85). `walk` is the walk that follows a withdrawal or a release. -/
def stopBy (walk : State → State) (p : Fin 3) (noFlow : Bool) (s : State) : State :=
  let q := s.pumps.get p
  match q.state with
  | .claiming =>
    walk (dropWaiting (.pump p) (emit (.pumpChanged p) (setPump p { q with state := .stopped, pendingStart := none } s)))
  | .starting =>
    enterStoppingBy walk p (if noFlow then .noFlow else .none) (setPump p { q with pendingStart := none } s)
  | .running =>
    enterStoppingBy walk p (if noFlow then .noFlow else .none) (setPump p { q with pendingStart := none } s)
  | .stopping =>
    setPump p { q with pendingStart := none, stopCause := if q.stopCause = .retry then .none else q.stopCause } s
  | .lockout => setPump p { q with pendingStart := none } s
  | _ => s

/-- A stop command for one channel, the arbiter walking at a withdrawal or a release (R85, R101, R102). -/
def stopCommand (p : Fin 3) (noFlow : Bool) (s : State) : State := stopBy runWalk p noFlow s

/-- A failed attempt: counted, then stopped with RETRY or NO_START (R81); a feedback drop keeps no pending start
(R83). -/
def failedAttempt (p : Fin 3) (keepStart : Bool) (s : State) : State :=
  let q := s.pumps.get p
  let n := q.attempts + 1
  if n ≤ s.gs.retries then
    enterStopping p .retry
      (setPump p { q with attempts := n, pendingStart := if keepStart then q.pendingStart else none } s)
  else enterStopping p .noStart (setPump p { q with attempts := n, pendingStart := none } s)

/-- The expiry of the dwell timer: a closed feedback confirms running (R80). -/
def pumpDwellExpiry (p : Fin 3) (s : State) : State :=
  let q := s.pumps.get p
  if q.state = .starting ∧ q.dwell.isSome then
    let s1 := setPump p { q with dwell := none } s
    if q.judged then confirmRunning p s1 else s1
  else s

/-- The expiry of the confirm timer: the attempt has failed (R80). -/
def pumpConfirmExpiry (p : Fin 3) (s : State) : State :=
  let q := s.pumps.get p
  if q.state = .starting ∧ q.confirm.isSome then failedAttempt p true s else s

/-- The feedback input closing (R77, R80). A FAULTED WELDED channel takes the feedback only until it first opens (R89). -/
def pumpFeedbackCloses (p : Fin 3) (s : State) : State :=
  let s1 := { s with inputs := { s.inputs with feedback := s.inputs.feedback.set p true } }
  let q := s1.pumps.get p
  match q.state with
  | .starting =>
    let s2 := setPump p { q with judged := true } s1
    if q.dwell.isNone then confirmRunning p s2 else s2
  | .running => setPump p { q with judged := true } s1
  | .stopping => setPump p { q with judged := true } s1
  | _ => s1

/-- The feedback of a welded pump is first taken open: the claim is released and the guard takes the pump off the held
pumps (R89, R121). -/
def weldOpens (p : Fin 3) (s : State) : State :=
  let q := s.pumps.get p
  releaseClaim (.pump p)
    { setPump p { q with judged := false } s with guard := { s.guard with held := s.guard.held.set p false } }

/-- The feedback opens while RUNNING: OVERLOAD with the relay tripped, else a feedback drop (R83). -/
def runningFeedbackOpens (p : Fin 3) (s : State) : State :=
  let q := s.pumps.get p
  let tripped := s.inputs.overload.get p
  let s1 := setPump p { q with judged := false, overload := tripped } s
  if tripped then releaseClaim (.pump p) (enterFaulted p .overload s1)
  else failedAttempt p false (emit (.feedbackDrop p) s1)

/-- The feedback input opening (R77, R83, R86, R89). -/
def pumpFeedbackOpens (p : Fin 3) (s : State) : State :=
  let s1 := { s with inputs := { s.inputs with feedback := s.inputs.feedback.set p false } }
  let q := s1.pumps.get p
  match q.state with
  | .starting => setPump p { q with judged := false } s1
  | .running => runningFeedbackOpens p s1
  | .stopping => completeStop p (setPump p { q with judged := false } s1)
  | .faulted => if q.cause = some .welded ∧ q.judged then weldOpens p s1 else s1
  | _ => s1

/-- The overload input tripping (R84). -/
def pumpOverloadTrip (p : Fin 3) (s : State) : State :=
  let q0 := s.pumps.get p
  let q := { q0 with overload := true }
  let s1 := setPump p q { s with inputs := { s.inputs with overload := s.inputs.overload.set p true } }
  match q.state with
  | .stopped => enterFaulted p .overload s1
  | .lockout => enterFaulted p .overload s1
  | .claiming => withdrawClaim (.pump p) (enterFaulted p .overload s1)
  | .starting => enterStopping p .overload (setPump p { q with pendingStart := none } s1)
  | .running => enterStopping p .overload (setPump p { q with pendingStart := none } s1)
  | .stopping => setPump p { q with stopCause := .overload, pendingStart := none } s1
  | _ => s1

/-- The stop timer expires with the feedback closed: FAULTED WELDED (R86). -/
def pumpStopExpiry (p : Fin 3) (s : State) : State :=
  let q := s.pumps.get p
  if q.state = .stopping ∧ q.stopTimer.isSome then keepWeldedClaim p (enterFaulted p .welded s) else s

/-- The lockout expires: CLAIMING with a pending start, else STOPPED (R87). -/
def pumpLockoutExpiry (p : Fin 3) (s : State) : State :=
  let q := s.pumps.get p
  if q.state = .lockout ∧ q.lockout.isSome then
    match q.pendingStart with
    | some cls => claimPump p cls (emit (.pumpChanged p) (setPump p { q with state := .claiming, lockout := none } s))
    | none => emit (.pumpChanged p) (setPump p { q with state := .stopped, lockout := none } s)
  else s

/-- PUMP SERVICE OUT takes the channel as R90 gives; `none` is IN_USE. -/
def serviceOut (p : Fin 3) (s : State) : Option State :=
  let q := s.pumps.get p
  let out := emit (.pumpChanged p) (setPump p
    { q with state := .outOfService, cause := none, lockout := none, judged := s.inputs.feedback.get p,
             overload := s.inputs.overload.get p } s)
  match q.state with
  | .stopped => some out
  | .lockout => if q.pendingStart.isNone then some out else none
  | .faulted => if s.inputs.feedback.get p then none else some out
  | _ => none

/-- PUMP SERVICE RETURN takes the channel as R90 gives; `none` is IN_USE. -/
def serviceReturn (p : Fin 3) (s : State) : Option State :=
  let q := s.pumps.get p
  if (q.state = .faulted ∨ q.state = .outOfService) ∧ s.inputs.feedback.get p = false
      ∧ s.inputs.overload.get p = false then
    some (enterLockout p (setPump p { q with cause := none, attempts := 0, judged := false, overload := false } s))
  else none

end Sys2Proof.Machine
end

