-- ==== Sys2Proof/Machine/Valve.lean ====
section
/-! DEFINITION. The inlet valve channel (R92 to R94). -/

namespace Sys2Proof.Machine

/-- Replaces the valve channel and announces its change of state to the fill controller (R92). -/
def changeValve (v : Valve) (s : State) : State := emit .evalFill { s with valve := v }

/-- Entry to FAULT with a direction, setting VALVE_FAULT (R94). -/
def faultValve (d : Direction) (s : State) : State :=
  setEvent .valveFault
    (changeValve { s.valve with state := .fault, travel := none, faultDirection := some d } s)

/-- Both limits active at once is a fault in any state other than FAULT, of the present or last travel (R94). -/
def judgeLimits (s : State) : State :=
  if s.inputs.openLimit && s.inputs.closedLimit && s.valve.state ≠ .fault then faultValve s.valve.lastTravel s else s

/-- Drives the valve to open with a full travel limit; the limits are judged against the travel begun (R93, R94). -/
def driveOpen (s : State) : State :=
  judgeLimits (changeValve
    { state := .opening, travel := some s.gs.travelLimit, faultDirection := none, lastTravel := .toOpen } s)

/-- Drives the valve to close with a full travel limit; the limits are judged against the travel begun (R93, R94). -/
def driveClose (s : State) : State :=
  judgeLimits (changeValve
    { state := .closing, travel := some s.gs.travelLimit, faultDirection := none, lastTravel := .toClose } s)

/-- A close command (R93). -/
def closeCommand (s : State) : State :=
  match s.valve.state with
  | .isOpen => driveClose s
  | .opening => driveClose s
  | .fault => driveClose s
  | .closed => s
  | .closing => s

/-- An open command (R93). -/
def openCommand (s : State) : State :=
  match s.valve.state with
  | .closed => driveOpen s
  | .closing => driveOpen s
  | .fault => driveOpen s
  | .isOpen => s
  | .opening => s

/-- The valve comes to rest at a limit (R94). -/
def restValve (st : ValveState) (s : State) : State := changeValve { s.valve with state := st, travel := none } s

/-- A change of the limit inputs (R94): both active is a fault, a limit becoming active ends its travel, and a valve
that leaves its seat is driven back. -/
def valveLimits (o c : Bool) (s : State) : State :=
  let wasOpen := s.inputs.openLimit
  let wasClosed := s.inputs.closedLimit
  let s1 := { s with inputs := { s.inputs with openLimit := o, closedLimit := c } }
  if o && c then judgeLimits s1
  else
    match s1.valve.state with
    | .closing => if c && !wasClosed then restValve .closed s1 else s1
    | .opening => if o && !wasOpen then restValve .isOpen s1 else s1
    | .isOpen => if wasOpen && !o then driveOpen s1 else s1
    | .closed => if wasClosed && !c then driveClose s1 else s1
    | .fault => s1

/-- The travel timer expires: FAULT with the direction of the travel that failed (R94). -/
def valveTravelExpiry (s : State) : State :=
  if s.valve.travel.isNone then s
  else
    match s.valve.state with
    | .opening => faultValve .toOpen s
    | .closing => faultValve .toClose s
    | _ => s

end Sys2Proof.Machine
end

