-- ==== Sys2Proof/Machine/Guard.lean ====
section
/-! DEFINITION. The level monitor and the overflow guard (chapter 6). -/

namespace Sys2Proof.Machine

/-! ### The level monitor -/

/-- A reading is valid when its error flag is clear and it lies in 0 to 20000 (R111). -/
def levelValid (v : Int) (error : Bool) : Bool := !error && 0 ≤ v && v ≤ 20000

/-- The window with a reading joined at its newest end; never more than four (R112). -/
def joinWindow (w : List Nat) (v : Nat) : List Nat :=
  let w1 := w ++ [v]
  w1.drop (w1.length - 4)

/-- A level update, announced to the three blocks in any order (R112). -/
def announceLevel (s : State) : State := emitFree [.guardJudge, .evalFill, .frostJudge] s

/-- A level reading arrives (R111, R112, R113). -/
def takeLevel (v : Int) (error : Bool) (s : State) : State :=
  if levelValid v error then
    let w := joinWindow s.level.window v.toNat
    let s1 := { s with level := { s.level with window := w, timer := some validityTime } }
    if w.length = 4 then announceLevel s1 else s1
  else { s with level := { s.level with rejected := min 65535 (s.level.rejected + 1) } }

/-- The validity timer expires: the window is emptied; a level that was valid is announced invalid to the three blocks
(R112, R113). -/
def validityExpiry (s : State) : State :=
  if mayExpire validityTime s.level.timer then
    let s1 := { s with level := { s.level with window := [], timer := none } }
    if (filtered s).isSome then announceLevel s1 else s1
  else s

/-- The trend: new less old, held within 2000 either way, absent when either is (R114). -/
def trendOf : Option Nat → Option Nat → Option Int
  | some new, some old => some (max (-2000) (min 2000 ((new : Int) - old)))
  | _, _ => none

/-- The sample of a minute event (R114). -/
def takeTrendSample (s : State) : State :=
  let new := filtered s
  { s with level := { s.level with newSample := new, oldSample := s.level.newSample,
                                   trend := trendOf new s.level.newSample } }

/-! ### The guard state -/

/-- The trip judgement: the first three lines of R117. -/
def tripJudgement (g : GuardSet) (ec : Nat) (float : Bool) : Option Nat → Option GuardState
  | none => if float then some .latched else some .blind
  | some l =>
    if float ∧ l < ec - g.disagreement then some .latched
    else if ec ≤ l ∨ (float ∧ ec - g.disagreement ≤ l) then some .tripped
    else none

/-- The judgement as from NORMAL (R117, R118, R126). -/
def judgeFromNormal (s : State) : GuardState :=
  match tripJudgement s.gs s.guard.ceiling s.inputs.float (filtered s) with
  | some x => x
  | none =>
    match filtered s with
    | some l => if s.guard.ceiling - s.gs.approachBand ≤ l then .near else .normal
    | none => .blind

/-- The judgement in NEAR (R117). -/
def judgeFromNear (s : State) : GuardState :=
  match tripJudgement s.gs s.guard.ceiling s.inputs.float (filtered s) with
  | some x => x
  | none =>
    match filtered s with
    | some l => if l < s.guard.ceiling - s.gs.approachBand - 50 then .normal else .near
    | none => .blind

/-- The level has fallen to the re-arm level and stands below the approach band (R119, R125). -/
def levelFallen (s : State) : Bool :=
  match filtered s with
  | some l => l ≤ s.gs.rearm && l < s.guard.ceiling - s.gs.approachBand
  | none => false

/-- The judgement in TRIPPED (R119). -/
def judgeFromTripped (s : State) : GuardState :=
  if s.inputs.float then
    match filtered s with
    | none => .latched
    | some l => if l < s.guard.ceiling - s.gs.disagreement then .latched else .tripped
  else if levelFallen s then .normal
  else .tripped

/-- The guard state a judgement gives, by the state in force (R117 to R121). -/
def judgedState (s : State) : GuardState :=
  match s.guard.state with
  | .normal => judgeFromNormal s
  | .near => judgeFromNear s
  | .blind =>
    if s.inputs.float then .latched
    else if (filtered s).isSome then judgeFromNormal s
    else .blind
  | .tripped => judgeFromTripped s
  | .latched => .latched
  | .containment => .containment

/-- The event an entry sets (R123). -/
def entryEvent : GuardState → Option EventFlag
  | .blind => some .blind
  | .tripped => some .trip
  | .latched => some .latch
  | .containment => some .contain
  | .normal => none
  | .near => none

/-- The guard commands every pump channel to stop, and each takes its command with the entry itself, in its present state (R122): no
walk comes between them, and one walk follows when a claim was withdrawn or released (log entry 43). -/
def stopAllPumps (s : State) : State :=
  let t := pumpNumbers.foldl (fun u p => stopBy id p false u) s
  if t.arbiter = s.arbiter then t else runWalk t

/-- The states whose entry stops the pumps (R122). -/
def stopsPumps : GuardState → Bool
  | .normal => false
  | .near => false
  | _ => true

/-- Takes a guard state: a change sets its event, stops the pumps, closes the valve in CONTAINMENT, and is announced
(R122, R123). -/
def enterGuard (new : GuardState) (s : State) : State :=
  if new = s.guard.state then s
  else
    let s1 := { s with guard := { s.guard with state := new } }
    let s2 := match entryEvent new with
      | some e => setEvent e s1
      | none => s1
    let s3 := if stopsPumps new then stopAllPumps s2 else s2
    let s4 := if new = .containment then closeCommand s3 else s3
    emitFree [.evalFill, .frostJudge] s4

/-- The reserve condition (R128). -/
def reserveHolds (s : State) : Bool :=
  (s.guard.state = .normal || s.guard.state = .near) &&
    match filtered s with
    | some l => l < s.gs.reserveFloor
    | none => false

/-- Judges the reserve condition; when it holds the guard asks for order 240 (R128). -/
def judgeReserve (s : State) : State :=
  let b := reserveHolds s
  let s1 := { s with guard := { s.guard with reserve := b } }
  if b then emit .reserveRequest s1 else s1

/-- One judgement of R116: the state, REARM on a re-arm, then the reserve condition. -/
def judgeGuard (s : State) : State :=
  let new := judgedState s
  let s1 := if s.guard.state = .tripped ∧ new = .normal then setEvent .rearm s else s
  judgeReserve (enterGuard new s1)

/-- A weld is announced (R121). -/
def takeWeld (p : Fin 3) (s : State) : State :=
  judgeReserve (enterGuard .containment { s with guard := { s.guard with held := s.guard.held.set p true } })

/-- The effective ceiling (R115). -/
def ceilingOf (g : GuardSet) (frozen : Bool) : Nat := if frozen then g.ceiling - g.coldMargin else g.ceiling

/-- Works the effective ceiling out; a change makes the guard judge and is announced (R115). -/
def refreshCeiling (s : State) : State :=
  let frozen := s.frost.pipe.isSome
  let ec := ceilingOf s.gs frozen
  let s1 := { s with guard := { s.guard with ceiling := ec, frozenPipe := frozen } }
  if ec = s.guard.ceiling then s1 else emitFree [.evalFill, .frostJudge] (emit .guardJudge s1)

/-- ACKNOWLEDGE: the state after it and whether it was accepted (R124 to R126). One that retries a faulted valve leaves the guard state
as it stands, and the reserve condition is judged after it (R116, R128). -/
def acknowledgeGuard (s : State) : State × Bool :=
  if s.inputs.key = false then (s, false)
  else
    match s.guard.state with
    | .latched =>
      if s.inputs.float = false ∧ levelFallen s then (judgeReserve (enterGuard .normal s), true) else (s, false)
    | .containment =>
      if s.inputs.feedback.toList.any id then (s, false)
      else (judgeReserve (enterGuard (judgeFromNormal s) (openCommand s)), true)
    | _ => if s.valve.state = .fault then (judgeReserve (openCommand s), true) else (s, false)

end Sys2Proof.Machine
end

