-- ==== Sys2Proof/Machine/Fill.lean ====
section
/-! DEFINITION. The fill controller (chapter 3): holds, contention, runs and their ends, service, the system orders; and the
book's part in a service (R20, R26). -/

namespace Sys2Proof.Machine

/-! ### Targets and holds -/

/-- The effective target: the lesser of the target and the effective ceiling less the approach band (R52). -/
def effectiveTarget (s : State) (f : FillRecord) : Nat := min f.target (s.guard.ceiling - s.gs.approachBand)

/-- The filtered level is valid and at or above the effective target (R52). -/
def targetReached (s : State) (f : FillRecord) : Bool :=
  match filtered s with
  | some l => effectiveTarget s f ≤ l
  | none => false

/-- The guard states that cut orders (R66). -/
def guardCuts (s : State) : Bool :=
  s.guard.state = .tripped || s.guard.state = .latched || s.guard.state = .containment

/-- The bands a permission admits (R53). -/
def admits : BandPermission → Band → Bool
  | .any, _ => true
  | .nightShoulder, .day => false
  | .nightShoulder, _ => true
  | .nightOnly, .night => true
  | .nightOnly, _ => false

/-- The tally stands at or above the peak allowance (R48). -/
def allowanceSpent (s : State) : Bool := s.gs.allowance ≤ s.clock.tally

/-- The TIME condition (R53). -/
def timeHolds (s : State) (f : FillRecord) : Bool :=
  (f.band ≠ .any && s.clock.trust = .free) ||
    match f.window with
    | some w => !windowHolds w s.clock.minute
    | none => false

/-- The ALLOWANCE condition (R53). -/
def allowanceHolds (s : State) (n : Nat) : Bool := s.clock.band ≠ .night && n ≠ 240 && allowanceSpent s

/-- The first of the conditions GUARD to ALLOWANCE that applies to an order (R53). LEVEL holds while the guard is BLIND, so that
no pump is handed in that state (R122; log entry 33). -/
def firstHold (s : State) (n : Nat) (f : FillRecord) : Option Hold :=
  if s.guard.state = .near || guardCuts s then some .guard
  else if s.guard.state = .blind || (filtered s).isNone then some .level
  else if s.valve.state ≠ .isOpen then some .valve
  else if timeHolds s f then some .time
  else if !admits f.band s.clock.band then some .band
  else if allowanceHolds s n then some .allowance
  else none

/-- The order is its pump's last holder and the channel is still finishing that run (R54). -/
def restingAsLast (s : State) (n : Nat) (f : FillRecord) : Bool :=
  (s.fill.get f.pump).lastHolder = some n &&
    ((s.pumps.get f.pump).state = .stopping || (s.pumps.get f.pump).state = .lockout)

/-- A pump that is STOPPED and held by no order (R55). -/
def pumpIdle (s : State) (p : Fin 3) : Bool := (s.pumps.get p).state = .stopped && (s.fill.get p).holder.isNone

/-- The hold reason of an order in DUE or SUSPENDED (R53, R54). -/
def waitingHold (s : State) (n : Nat) (f : FillRecord) : Hold :=
  match firstHold s n f with
  | some h => h
  | none => if restingAsLast s n f then (s.fill.get f.pump).lastCause.getD .pump else .pump

/-- The hold reason of an order in STARTING (R54). -/
def startingHold (s : State) (f : FillRecord) : Option Hold :=
  match (s.pumps.get f.pump).state with
  | .claiming => some .supply
  | .stopping => some .pump
  | .lockout => some .pump
  | _ => none

/-! ### Applying a staged amendment -/

/-- A field replaced when the change names it. -/
def orKeep {α : Type} (new : Option α) (old : α) : α := new.getD old

/-- A window with the fields a change names replaced (R18). -/
def changeWindow (start stop : Option Nat) (recur : Option Recurrence) (w : Window) : Window :=
  { start := orKeep start w.start, stop := orKeep stop w.stop, recur := orKeep recur w.recur }

/-- The record with the fields a change names replaced (R18, R20). -/
def applyChange (c : FillChange) (f : FillRecord) : FillRecord :=
  { f with
    pump := orKeep c.pump f.pump
    target := orKeep c.target f.target
    window := f.window.map (changeWindow c.start c.stop c.recur)
    band := orKeep c.band f.band
    priority := orKeep c.priority f.priority }

/-- The staged amendment is applied at a boundary (R20). -/
def applyStaged (f : FillRecord) : FillRecord :=
  match f.staged with
  | some c => { applyChange c f with staged := none }
  | none => f

/-! ### Ends of a run -/

/-- The order stands in STARTING or RUNNING. -/
def inRun (f : FillRecord) : Bool := f.state = .starting || f.state = .running

/-- The pump's run ends: stop commanded, holder absent, the order the last holder while the channel is still finishing
the run, the no-flow timer stopped (R49, R62, R67). -/
def endRun (n : Nat) (p : Fin 3) (noFlow : Bool) (cause : Option Hold) (s : State) : State :=
  let s1 := stopCommand p noFlow s
  let st := (s1.pumps.get p).state
  let resting := st = .stopping || st = .lockout
  setAssign p
    { holder := none, lastHolder := if resting then some n else none, lastCause := if resting then cause else none,
      noFlow := none } s1

/-- One more, saturating at 255 (R26). -/
def countUp (k : Nat) : Nat := min 255 (k + 1)

/-- The day outcome counts with one outcome added (R26). -/
def addOutcome (o : Served) (c : OutcomeCounts) : OutcomeCounts :=
  match o with
  | .reached => { c with reached := countUp c.reached }
  | .windowClosed => { c with windowClosed := countUp c.windowClosed }
  | .missed => { c with missed := countUp c.missed }
  | .cut => { c with cut := countUp c.cut }
  | .noFlow => { c with noFlow := countUp c.noFlow }
  | .pumpFault => { c with pumpFault := countUp c.pumpFault }
  | .interrupted => { c with interrupted := countUp c.interrupted }

/-- Adds an outcome to the day outcome counts (R26). -/
def countOutcome (o : Served) (s : State) : State :=
  { s with book := { s.book with outcomes := addOutcome o s.book.outcomes } }

/-- A recurrence of ONCE (R26). -/
def isOnce : Recurrence → Bool
  | .once _ => true
  | .every _ _ => false

/-- An order with a window whose recurrence is ONCE. -/
def onceWindow (w : Option Window) : Bool :=
  match w with
  | some w => isOnce w.recur
  | none => false

/-- A book change is announced; one about order 241 reaches the frost controller's judgement (R1, R149). -/
def bookChanged (n : Nat) (s : State) : State :=
  let s1 := emit .evalFill s
  if n = 241 then emit .frostJudge s1 else s1

/-- A FILL order enters SERVED with an outcome, on a day count (R26, R67, R73). A system order is retired at once, and an
external ONCE order leaves the book. -/
def serveOn (day : Nat) (n : Nat) (o : Served) (s : State) : State :=
  match findRecord n s with
  | some ⟨_, origin, _, .fill f⟩ =>
    let s1 := if inRun f then endRun n f.pump false none s else s
    let f1 := if inRun f then applyStaged f else f
    let f2 := { f1 with state := .served, hold := none, outcome := some o, servedDay := some day }
    let s2 := putFill n f2 s1
    let s3 := if origin = .system then s2 else countOutcome o s2
    let s4 := if o = .reached then s3 else setEvent .outcome s3
    let s5 := emit (.served (f.context.map (·.first))) s4
    let s6 := if origin = .system ∨ onceWindow f2.window then removeRecord n s5 else s5
    bookChanged n s6
  | _ => s

/-- A FILL order enters SERVED on the current day count (R67). -/
def serveFill (n : Nat) (o : Served) (s : State) : State := serveOn s.clock.day n o s

/-- Delivered litres decide between WINDOW_CLOSED and MISSED (R51). -/
def closingOutcome (f : FillRecord) : Served :=
  match f.context with
  | some c => if 0 < c.litres then .windowClosed else .missed
  | none => .missed

/-- A FILL order's new state in an open window: SUSPENDED with a resume context, else DUE (R16, R51). -/
def openedState (f : FillRecord) : FillState := if f.context.isSome then .suspended else .due

/-- The window judgement of R16 for a FILL order placed or changed at once, or given its staged fields at a boundary (R20). -/
def judgeChangedFill (n : Nat) (s : State) : State :=
  match findFill n s with
  | none => s
  | some f =>
    match f.window with
    | none => s
    | some w =>
      let m := s.clock.minute
      let due := dueToday w s
      match f.state with
      | .pending => if due ∧ windowHolds w m then putFill n { f with state := openedState f } s else s
      | .due =>
        if due ∧ w.stop ≤ m then serveFill n .missed s
        else if due ∧ w.start ≤ m then s
        else putFill n { f with state := .pending, hold := none } s
      | .suspended =>
        if due ∧ w.stop ≤ m then serveFill n (closingOutcome f) s
        else if due ∧ w.start ≤ m then s
        else putFill n { f with state := .pending, hold := none } s
      | _ => s

/-- An order whose staged amendment a boundary applies is evaluated in its new state with the new fields, as an immediate AMEND taken
after the boundary would have it judged (R16, R20, R23). -/
def judgeApplied (n : Nat) (before : FillRecord) (s : State) : State :=
  if before.staged.isSome then judgeChangedFill n s else s

/-- A suspension (R62): at the eighth interruption the order is served with INTERRUPTED; without a resume context it
returns to DUE, or to PENDING when `back` marks a backward discontinuity. The cause stays with the last holder while its pump rests only
where the run ended in SUSPENDED or DUE (R54). -/
def suspendFill (n : Nat) (h : Hold) (back : Bool) (s : State) : State :=
  match findFill n s with
  | none => s
  | some f =>
    match f.context with
    | some c =>
      let c1 := { c with interruptions := c.interruptions + 1 }
      if 8 ≤ c1.interruptions then serveFill n .interrupted (putFill n { f with context := some c1 } s)
      else
        bookChanged n (judgeApplied n f
          (putFill n { applyStaged f with state := .suspended, hold := some h, context := some c1 }
            (endRun n f.pump false (some h) s)))
    | none =>
      bookChanged n (judgeApplied n f
        (putFill n
          (if back then { applyStaged f with state := .pending, hold := none }
           else { applyStaged f with state := .due, hold := some h })
          (endRun n f.pump false (if back then none else some h) s)))

/-- A pump a system order may be given: neither OUT_OF_SERVICE nor FAULTED (R71). -/
def pumpAvailable (s : State) (p : Fin 3) : Bool :=
  (s.pumps.get p).state ≠ .outOfService && (s.pumps.get p).state ≠ .faulted

/-- The lowest-numbered available pump (R71). -/
def choosePump (s : State) : Option (Fin 3) := pumpNumbers.find? (pumpAvailable s)

/-- The lowest-numbered available pump other than a failed one (R72). -/
def chooseOther (s : State) (p : Fin 3) : Option (Fin 3) := pumpNumbers.find? (fun q => q ≠ p && pumpAvailable s q)

/-- A system order loses its pump: it waits again on a new one (R72). -/
def newPump (n : Nat) (noFlow : Bool) (s : State) : State :=
  match findFill n s with
  | none => s
  | some f =>
    let s1 := endRun n f.pump noFlow (some .pump) s
    let st := if f.context.isSome then FillState.suspended else .due
    bookChanged n (putFill n
      { f with state := st, hold := some .pump, pump := (chooseOther s1 f.pump).getD f.pump } s1)

/-- An order whose pump failed: served with PUMP_FAULT, or moved when it is a system order (R65). -/
def pumpFailed (n : Nat) (origin : Origin) (s : State) : State :=
  if origin = .system then newPump n false s else serveFill n .pumpFault s

/-- A start the channel never took, its pump OUT_OF_SERVICE: the order waits again with PUMP (R61). -/
def endStart (n : Nat) (s : State) : State :=
  match findFill n s with
  | none => s
  | some f =>
    let st := if f.context.isSome then FillState.suspended else .due
    bookChanged n (judgeApplied n f (putFill n { applyStaged f with state := st, hold := some .pump }
      (setAssign f.pump { holder := none, lastHolder := none, lastCause := none, noFlow := none } s)))

/-! ### Judging one order -/

/-- What an evaluation does to one order. -/
inductive FillAction
  | serve (o : Served)
  | pumpFault
  | endStart
  | suspend (h : Hold)
  | movePump (p : Fin 3)
deriving DecidableEq, Repr

/-- The run's pump has failed (R61, second line). -/
def runPumpFailed (q : Pump) (f : FillRecord) : Bool :=
  q.state = .faulted ||
    (q.state = .stopping && (q.stopCause = .overload || (f.state = .starting && q.stopCause = .noStart)))

/-- The channel is no longer pursuing the holder's run (R57). -/
def runLost (q : Pump) : Bool :=
  match q.state with
  | .stopping => q.stopCause ≠ .retry
  | .lockout => q.pendingStart.isNone
  | .stopped => true
  | _ => false

/-- The end of a run, first line that applies (R61); the last line is R57. -/
def runAction (s : State) (n : Nat) (origin : Origin) (f : FillRecord) : Option FillAction :=
  let q := s.pumps.get f.pump
  let m := s.clock.minute
  let external := origin ≠ .system
  if guardCuts s then some (.serve .cut)
  else if runPumpFailed q f then some .pumpFault
  else if q.state = .outOfService then some .endStart
  else if targetReached s f then some (.serve .reached)
  else if external && (match f.window with | some w => w.stop ≤ m | none => false) then
    some (.serve (closingOutcome f))
  else if external && (match f.window with | some w => m < w.start | none => false) then
    some (.suspend .time)
  else
    match firstHold s n f with
    | some h => some (.suspend h)
    | none => if runLost q then some (.suspend .pump) else none

/-- A waiting order: CUT for a system order when the guard cuts (R66), and for an external order still resting from a
supply reclaim (R64, log entry 12); REACHED (R52); a system order moved off a failed pump (R71). -/
def waitAction (s : State) (n : Nat) (origin : Origin) (f : FillRecord) : Option FillAction :=
  if guardCuts s && (origin = .system ||
      (f.state = .suspended && restingAsLast s n f && (s.fill.get f.pump).lastCause = some .supply)) then
    some (.serve .cut)
  else if targetReached s f then some (.serve .reached)
  else if origin = .system && !pumpAvailable s f.pump then (choosePump s).map .movePump
  else none

/-- What an evaluation does to a record, if anything (R50). -/
def recordAction (s : State) (r : Record) : Option FillAction :=
  match r.body with
  | .fill f =>
    match f.state with
    | .starting => runAction s r.number r.origin f
    | .running => runAction s r.number r.origin f
    | .due => waitAction s r.number r.origin f
    | .suspended => waitAction s r.number r.origin f
    | _ => none
  | _ => none

/-- The first record an evaluation acts on, in ascending number (log entry 25). -/
def firstAction (s : State) : List Record → Option (Record × FillAction)
  | [] => none
  | r :: rest =>
    match recordAction s r with
    | some a => some (r, a)
    | none => firstAction s rest

/-- Carries an action out. -/
def actOn (r : Record) (a : FillAction) (s : State) : State :=
  match a with
  | .serve o => serveFill r.number o s
  | .pumpFault => pumpFailed r.number r.origin s
  | .endStart => endStart r.number s
  | .suspend h => suspendFill r.number h false s
  | .movePump p =>
    match findFill r.number s with
    | some f => bookChanged r.number (putFill r.number { f with pump := p } s)
    | none => s

/-! ### Contention -/

/-- The rank of an order by its number: 240, then 241, then external orders (R55). -/
def numberRank (n : Nat) : Nat := if n = 240 then 0 else if n = 241 then 1 else 2

/-- The start mark, 0 for a system order: only external orders are compared by it (R55). -/
def startMark (f : FillRecord) : Nat :=
  match f.window with
  | some w => w.start
  | none => 0

/-- The comparisons of R55, in order, as one list to compare. -/
def contentionKey (n : Nat) (f : FillRecord) : List Nat :=
  [if f.state = .suspended then 0 else 1, f.priority, numberRank n, startMark f, n]

/-- A key that comes strictly before another at the first place where they differ. -/
def keyBefore : List Nat → List Nat → Bool
  | a :: as, b :: bs => a < b || (a = b && keyBefore as bs)
  | _, _ => false

/-- A ready order naming a pump: waiting, with no condition of R53 against it (R53, R55). -/
def readyFor (s : State) (p : Fin 3) (r : Record) : Option FillRecord :=
  match r.body with
  | .fill f =>
    if (f.state = .due ∨ f.state = .suspended) ∧ f.pump = p ∧ firstHold s r.number f = none then some f else none
  | _ => none

/-- The winner of a pump among the ready orders (R55). -/
def contend (s : State) (p : Fin 3) : List Record → Option (Nat × FillRecord)
  | [] => none
  | r :: rest =>
    match readyFor s p r, contend s p rest with
    | none, w => w
    | some f, none => some (r.number, f)
    | some f, some w =>
      if keyBefore (contentionKey w.1 w.2) (contentionKey r.number f) then some w else some (r.number, f)

/-- The claim class an order starts with (R56). -/
def orderClass (n : Nat) : ClaimClass := if n = 240 then .reserve else if n = 241 then .turnover else .fill

/-- Hands a pump to an order: STARTING, holder, start command (R56). -/
def handPump (n : Nat) (f : FillRecord) (p : Fin 3) (s : State) : State :=
  let s1 := putFill n { f with state := .starting, hold := some .supply } s
  let s2 := setAssign p { holder := some n, lastHolder := none, lastCause := none, noFlow := none } s1
  startCommand p (orderClass n) (bookChanged n s2)

/-- The first pump that is idle and has a winner. -/
def firstHanding (s : State) : List (Fin 3) → Option (Fin 3 × Nat × FillRecord)
  | [] => none
  | p :: rest =>
    if pumpIdle s p then
      match contend s p s.book.records with
      | some (n, f) => some (p, n, f)
      | none => firstHanding s rest
    else firstHanding s rest

/-! ### Writing the hold reasons -/

/-- The record with the hold reason the evaluation finds (R53, R54). -/
def holdWritten (s : State) (r : Record) : Record :=
  match r.body with
  | .fill f =>
    match f.state with
    | .due => { r with body := .fill { f with hold := some (waitingHold s r.number f) } }
    | .suspended => { r with body := .fill { f with hold := some (waitingHold s r.number f) } }
    | .starting => { r with body := .fill { f with hold := startingHold s f } }
    | _ => r
  | _ => r

/-- Writes every hold reason (R53). A change of order 241's alone makes the frost controller judge as R149 gives, which is the model's
choice (log entry 55). -/
def writeHolds (s : State) : State :=
  let before := (findFill 241 s).map (·.hold)
  let s1 := setRecords (s.book.records.map (holdWritten s)) s
  if (findFill 241 s1).map (·.hold) = before then s1 else emit .frostJudge s1

/-- One evaluation: the first order that must change changes, else the first pump is handed, else the hold reasons are
written; a change leads to a further evaluation (R50). -/
def evaluateFill (s : State) : State :=
  match firstAction s s.book.records with
  | some (r, a) => actOn r a s
  | none =>
    match firstHanding s pumpNumbers with
    | some (p, n, f) => handPump n f p s
    | none => writeHolds s

/-! ### Reports from the channels -/

/-- Running confirmed (R58): the holder enters RUNNING, its resume context is created at its first start of the day,
and the no-flow timer starts. -/
def takeRunningConfirmed (p : Fin 3) (s : State) : State :=
  match (s.fill.get p).holder with
  | none => s
  | some n =>
    match findFill n s with
    | none => s
    | some f =>
      if f.state ≠ .starting then s
      else
        let ctx := match f.context with
          | some c => some c
          | none => (filtered s).map (fun l => { litres := 0, first := l, interruptions := 0 })
        let s1 := putFill n { f with state := .running, hold := none, context := ctx } s
        bookChanged n (setAssign p { s1.fill.get p with noFlow := some s1.gs.noFlowTime } s1)

/-- A feedback drop: the RUNNING holder is suspended with PUMP (R65). -/
def takeFeedbackDrop (p : Fin 3) (s : State) : State :=
  match (s.fill.get p).holder with
  | none => s
  | some n =>
    match findFill n s with
    | none => s
    | some f => if f.state = .running then suspendFill n .pump false s else s

/-- A reclaim report: the holder is suspended with SUPPLY; a report against a claim no longer RECLAIMING changes nothing
(R64, R109). -/
def takeReclaimReport (p : Fin 3) (s : State) : State :=
  match (s.fill.get p).holder with
  | none => s
  | some n =>
    match findFill n s with
    | none => s
    | some f => if claimReclaiming p s && inRun f then suspendFill n .supply false s else s

/-- The channel has come to rest where a last holder is forgotten (R49). -/
def forgetsLast : PumpState → Bool
  | .stopped => true
  | .faulted => true
  | .outOfService => true
  | _ => false

/-- A pump channel's change of state: the last holder is forgotten at rest (R49), a RETIRING holder is removed (R22), and
the orders are evaluated (R50). -/
def takePumpChanged (p : Fin 3) (s : State) : State :=
  let st := (s.pumps.get p).state
  let a := s.fill.get p
  let s1 := if forgetsLast st then setAssign p { a with lastHolder := none, lastCause := none } s else s
  let s2 := match a.holder with
    | none => s1
    | some n =>
      match findFill n s1 with
      | none => s1
      | some f =>
        if f.state = .retiring ∧ (forgetsLast st ∨ st = .lockout) then removeRecord n s1 else s1
  emit .evalFill s2

/-- A flow pulse credits a RUNNING holder and restarts its no-flow timer (R59). -/
def takeFlowPulse (p : Fin 3) (s : State) : State :=
  let a := s.fill.get p
  match a.holder with
  | none => s
  | some n =>
    match findFill n s with
    | none => s
    | some f =>
      if f.state ≠ .running then s
      else
        let ctx := f.context.map (fun c => { c with litres := min 16777215 (c.litres + s.gs.litres.get p) })
        setAssign p { a with noFlow := some s.gs.noFlowTime } (putFill n { f with context := ctx } s)

/-- The no-flow timer, not restarted in this second, expires: the channel stops with NO_FLOW, an external order is served with NO_FLOW, a system order
is moved (R60, R72). -/
def takeNoFlow (p : Fin 3) (s : State) : State :=
  let a := s.fill.get p
  match a.holder with
  | none => s
  | some n =>
    match findRecord n s with
    | some ⟨_, origin, _, .fill f⟩ =>
      if f.state = .running ∧ mayExpire s.gs.noFlowTime a.noFlow then
        if origin = .system then newPump n true s else serveFill n .noFlow (stopCommand p true s)
      else s
    | _ => s

/-! ### Windows -/

/-- A run judged against the new minute of a discontinuity: served past its end mark, suspended with TIME before its start mark
(R68). -/
def judgeRunAtJump (m : Nat) (n : Nat) (f : FillRecord) (w : Window) (s : State) : State :=
  if w.stop ≤ m then serveFill n (closingOutcome f) s
  else if m < w.start then suspendFill n .time true s
  else s

/-- A window judgement of one external order: at a minute event (R51), where a run is judged by the evaluation that follows, or at a
discontinuity (`jump`), where a waiting order whose start mark lies later returns to PENDING (R68). -/
def judgeWindow (m : Nat) (jump : Bool) (s : State) (n : Nat) : State :=
  match findFill n s with
  | none => s
  | some f =>
    match f.window with
    | none => s
    | some w =>
      match f.state with
      | .pending =>
        if dueToday w s ∧ windowHolds w m then bookChanged n (putFill n { f with state := openedState f } s) else s
      | .due =>
        if w.stop ≤ m then serveFill n .missed s
        else if jump ∧ m < w.start then bookChanged n (putFill n { f with state := .pending, hold := none } s)
        else s
      | .suspended =>
        if w.stop ≤ m then serveFill n (closingOutcome f) s
        else if jump ∧ m < w.start then bookChanged n (putFill n { f with state := .pending, hold := none } s)
        else s
      | .starting => if jump then judgeRunAtJump m n f w s else s
      | .running => if jump then judgeRunAtJump m n f w s else s
      | _ => s

/-- The numbers of the live records. -/
def liveNumbers (s : State) : List Nat := s.book.records.map (·.number)

/-- The fill controller takes a minute event, the day-end event (`m` 1440) or a discontinuity (R51, R68). -/
def judgeWindows (m : Nat) (jump : Bool) (s : State) : State :=
  emit .evalFill ((liveNumbers s).foldl (judgeWindow m jump) s)

/-! ### System orders -/

/-- The record of a system order as it is placed (R13, R69, R70). -/
def systemRecord (n : Nat) (target : Nat) (p : Fin 3) : Record :=
  { number := n, origin := .system, revision := 0,
    body := .fill { pump := p, target := target, window := none, band := .any, priority := 0, state := .due, hold := none,
                    context := none, outcome := none, servedDay := none, staged := none } }

/-- Places a system order that is not live, on the pump R71 chooses; the order is evaluated at once (R13). -/
def placeSystem (n : Nat) (target : Nat) (s : State) : State :=
  if isLive n s then s
  else
    bookChanged n
      (setRecords (insertRecord (systemRecord n target ((choosePump s).getD 0)) s.book.records) s)

/-- The guard's request for order 240 (R69). -/
def takeReserveRequest (s : State) : State := placeSystem 240 (s.gs.reserveFloor + s.gs.refillMargin) s

/-- The frost controller's withdrawal: a waiting 241 is retired at once, and whether it had turned the water over is judged
(R70, R148, R151). -/
def takeWithdrawal (s : State) : State :=
  match findFill 241 s with
  | some f =>
    if f.state = .due ∨ f.state = .suspended then
      bookChanged 241 (judgeTurned (f.context.map (·.first)) (removeRecord 241 s))
    else s
  | none => s

end Sys2Proof.Machine
end

