-- ==== Sys2Proof/Machine/Book.lean ====
section
/-! DEFINITION. The order book (chapter 1): PLACE, AMEND, RETIRE, the windows of HEAT orders (R136, R137), and the rollover of
orders (R27, R28). -/

namespace Sys2Proof.Machine

/-! ### Results -/

/-- A result without a body. -/
def plain (c : ResultCode) : Response := { code := c, body := [], masked := [] }

/-- DONE with a body that holds no guard-set value. -/
def doneWith (b : List Byte) : Response := { code := .done, body := b, masked := b }

/-! ### HEAT orders -/

/-- A HEAT order enters SERVED on a day count; a ONCE leaves the book (R26, R136). -/
def serveHeatOn (day : Nat) (n : Nat) (h : HeatRecord) (s : State) : State :=
  let s1 := putHeat n { h with state := .served, servedDay := some day } s
  bookChanged n (if isOnce h.window.recur then removeRecord n s1 else s1)

/-- The HEAT part of a live record, when it is a HEAT order. -/
def findHeat (n : Nat) (s : State) : Option HeatRecord :=
  match findRecord n s with
  | some ⟨_, _, _, .heat h⟩ => some h
  | _ => none

/-- A window judgement of one HEAT order: at a minute event (R136), or at a discontinuity or a change of the order
(`jump`), where an ACTIVE order out of its window returns to PENDING (R16, R137). -/
def judgeHeatWindow (m : Nat) (jump : Bool) (s : State) (n : Nat) : State :=
  match findHeat n s with
  | none => s
  | some h =>
    match h.state with
    | .pending =>
      if dueToday h.window s ∧ windowHolds h.window m then bookChanged n (putHeat n { h with state := .active } s) else s
    | .active =>
      if jump ∧ (m < h.window.start ∨ dueToday h.window s = false) then
        bookChanged n (putHeat n { h with state := .pending } s)
      else if h.window.stop ≤ m then serveHeatOn s.clock.day n h s
      else s
    | .served => s

/-- The frost controller judges every HEAT order at a minute; the setpoints follow once every order has been judged (R135 to R137;
log entry 45). -/
def judgeHeatWindows (m : Nat) (jump : Bool) (s : State) : State :=
  refreshSetpoints ((liveNumbers s).foldl (judgeHeatWindow m jump) s)

/-! ### The allocator and the checks of PLACE -/

/-- The number the allocator gives: the lowest above last assigned that is not live, wrapping from 239 to 1 (R2). -/
def allocate (s : State) : Nat :=
  let free := fun n => !isLive n s
  let above := (List.range 240).filter (fun n => s.book.lastAssigned < n)
  ((above.find? free).orElse (fun _ => ((List.range 240).drop 1).find? free)).getD 0

/-- How many external records are live, RETIRING counted (R1, R15). -/
def externalCount (s : State) : Nat := (s.book.records.filter (fun r => r.origin ≠ .system)).length

/-- The day bound to a ONCE given without one (R7). -/
def boundDay (stop : Nat) (s : State) : Nat :=
  if s.clock.minute < stop then s.clock.day else (s.clock.day + 1) % 65536

/-- A recurrence in its range, bound when it is a ONCE without a day (R6, R7). -/
def bindRecurrence (stop : Nat) (s : State) : RecurrenceField → Option Recurrence
  | .onceOn d => if d ≤ 65535 then some (.once d) else none
  | .once => some (.once (boundDay stop s))
  | .every k r => if k ≤ 6 ∧ r < 2 ^ k then some (.every k r) else none

/-- A start mark in its range (R6). -/
def startOk (n : Nat) : Bool := n ≤ 1439

/-- An end mark in its range (R6). -/
def stopOk (n : Nat) : Bool := 1 ≤ n && n ≤ 1440

/-- A target level in its range (R6). -/
def targetOk (n : Nat) : Bool := 100 ≤ n && n ≤ 20000

/-- A hold temperature in its range (R8). -/
def holdOk (t : Int) : Bool := -200 ≤ t && t ≤ 150

/-- A REPORT slot in its range (R9). -/
def slotOk (n : Nat) : Bool := 2 ≤ n && n ≤ 31

/-- A round code in its range (R9). -/
def codeOk (k r : Nat) : Bool := k ≤ 6 && r < 2 ^ k

/-- The canonical order of the selectors (R9). -/
def allSelectors : List Selector := [.level, .guard, .pumps, .frost, .orders, .tally, .events]

/-- A contents list is well formed: not empty, no selector twice (R9). -/
def contentsOk (l : List Selector) : Bool :=
  !l.isEmpty && allSelectors.all (fun x => (l.filter (· = x)).length ≤ 1)

/-- The contents list in canonical order (R9). -/
def canonical (l : List Selector) : List Selector := allSelectors.filter (fun x => l.contains x)

/-- A number as a pump, when it is one. -/
def pumpOf (n : Nat) : Option (Fin 3) := if h : n < 3 then some ⟨n, h⟩ else none

/-- A number as a circuit, when it is one. -/
def circuitOf (n : Nat) : Option (Fin 8) := if h : n < 8 then some ⟨n, h⟩ else none

/-- The FILL record a PLACE asks for, when every field is valid (R6, R15). -/
def fillPlaced (f : FillFields) (s : State) : Option FillRecord :=
  match pumpOf f.pump, bindRecurrence f.stop s f.recur with
  | some p, some rec =>
    if targetOk f.target && startOk f.start && stopOk f.stop && f.start < f.stop && f.priority ≤ 7 then
      some
        { pump := p, target := f.target, window := some { start := f.start, stop := f.stop, recur := rec },
          band := f.band, priority := f.priority, state := .pending, hold := none, context := none, outcome := none,
          servedDay := none, staged := none }
    else none
  | _, _ => none

/-- The HEAT record a PLACE asks for, when every field is valid (R8, R15). -/
def heatPlaced (h : HeatFields) (s : State) : Option HeatRecord :=
  match circuitOf h.circuit, bindRecurrence h.stop s h.recur with
  | some c, some rec =>
    if holdOk h.hold && startOk h.start && stopOk h.stop && h.start < h.stop && s.gs.role.get c ≠ .none then
      some
        { circuit := c, hold := h.hold, window := { start := h.start, stop := h.stop, recur := rec }, state := .pending,
          servedDay := none }
    else none
  | _, _ => none

/-- The REPORT record a PLACE asks for, when every field is valid (R9, R15). -/
def reportPlaced (r : ReportFields) : Option ReportRecord :=
  if slotOk r.slot && codeOk r.k r.r && contentsOk r.contents then
    some { slot := r.slot, k := r.k, r := r.r, contents := canonical r.contents, lastSent := none }
  else none

/-- Two round codes choose a round in common (R10). -/
def codesCollide (k1 r1 k2 r2 : Nat) : Bool := r1 % 2 ^ min k1 k2 = r2 % 2 ^ min k1 k2

/-- A REPORT order's slot and code collide with the answer slot or with another live REPORT order (R10). -/
def reportConflict (s : State) (n : Nat) (q : ReportRecord) : Bool :=
  q.slot = s.gs.answerSlot ||
    s.book.records.any (fun x =>
      match x.body with
      | .report o => x.number ≠ n && o.slot = q.slot && codesCollide o.k o.r q.k q.r
      | _ => false)

/-- The origin a port gives to an order it places (R4). -/
def originOf : Port → Origin
  | .cabinet => .cabinet
  | .district => .district

/-- Enters a record the checks have passed and has it evaluated at once (R15, R16). -/
def enterRecord (n : Nat) (port : Port) (b : Body) (s : State) : State :=
  let s1 := setRecords (insertRecord { number := n, origin := originOf port, revision := 0, body := b } s.book.records) s
  bookChanged n { s1 with book := { s1.book with lastAssigned := n } }

/-- PLACE (R15): the checks in order, then the record entered and evaluated. -/
def placeOrder (port : Port) (o : PlaceFields) (s : State) : State × Response :=
  if 30 ≤ externalCount s then (s, plain .full)
  else
    let n := allocate s
    match o with
    | .fill f =>
      match fillPlaced f s with
      | none => (s, plain .invalid)
      | some r => (judgeChangedFill n (enterRecord n port (.fill r) s), doneWith (Wire.u8 n))
    | .heat h =>
      match heatPlaced h s with
      | none => (s, plain .invalid)
      | some r =>
        (refreshSetpoints (judgeHeatWindow s.clock.minute true (enterRecord n port (.heat r) s) n), doneWith (Wire.u8 n))
    | .report q =>
      match reportPlaced q with
      | none => (s, plain .invalid)
      | some r =>
        if reportConflict s n r then (s, plain .conflict)
        else (enterRecord n port (.report r) s, doneWith (Wire.u8 n))

/-! ### AMEND -/

/-- Every field named passes its check. -/
def ifNamed {α : Type} (p : α → Bool) : Option α → Bool
  | none => true
  | some a => p a

/-- A recurrence a change names, checked and bound; `none` when it is out of range (R7, R17). -/
def changedRecurrence (stop : Nat) (s : State) : Option RecurrenceField → Option (Option Recurrence)
  | none => some none
  | some f => (bindRecurrence stop s f).map some

/-- A recurrence as given is a ONCE (R7). -/
def givesOnce : Option RecurrenceField → Bool
  | some (.onceOn _) => true
  | some .once => true
  | _ => false

/-- The change an AMEND of a FILL order asks for, when it is valid on the record as it would stand (R17). A ONCE without a day is bound
by the end mark as it would stand (R7; log entry 42). -/
def fillAmended (a : FillAmend) (f : FillRecord) (s : State) : Option FillChange :=
  match f.window with
  | none => none
  | some w =>
    let start := orKeep a.start w.start
    let stop := orKeep a.stop w.stop
    match changedRecurrence stop s a.recur with
    | none => none
    | some rec =>
      if decide (a ≠ {}) && ifNamed (· < 3) a.pump && ifNamed targetOk a.target && ifNamed startOk a.start
          && ifNamed stopOk a.stop && ifNamed (· ≤ 7) a.priority && start < stop
          && !(f.state = .served && givesOnce a.recur) then
        some
          { pump := a.pump.bind pumpOf, target := a.target, start := a.start, stop := a.stop, recur := rec,
            band := a.band, priority := a.priority }
      else none

/-- The HEAT record an AMEND asks for, when it is valid (R8, R17, R18). -/
def heatAmended (a : HeatAmend) (h : HeatRecord) (s : State) : Option HeatRecord :=
  let start := orKeep a.start h.window.start
  let stop := orKeep a.stop h.window.stop
  match changedRecurrence stop s a.recur, circuitOf (orKeep a.circuit h.circuit.val) with
  | some rec, some c =>
    if decide (a ≠ {}) && ifNamed holdOk a.hold && ifNamed startOk a.start && ifNamed stopOk a.stop && start < stop
        && s.gs.role.get c ≠ .none && !(h.state = .served && givesOnce a.recur) then
      some
        { h with
          circuit := c
          hold := orKeep a.hold h.hold
          window := { start := start, stop := stop, recur := orKeep rec h.window.recur } }
    else none
  | _, _ => none

/-- The REPORT record an AMEND asks for, when it is valid (R9, R17, R18). -/
def reportAmended (a : ReportAmend) (r : ReportRecord) : Option ReportRecord :=
  let code := orKeep a.code (r.k, r.r)
  let contents := orKeep a.contents r.contents
  if decide (a ≠ {}) && ifNamed slotOk a.slot && codeOk code.1 code.2 && contentsOk contents then
    some { r with slot := orKeep a.slot r.slot, k := code.1, r := code.2, contents := canonical contents }
  else none

/-- The revision of an accepted AMEND (R5). -/
def bumpRevision (n : Nat) (s : State) : State :=
  setRecords (mapRecord n (fun r => { r with revision := (r.revision + 1) % 256 }) s.book.records) s

/-- An AMEND that has passed the checks before INVALID, on a FILL order (R17 to R19). -/
def amendFill (n : Nat) (a : FillAmend) (f : FillRecord) (s : State) : State × Response :=
  match fillAmended a f s with
  | none => (s, plain .invalid)
  | some c =>
    if inRun f then (bookChanged n (putFill n { f with staged := some c } (bumpRevision n s)), plain .staged)
    else (judgeChangedFill n (bookChanged n (putFill n (applyChange c f) (bumpRevision n s))), plain .done)

/-- An AMEND on a HEAT order (R18). -/
def amendHeat (n : Nat) (a : HeatAmend) (h : HeatRecord) (s : State) : State × Response :=
  match heatAmended a h s with
  | none => (s, plain .invalid)
  | some h1 =>
    (refreshSetpoints (judgeHeatWindow s.clock.minute true (bookChanged n (putHeat n h1 (bumpRevision n s))) n),
      plain .done)

/-- A REPORT order's slot or round code is changed (R10). -/
def changesSlot (a : ReportAmend) : Bool := a.slot.isSome || a.code.isSome

/-- An AMEND on a REPORT order (R10, R18). -/
def amendReport (n : Nat) (a : ReportAmend) (r : ReportRecord) (s : State) : State × Response :=
  match reportAmended a r with
  | none => (s, plain .invalid)
  | some r1 =>
    if changesSlot a && reportConflict s n r1 then (s, plain .conflict)
    else
      (bookChanged n (setRecords (mapRecord n (fun x => { x with body := .report r1 }) (bumpRevision n s).book.records)
        (bumpRevision n s)), plain .done)

/-- The number an order request names is no order number (R3). -/
def numberInvalid (n : Nat) : Bool := n = 0 || 242 ≤ n

/-- The order is in RETIRING. -/
def isRetiring (b : Body) : Bool :=
  match b with
  | .fill f => f.state = .retiring
  | _ => false

/-- The order holds a staged amendment. -/
def hasStaged (b : Body) : Bool :=
  match b with
  | .fill f => f.staged.isSome
  | _ => false

/-- An expected revision is given and differs (R5). -/
def revisionStale (expected : Option Nat) (r : Record) : Bool :=
  match expected with
  | some e => e ≠ r.revision
  | none => false

/-- AMEND (R3, R17): the checks in order, then the change at once or staged. -/
def amendOrder (n : Nat) (expected : Option Nat) (a : AmendFields) (s : State) : State × Response :=
  if numberInvalid n then (s, plain .invalid)
  else
    match findRecord n s with
    | none => (s, plain .noOrder)
    | some r =>
      if n = 240 ∨ n = 241 then (s, plain .system)
      else if revisionStale expected r then (s, plain .stale)
      else if isRetiring r.body then (s, plain .retiring)
      else if hasStaged r.body then (s, plain .stagedBusy)
      else
        match a, r.body with
        | .fill x, .fill f => amendFill n x f s
        | .heat x, .heat h => amendHeat n x h s
        | .report x, .report q => amendReport n x q s
        | _, _ => (s, plain .invalid)

/-! ### RETIRE -/

/-- RETIRE of an order in STARTING or RUNNING: RETIRING, the staged amendment discarded, the pump stopped; the holder stays
until the channel reports (R22). -/
def beginRetiring (n : Nat) (f : FillRecord) (s : State) : State :=
  let s1 := putFill n { f with state := .retiring, hold := none, staged := none } s
  let s2 := setAssign f.pump { s1.fill.get f.pump with noFlow := none } s1
  bookChanged n (stopCommand f.pump false s2)

/-- RETIRE of any other order: the record leaves the book at once; a HEAT order's setpoint follows (R21, R135). -/
def retireNow (n : Nat) (s : State) : State := refreshSetpoints (bookChanged n (removeRecord n s))

/-- RETIRE (R3, R21, R22). -/
def retireOrder (n : Nat) (expected : Option Nat) (s : State) : State × Response :=
  if numberInvalid n then (s, plain .invalid)
  else
    match findRecord n s with
    | none => (s, plain .noOrder)
    | some r =>
      if n = 240 ∨ n = 241 then (s, plain .system)
      else if revisionStale expected r then (s, plain .stale)
      else if isRetiring r.body then (s, plain .retiring)
      else
        match r.body with
        | .fill f => if inRun f then (beginRetiring n f s, plain .done) else (retireNow n s, plain .done)
        | _ => (retireNow n s, plain .done)

/-! ### The rollover of orders -/

/-- The book closes the day being left for one order (R27). -/
def closeOrder (day : Nat) (s : State) (n : Nat) : State :=
  match findRecord n s with
  | some ⟨_, origin, _, .fill f⟩ =>
    if origin ≠ .system ∧ (f.state = .due ∨ f.state = .suspended ∨ f.state = .starting ∨ f.state = .running) then
      serveOn day n (closingOutcome f) s
    else s
  | some ⟨_, _, _, .heat h⟩ => if h.state = .active then serveHeatOn day n h s else s
  | _ => s

/-- Clears the day outcome counts (R27). -/
def clearOutcomes (s : State) : State := { s with book := { s.book with outcomes := ⟨0, 0, 0, 0, 0, 0, 0⟩ } }

/-- The book closes the day being left and clears the day outcome counts (R27). It closes its orders in ascending number, one at a time,
which is the model's choice (log entry 54). -/
def closeDay (day : Nat) (s : State) : State :=
  clearOutcomes ((liveNumbers s).foldl (closeOrder day) s)

/-- How many days the day count has moved forward, modulo its cycle (R28). -/
def daysForward (old new : Nat) : Nat := (new + 65536 - old) % 65536

/-- The day of a ONCE has passed unserved between two day counts (R28). -/
def oncePassed (old new : Nat) (w : Window) : Bool :=
  match w.recur with
  | .once d => daysForward old new ≤ 32767 && daysForward old d < daysForward old new
  | .every _ _ => false

/-- A SERVED order is made ready for a new day (R28). -/
def readyAgain (w : Window) (servedDay : Option Nat) (new : Nat) : Bool := recurs w.recur new && servedDay ≠ some new

/-- The book makes one order ready for the new day (R28). -/
def renewOrder (old new : Nat) (s : State) (n : Nat) : State :=
  match findRecord n s with
  | some ⟨_, _, _, .fill f⟩ =>
    match f.window with
    | none => s
    | some w =>
      match f.state with
      | .retiring => s
      | .pending =>
        if oncePassed old new w then serveOn old n .missed s else putFill n { f with context := none } s
      | .served =>
        putFill n { f with context := none, state := if readyAgain w f.servedDay new then .pending else .served } s
      | _ => putFill n { f with context := none } s
  | some ⟨_, _, _, .heat h⟩ =>
    match h.state with
    | .pending => if oncePassed old new h.window then serveHeatOn old n h s else s
    | .served => if readyAgain h.window h.servedDay new then putHeat n { h with state := .pending } s else s
    | .active => s
  | _ => s

/-- The book makes its records ready for the new day (R28), and the day outcome counts are 0 after it: the outcomes of the ONCE orders
it serves belong to the day that is left (R27, R167; log entry 13). -/
def newDay (old new : Nat) (s : State) : State := clearOutcomes ((liveNumbers s).foldl (renewOrder old new) s)

end Sys2Proof.Machine
end

