-- ==== Sys2Proof/Machine/Operands.lean ====
section
/-! DEFINITION. The wire form of a request's operands (R199, chapter 12.3): bytes to a typed request. `none` is INVALID. -/

namespace Sys2Proof.Machine

open Wire

/-- A byte as a number. -/
def at8 (b : List Byte) (i : Nat) : Nat := ((b[i]?).getD 0).toNat

/-- Two bytes from a place, high byte first. -/
def at16 (b : List Byte) (i : Nat) : Nat := at8 b i * 256 + at8 b (i + 1)

/-- Two bytes from a place, read signed. -/
def atS16 (b : List Byte) (i : Nat) : Int := (BitVec.ofNat 16 (at16 b i)).toInt

/-- A bit of a byte is set. -/
def bitSet (n i : Nat) : Bool := n / 2 ^ i % 2 = 1

/-- The band permission of a code (chapter 12.4). -/
def permissionOf : Nat → Option BandPermission
  | 0 => some .nightOnly
  | 1 => some .nightShoulder
  | 2 => some .any
  | _ => none

/-- The recurrence of three bytes from a place; mode 3 and modes without a meaning give none (R199, log entry 34). -/
def recurrenceAt (b : List Byte) (i : Nat) : Option RecurrenceField :=
  match at8 b i with
  | 0 => some (.onceOn (at16 b (i + 1)))
  | 1 => if at16 b (i + 1) = 0 then some .once else none
  | 2 => some (.every (at8 b (i + 1)) (at8 b (i + 2)))
  | _ => none

/-- The selectors of a set; a bit that names none gives none (R199). -/
def selectorsOf (n : Nat) : Option (List Selector) :=
  if bitSet n 7 then none
  else
    some ((allSelectors.zip (List.range 7)).filterMap (fun x => if bitSet n x.2 then some x.1 else none))

/-- The FILL block from a place (12 bytes). -/
def fillBlockAt (b : List Byte) (i : Nat) : Option FillFields :=
  match recurrenceAt b (i + 7), permissionOf (at8 b (i + 10)) with
  | some r, some p =>
    some { pump := at8 b i, target := at16 b (i + 1), start := at16 b (i + 3), stop := at16 b (i + 5), recur := r,
           band := p, priority := at8 b (i + 11) }
  | _, _ => none

/-- The body of PLACE: kind and field block. -/
def parsePlace (b : List Byte) : Option PlaceFields :=
  match at8 b 0, b.length with
  | 0, 13 => (fillBlockAt b 1).map .fill
  | 1, 11 =>
    (recurrenceAt b 8).map (fun r =>
      .heat { circuit := at8 b 1, hold := atS16 b 2, start := at16 b 4, stop := at16 b 6, recur := r })
  | 2, 5 =>
    (selectorsOf (at8 b 4)).map (fun l => .report { slot := at8 b 1, k := at8 b 2, r := at8 b 3, contents := l })
  | _, _ => none

/-- A field the change mask names is read; one it does not name is not (R199). A named field that does not read gives
`none` of the outer option. -/
def namedField {α : Type} (named : Bool) (v : Option α) : Option (Option α) :=
  if named then v.map some else some none

/-- The FILL set of an AMEND: mask and block (13 bytes). -/
def parseFillAmend (b : List Byte) : Option FillAmend :=
  let m := at8 b 0
  if m = 0 ∨ bitSet m 7 then none
  else
    match namedField (bitSet m 4) (recurrenceAt b 8), namedField (bitSet m 5) (permissionOf (at8 b 11)) with
    | some r, some p =>
      some
        { pump := if bitSet m 0 then some (at8 b 1) else none
          target := if bitSet m 1 then some (at16 b 2) else none
          start := if bitSet m 2 then some (at16 b 4) else none
          stop := if bitSet m 3 then some (at16 b 6) else none
          recur := r
          band := p
          priority := if bitSet m 6 then some (at8 b 12) else none }
    | _, _ => none

/-- The HEAT set of an AMEND: mask and block (11 bytes). -/
def parseHeatAmend (b : List Byte) : Option HeatAmend :=
  let m := at8 b 0
  if m = 0 ∨ 32 ≤ m then none
  else
    match namedField (bitSet m 4) (recurrenceAt b 8) with
    | some r =>
      some
        { circuit := if bitSet m 0 then some (at8 b 1) else none
          hold := if bitSet m 1 then some (atS16 b 2) else none
          start := if bitSet m 2 then some (at16 b 4) else none
          stop := if bitSet m 3 then some (at16 b 6) else none
          recur := r }
    | none => none

/-- The REPORT set of an AMEND: mask and block (5 bytes). -/
def parseReportAmend (b : List Byte) : Option ReportAmend :=
  let m := at8 b 0
  if m = 0 ∨ 8 ≤ m then none
  else
    match namedField (bitSet m 2) (selectorsOf (at8 b 4)) with
    | some l =>
      some
        { slot := if bitSet m 0 then some (at8 b 1) else none
          code := if bitSet m 1 then some (at8 b 2, at8 b 3) else none
          contents := l }
    | none => none

/-- The body length an AMEND of a kind calls for. -/
def amendLength : Body → Nat
  | .fill _ => 13
  | .heat _ => 11
  | .report _ => 5

/-- The body of AMEND. Its length must be that of the kind of the live order named; for a number that is not live any
kind's length is taken (log entry 15). -/
def parseAmend (s : State) (n : Nat) (b : List Byte) : Option AmendFields :=
  let fits : Bool := match findRecord n s with
    | some r => decide (b.length = amendLength r.body)
    | none => true
  if fits then
    match b.length with
    | 13 => (parseFillAmend b).map .fill
    | 11 => (parseHeatAmend b).map .heat
    | 5 => (parseReportAmend b).map .report
    | _ => none
  else none

/-- The entries of a SET TARIFF body after its count; an unknown band gives none. -/
def parseEntries : List Byte → Option (List TariffField)
  | [] => some []
  | a :: b :: c :: rest =>
    match bandOfCode c.toNat, parseEntries rest with
    | some _, some es => some ({ start := a.toNat * 256 + b.toNat, band := c.toNat } :: es)
    | _, _ => none
  | _ => none

/-- The body of SET TARIFF: its length is 1 plus 3 times its entry count (R199). -/
def parseTariff (b : List Byte) : Option (List TariffField) :=
  if b.length = 1 + 3 * at8 b 0 then parseEntries (b.drop 1) else none

/-- The body of CLEAR EVENTS or SET EVENT ENABLES: three bytes, bits 17 to 23 clear (R199). -/
def parseEvents (b : List Byte) : Option (BitVec 17) :=
  if b.length = 3 ∧ number b < 2 ^ 17 then some (BitVec.ofNat 17 (number b)) else none

/-- The body is empty. -/
def whenEmpty (b : List Byte) (r : Request) : Option Request := if b.isEmpty then some r else none

/-- A READ GUARD body in its wire form: 1 to 16 assigned identifiers (R199, chapter 12.3). -/
def readFormOk (ids : List Byte) : Bool :=
  1 ≤ ids.length && ids.length ≤ 16 && ids.all (fun i => (guardFieldOfId i).isSome)

/-- A list names 1 to 16 distinct known fields (R196). -/
def readListOk (ids : List Byte) : Bool := readFormOk ids && decide ids.Nodup

/-- A READ TOWER part number (R187). -/
def partOk (n : Nat) : Bool := 1 ≤ n && n ≤ 7

/-- The request codes with a meaning (chapter 12.1). -/
def knownCode (code : Nat) : Bool :=
  [0x01, 0x02, 0x03, 0x04, 0x05, 0x10, 0x11, 0x12, 0x13, 0x14, 0x15, 0x20, 0x21, 0x22, 0x23, 0x24, 0x30, 0x31].contains
    code

/-- The request codes permitted over the link (R174). -/
def linkCode (code : Nat) : Bool :=
  [0x01, 0x02, 0x03, 0x04, 0x05, 0x10, 0x11, 0x12, 0x13, 0x14, 0x20, 0x21, 0x22, 0x23].contains code

/-- A request from its code, header fields and body (R185, R199); `none` when the body does not carry the fields, a READ TOWER part
outside 1 to 7 and a READ GUARD body of no or over 16 identifiers or with an unassigned one among them. A repeated identifier of READ GUARD,
the field identifier of WRITE GUARD, the pump and operand of PUMP SERVICE and the circuit of CIRCUIT RESET are left to the owner. -/
def parseRequest (s : State) (code flags order expected : Nat) (b : List Byte) : Option Request :=
  let exp := if bitSet flags 0 then some expected else none
  match code with
  | 0x01 => (parsePlace b).map .place
  | 0x02 => (parseAmend s order b).map (.amend order exp)
  | 0x03 => whenEmpty b (.retire order exp)
  | 0x04 => whenEmpty b (.look order)
  | 0x05 => whenEmpty b (.list order)
  | 0x10 => if b.length = 1 ∧ partOk (at8 b 0) then some (.readTower (at8 b 0)) else none
  | 0x11 => if readFormOk b then some (.readGuard b) else none
  | 0x12 => if b.length = 5 then some (.writeGuard (BitVec.ofNat 8 (at8 b 0)) (BitVec.ofNat 32 (number (b.drop 1)))) else none
  | 0x13 => (parseTariff b).map .setTariff
  | 0x14 => whenEmpty b .readTariff
  | 0x15 => if b.length = 5 then some (.setClock (at16 b 0) (at16 b 2) (at8 b 4)) else none
  | 0x20 => if b.length = 4 then some (.unlock (BitVec.ofNat 32 (number b))) else none
  | 0x21 => whenEmpty b .lock
  | 0x22 => if b.length = 2 then some (.pumpService (at8 b 0) (at8 b 1)) else none
  | 0x23 => if b.length = 1 then some (.circuitReset (at8 b 0)) else none
  | 0x24 => whenEmpty b .acknowledge
  | 0x30 => (parseEvents b).map .clearEvents
  | 0x31 => (parseEvents b).map .setEventEnables
  | _ => none

end Sys2Proof.Machine
end

