-- ==== Sys2Proof/Machine/Clock.lean ====
section
/-! DEFINITION. The schedule clock (chapter 2): the tally, the band, trust, minute events, the day's end and adopted time. -/

namespace Sys2Proof.Machine

/-! ### The tally and the band -/

/-- The weight of a band (R47). -/
def bandWeight (g : GuardSet) : Band → Nat
  | .night => g.weightNight
  | .shoulder => g.weightShoulder
  | .day => g.weightDay

/-- The judgement of R48: ALLOWANCE is set when the tally is found at the allowance for the first time today. -/
def judgeAllowance (s : State) : State :=
  if allowanceSpent s ∧ s.clock.reachedToday = false then
    setEvent .allowance { s with clock := { s.clock with reachedToday := true } }
  else s

/-- What one pump adds to the tally for an ended minute (R47). -/
def pumpCharge (s : State) (p : Fin 3) : Nat :=
  if (s.pumps.get p).state = .running then s.gs.rating.get p * bandWeight s.gs s.clock.band else 0

/-- The charge of the minute that has ended; a change of the tally is announced (R47, R48). -/
def chargeTally (s : State) : State :=
  let t := min 65535 (s.clock.tally + (pumpNumbers.map (pumpCharge s)).sum)
  if t = s.clock.tally then s
  else emit .evalFill (judgeAllowance { s with clock := { s.clock with tally := t } })

/-- The band of the last calendar entry at or before a minute (R43). -/
def calendarBand (m : Nat) (es : List TariffEntry) : Band :=
  es.foldl (fun b e => if e.start ≤ m then e.band else b) .night

/-- The band in force at the current minute and trust (R43). -/
def bandNow (s : State) : Band :=
  if s.clock.trust = .free then .day else calendarBand s.clock.minute s.store.calendar

/-- Re-evaluates the band; a change is announced to the fill controller (R43). -/
def rebandNow (s : State) : State :=
  let b := bandNow s
  if b = s.clock.band then s else emit .evalFill { s with clock := { s.clock with band := b } }

/-! ### Trust -/

/-- Trust leaves SYNCED: the answer is discarded with the frame built from it, the link locks, and a transmission under way breaks off
(R162, R175, R179). -/
def loseSync (s : State) : State :=
  { s with
    remote := { s.remote with answer := none, unlocked := false, unlockLeft := 0 }
    link := { s.link with
      frameDue := s.link.frameDue.filter (fun f => f.content ≠ .answer)
      sending := none
      line := if s.link.line = .sending then .quiet else s.link.line } }

/-- A change of trust sets TIME, and into or out of FREE it re-evaluates the band at the minute in force (R34, R43). -/
def takeTrust (t : Trust) (s : State) : State :=
  if t = s.clock.trust then s
  else
    let s1 := setEvent .time { s with clock := { s.clock with trust := t } }
    let s2 := if s.clock.trust = .synced then loseSync s1 else s1
    if s.clock.trust = .free ∨ t = .free then { s2 with clock := { s2.clock with band := bandNow s2 } } else s2

/-- A trust that differs from the one before is announced to the fill controller, with the band it brought (R34, R43). -/
def announceTrust (before : Trust) (s : State) : State := if s.clock.trust = before then s else emit .evalFill s

/-- A change of trust, announced at once (R34). -/
def changeTrust (t : Trust) (s : State) : State := announceTrust s.clock.trust (takeTrust t s)

/-- The crystal reaches the instant a frame ends at, or at which the watch on openers expires (log entry 9). -/
def reachInstant (t : Nat) (s : State) : State :=
  { s with
    crystal := max s.crystal t
    clock := { s.clock with ms := min 999 (s.clock.ms + (t - s.crystal)) } }

/-- The instant at which two round periods have elapsed since the last accepted opener (R35). -/
def watchEnd (s : State) : Nat :=
  match s.clock.lastOpener with
  | some t => t + 2 * s.clock.roundPeriod
  | none => s.crystal

/-- The watch on openers expires before the crystal's next whole second (R35; log entry 9). -/
def watchExpires (s : State) : Bool := watchEnd s < s.crystal + (1000 - s.clock.ms)

/-- The watch on openers expires (R35); an opener taken first has restarted it. -/
def enterHoldover (s : State) : State :=
  if s.clock.trust = .synced ∧ watchExpires s then
    let s1 := reachInstant (watchEnd s) s
    changeTrust .holdover { s1 with clock := { s1.clock with holdover := 0 } }
  else s

/-- Trust falls to FREE when the holdover count has reached the limit (R36). -/
def judgeHoldover (s : State) : State :=
  if s.clock.trust = .holdover ∧ s.gs.holdoverLimit ≤ s.clock.holdover then changeTrust .free s else s

/-- A further round period in HOLDOVER (R36). -/
def countHoldover (s : State) : State :=
  if s.clock.trust = .holdover then
    judgeHoldover { s with clock := { s.clock with holdover := min 255 (s.clock.holdover + 1) } }
  else s

/-! ### Minute events and the day's end -/

/-- The minute event of the current minute (R31): the charge first, then the band, then the receivers. -/
def minuteEventNow (s : State) : State :=
  let m := s.clock.minute
  let s1 := { s with clock := { s.clock with lastMinute := m } }
  emit .sample (emitFree [.fillWindows m, .heatMinute m] (emit .reband (emit .charge s1)))

/-- The day's end on the way to a new day: the clock stands at 1440 while every end mark of 1440 is judged
(R32; log entry 10). -/
def dayEnd (day second : Nat) (s : State) : State :=
  let s1 := { s with clock := { s.clock with minute := 1440, second := 0, ms := 0 } }
  emit (.rollTo day second) (emitFree [.fillWindows 1440, .heatWindows 1440] (emit .charge s1))

/-- One rollover (R33): the book closes the old day and readies the new, the tally starts afresh. Its announcement makes the frost
controller judge as R149 gives, which is the model's choice (log entry 52). -/
def rollover (old new : Nat) (s : State) : State :=
  let s1 := newDay old new (closeDay old s)
  let s2 := judgeAllowance { s1 with clock := { s1.clock with tally := 0, reachedToday := false } }
  emit .frostJudge (emit .evalFill (refreshSetpoints s2))

/-- The rollover at the day's end and the minute event for minute 0 (R32). Its charge is empty. -/
def takeRollTo (day second : Nat) (s : State) : State :=
  let old := s.clock.day
  let s1 := { s with clock := { s.clock with day := day, minute := 0, second := second, ms := 0, lastMinute := 0 } }
  emit .sample (emitFree [.fillWindows 0, .heatMinute 0] (emit .reband (rollover old day s1)))

/-- The next minute by counting (R30 to R32). -/
def advanceMinute (s : State) : State :=
  if s.clock.minute < 1439 then
    let m := s.clock.minute + 1
    let s1 := { s with clock := { s.clock with minute := m, second := 0, ms := 0 } }
    if s.clock.lastMinute < m then minuteEventNow s1 else s1
  else dayEnd ((s.clock.day + 1) % 65536) 0 s

/-- The crystal counts to the next whole second (R30; log entry 8). -/
def advanceSecond (s : State) : State :=
  let s1 := tickTimers 1 { s with crystal := s.crystal + (1000 - s.clock.ms) }
  if s.clock.second < 59 then
    { s1 with clock := { s1.clock with second := s1.clock.second + 1, ms := 0 } }
  else advanceMinute s1

/-- The crystal counts to the next whole minute (R30, R31; log entry 8). -/
def advanceToMinute (s : State) : State :=
  let n := 60 - s.clock.second
  advanceMinute (tickTimers n { s with crystal := s.crystal + (n * 1000 - s.clock.ms) })

/-! ### Adopted time -/

/-- A time's place on the cycle of 65536 days, in seconds (R38). -/
def timePlace (day minute second : Nat) : Int := day * 86400 + minute * 60 + second

/-- The difference of two places, brought into the range of one cycle about zero (R38). -/
def placeDifference (new old : Int) : Int :=
  let d := (new - old) % 5662310400
  if 2831155200 ≤ d then d - 5662310400 else d

/-- The adoption is an adjustment (R38; log entry 11). -/
def isAdjustment (s : State) (day minute second : Nat) (timeSet : Bool) : Bool :=
  let d := placeDifference (timePlace day minute second) (timePlace s.clock.day s.clock.minute s.clock.second)
  !timeSet && -60 ≤ d && d ≤ 60 && !(d < 0 && day ≠ s.clock.day)

/-- Schedule time is replaced, with the milliseconds 0 (R39, R40). -/
def setTime (day minute second : Nat) (s : State) : State :=
  { s with clock := { s.clock with day := day, minute := minute, second := second, ms := 0 } }

/-- An adjustment (R39). -/
def adjustTime (day minute second : Nat) (s : State) : State :=
  if day ≠ s.clock.day then dayEnd day second s
  else
    let s1 := setTime day minute second s
    if minute = s.clock.minute then s1
    else if s.clock.lastMinute < minute then minuteEventNow s1
    else emit .reband s1

/-- A discontinuity, in the turns of R40. -/
def discontinuity (day minute second : Nat) (s : State) : State :=
  let old := s.clock.day
  let s1 := setEvent .discontinuity (setTime day minute second s)
  let s2 := if day = old then s1 else rollover old day s1
  let s3 := emit .discontinuity s2
  emit .reband { s3 with clock := { s3.clock with lastMinute := minute } }

/-- Time is adopted as an adjustment or a discontinuity (R38). -/
def adoptTime (day minute second : Nat) (timeSet : Bool) (s : State) : State :=
  if isAdjustment s day minute second timeSet then adjustTime day minute second s
  else discontinuity day minute second s

/-- The round period after an opener taken at an instant (R35). -/
def newRoundPeriod (c : Clock) (instant : Nat) : Nat :=
  match c.trust, c.lastOpener with
  | .synced, some t => min 4294967295 (max 1 (instant - t))
  | _, _ => c.roundPeriod

/-- The clock takes an accepted opener (R35 to R38): the trust first, then the time. The fill controller takes the change of trust after
what the adopted time announces (log entry 39). -/
def clockTakesOpener (instant day minute second rank : Nat) (timeSet : Bool) (s : State) : State :=
  let c := s.clock
  let s1 := if rank = c.rank then s else setEvent .time s
  let s2 := takeTrust .synced s1
  announceTrust c.trust (adoptTime day minute second timeSet
    { s2 with clock := { s2.clock with
        roundPeriod := newRoundPeriod c instant, lastOpener := some instant, holdover := 0, rank := rank } })

/-- SET CLOCK on the cabinet port (R41); the change of trust is taken as at an opener (log entry 39). -/
def setClockNow (day minute second : Nat) (s : State) : State × Response :=
  if s.clock.trust = .synced then (s, plain .timeSynced)
  else if day ≤ 65535 ∧ minute ≤ 1439 ∧ second ≤ 59 then
    (announceTrust s.clock.trust (adoptTime day minute second false (takeTrust .local s)), plain .done)
  else (s, plain .invalid)

end Sys2Proof.Machine
end

