-- ==== Sys2Proof/Machine/Store.lean ====
section
/-! DEFINITION. The guard store (chapter 11): WRITE GUARD and what each field's owner does, READ GUARD, SET TARIFF, READ TARIFF,
and the commit. -/

namespace Sys2Proof.Machine

/-- A commit begins: the image is marked incomplete (R197). -/
def beginCommit (s : State) : State :=
  { s with store := { s.store with commit := true, image := { s.store.image with incomplete := true } } }

/-- The image a finished commit leaves: the working copy and its check value (R197). -/
def committedImage (s : State) : Image :=
  { incomplete := false, guardSet := s.gs, calendar := s.store.calendar, check := imageCheck s.gs s.store.calendar }

/-- The commit ends (R197). -/
def endCommit (s : State) : State :=
  if s.store.commit then { s with store := { s.store with commit := false, image := committedImage s } } else s

/-! ### WRITE GUARD -/

/-- The access check (R181, R195): KEY on the cabinet port; over the link UNLOCKED and not the access code. -/
def writeAllowed (port : Port) (f : Option GuardField) (s : State) : Bool :=
  match port with
  | .cabinet => s.inputs.key
  | .district => s.remote.unlocked && decide (f ≠ some .accessCode)

/-- The checks that give IN_USE (R8, R107, R169). -/
def writeInUse (f : GuardField) (g : GuardSet) (s : State) : Bool :=
  match f with
  | .supplyLimit => g.supplyLimit < unitSum s.arbiter.granted
  | .answerSlot => s.book.records.any (fun r => match r.body with | .report q => q.slot = g.answerSlot | _ => false)
  | .role c =>
    g.role.get c = .none &&
      s.book.records.any (fun r => match r.body with | .heat h => h.circuit = c | _ => false)
  | _ => false

/-- A circuit whose role has become NONE leaves for OFF (R144). -/
def roleGone (c : Fin 8) (s : State) : State :=
  match (s.frost.circuits.get c).state with
  | .off => s
  | .calling => circuitGivesUp c s
  | .shed => circuitGivesUp c s
  | .heating => circuitStops c .off s
  | .fault => setCircuit c { s.frost.circuits.get c with state := .off, timer := none } s

/-- A written role acts on its circuit and, where OVERFLOW_PIPE is given or taken, on the pipe (R144, R147); that the circuit comes first is
the model's choice (log entry 56). -/
def roleWritten (c : Fin 8) (old : Role) (s : State) : State :=
  let new := s.gs.role.get c
  let s1 := if new = .none then roleGone c s else s
  let s2 := judgeCircuit c (refreshSetpoints s1)
  if old ≠ new ∧ (old = .overflowPipe ∨ new = .overflowPipe) then judgePipe s2 else s2

/-- Every circuit is judged in its present state (R144). -/
def judgeCircuits (s : State) : State := eightNumbers.foldl (fun t c => judgeCircuit c t) s

/-- What the owner of a field does at acceptance (R36, R48, R107, R129, R144, R147, R149). `old` is the guard set before. The circuits come
before the pipe and before the stagnation judgement, which is the model's choice (log entry 56). -/
def ownerActs (f : GuardField) (old : GuardSet) (s : State) : State :=
  match f with
  | .ceiling => emit .ceiling s
  | .coldMargin => emit .ceiling s
  | .approachBand => emit .guardJudge s
  | .disagreement => emit .guardJudge s
  | .rearm => emit .guardJudge s
  | .reserveFloor => judgeReserve s
  | .holdoverLimit => judgeHoldover s
  | .allowance => emit .evalFill (judgeAllowance s)
  | .supplyLimit => runWalk s
  | .role c => roleWritten c (old.role.get c) s
  | .probeIndex c =>
    let s1 := judgeCircuit c s
    if s1.gs.role.get c = .overflowPipe then judgePipe s1 else s1
  | .floorOverflow => judgeCircuits (refreshSetpoints s)
  | .floorRiser => judgeCircuits (refreshSetpoints s)
  | .floorChamber => judgeCircuits (refreshSetpoints s)
  | .hysteresis => judgeCircuits (refreshSetpoints s)
  | .tankCold => emit .frostJudge (judgeCircuits (refreshSetpoints s))
  | .frozenThreshold => judgePipe s
  | .thawThreshold => judgePipe s
  | .tankProbe => emit .frostJudge s
  | .stagnationTime => emit .frostJudge s
  | .turnoverDepth => emit .frostJudge s
  | _ => s

/-- WRITE GUARD (R195): the checks in order, then the field replaced, its owner acting, and a commit begun. -/
def writeGuardNow (port : Port) (id : Byte) (value : BitVec 32) (s : State) : State × Response :=
  let field := guardFieldOfId id
  if writeAllowed port field s = false then (s, plain .locked)
  else if s.store.commit then (s, plain .busy)
  else
    match field with
    | none => (s, plain .invalid)
    | some f =>
      let v := guardOperand f value
      let g := putGuardValue s.gs f v
      if guardInRange f v = false ∨ guardRelations g = false then (s, plain .invalid)
      else if writeInUse f g s then (s, plain .inUse)
      else (ownerActs f s.gs (beginCommit { s with gs := g }), plain .done)

/-! ### READ GUARD -/

/-- The four bytes of a field in a result body; `zero` carries them as 0 (R177). -/
def readValue (g : GuardSet) (zero : GuardField → Bool) (id : Byte) : List Byte :=
  match guardFieldOfId id with
  | none => Wire.u32 0
  | some f => if zero f then Wire.u32 0 else guardBytes g f

/-- The body of READ GUARD: each identifier and value, then the commit mark (R196). -/
def readBody (ids : List Byte) (zero : GuardField → Bool) (s : State) : List Byte :=
  ids.flatMap (fun i => i :: readValue s.gs zero i) ++ Wire.flag s.store.commit

/-- Which values READ GUARD carries as 0 on a port: every one over a locked link, the access code over the link at all times
(R177, R181, R196). -/
def readZero (port : Port) (s : State) (f : GuardField) : Bool :=
  match port with
  | .cabinet => false
  | .district => !s.remote.unlocked || f = .accessCode

/-- READ GUARD (R196). -/
def readGuardNow (port : Port) (ids : List Byte) (s : State) : Response :=
  if readListOk ids then
    { code := .done, body := readBody ids (readZero port s) s, masked := readBody ids (fun _ => true) s }
  else plain .invalid

/-! ### The tariff calendar -/

/-- SET TARIFF (R44). -/
def setTariffNow (es : List TariffField) (s : State) : State × Response :=
  if s.store.commit then (s, plain .busy)
  else
    match calendarOf es with
    | none => (s, plain .invalid)
    | some c => (rebandNow (beginCommit { s with store := { s.store with calendar := c } }), plain .done)

/-- READ TARIFF (R45). -/
def readTariffNow (s : State) : Response :=
  doneWith (Wire.u8 s.store.calendar.length ++ s.store.calendar.flatMap entryBytes)

end Sys2Proof.Machine
end

