-- ==== Sys2Proof/Machine/Report.lean ====
section
/-! DEFINITION. What the part shows: the record image of LOOK, the REPORT sections (R165 to R168) and the seven parts of the tower
status record (R187), byte by byte as chapter 12 gives them. -/

namespace Sys2Proof.Machine

open Wire

/-! ### Codes (chapter 12.4) -/

def kindCode : Body → Nat
  | .fill _ => 0 | .heat _ => 1 | .report _ => 2

def originCode : Origin → Nat
  | .cabinet => 0 | .district => 1 | .system => 2

def fillStateCode : FillState → Nat
  | .pending => 0 | .due => 1 | .starting => 2 | .running => 3 | .suspended => 4 | .served => 5 | .retiring => 6

def heatStateCode : HeatState → Nat
  | .pending => 0 | .active => 1 | .served => 2

def holdCode : Hold → Nat
  | .band => 0 | .allowance => 1 | .guard => 2 | .level => 3 | .pump => 4 | .supply => 5 | .valve => 6 | .time => 7

def servedCode : Served → Nat
  | .reached => 0 | .windowClosed => 1 | .missed => 2 | .cut => 3 | .noFlow => 4 | .pumpFault => 5 | .interrupted => 6

def permissionCode : BandPermission → Nat
  | .nightOnly => 0 | .nightShoulder => 1 | .any => 2

def trustCode : Trust → Nat
  | .free => 0 | .synced => 1 | .holdover => 2 | .local => 3

def pumpStateCode : PumpState → Nat
  | .stopped => 0 | .claiming => 1 | .starting => 2 | .running => 3 | .stopping => 4 | .lockout => 5 | .faulted => 6
  | .outOfService => 7

def causeCode : FaultCause → Nat
  | .overload => 0 | .noStart => 1 | .noFlow => 2 | .welded => 3

def valveStateCode : ValveState → Nat
  | .isOpen => 0 | .closing => 1 | .closed => 2 | .opening => 3 | .fault => 4

def directionCode : Direction → Nat
  | .toOpen => 0 | .toClose => 1

def guardStateCode : GuardState → Nat
  | .normal => 0 | .near => 1 | .blind => 2 | .tripped => 3 | .latched => 4 | .containment => 5

/-- FROZEN 0, THAWED 1. -/
def pipeCode (frozen : Bool) : Nat := if frozen then 0 else 1

def reasonCode : PipeReason → Nat
  | .cold => 0 | .noReading => 1

def circuitStateCode : CircuitState → Nat
  | .off => 0 | .calling => 1 | .heating => 2 | .shed => 3 | .fault => 4

def conditionCode : ProbeCondition → Nat
  | .awaiting => 0 | .valid => 1 | .invalid => 2

def lineCode : LineState → Nat
  | .quiet => 0 | .receiving => 1 | .sending => 2

def portCode : PortState → Nat
  | .idle => 0 | .working => 1 | .held => 2

/-- The result codes 0 to 18 in the order of the table of chapter 10. -/
def resultCode : ResultCode → Nat
  | .done => 0 | .staged => 1 | .busy => 2 | .full => 3 | .noOrder => 4 | .stale => 5 | .stagedBusy => 6
  | .retiring => 7 | .system => 8 | .invalid => 9 | .conflict => 10 | .locked => 11 | .inUse => 12 | .conditions => 13
  | .timeSynced => 14 | .notHere => 15 | .unknown => 16 | .frameError => 17 | .none => 18

/-- Pumps 0 to 2; circuits 10h to 17h (chapter 12.3). -/
def claimantCode : Claimant → Nat
  | .pump p => p.val | .circuit c => 16 + c.val

/-- GRANTED 1, RECLAIMING 2, in the order of R95 from WAITING 0 (log entry 18). -/
def claimStateCode (c : Claim) : Nat := if c.reclaiming then 2 else 1

def selectorBit : Selector → Nat
  | .level => 0 | .guard => 1 | .pumps => 2 | .frost => 3 | .orders => 4 | .tally => 5 | .events => 6

/-- A set of selectors in one byte (chapter 12.3). -/
def selectorSet (l : List Selector) : Nat := ((canonical l).map (fun x => 2 ^ selectorBit x)).sum

/-! ### The record image (chapter 12.3) -/

def recurrenceBytes : Recurrence → List Byte
  | .once d => u8 0 ++ u16 d
  | .every k r => u8 2 ++ u8 k ++ u8 r

def zeros (n : Nat) : List Byte := List.replicate n 0

/-- A named field of a staged block, zeros where it is not named (log entry 18). -/
def stagedBytes {α : Type} (width : Nat) (f : α → List Byte) : Option α → List Byte
  | none => zeros width
  | some a => f a

/-- The marks and recurrence of a window; a system order shows them as absent (chapter 12.3). -/
def windowBytes : Option Window → List Byte
  | some w => u16 w.start ++ u16 w.stop ++ recurrenceBytes w.recur
  | none => optU16 none ++ optU16 none ++ u8 3 ++ zeros 2

def fillBlock (f : FillRecord) : List Byte :=
  u8 f.pump.val ++ u16 f.target ++ windowBytes f.window ++ u8 (permissionCode f.band) ++ u8 f.priority

def bitIf (b : Bool) (n : Nat) : Nat := if b then 2 ^ n else 0

def changeMask (c : FillChange) : Nat :=
  bitIf c.pump.isSome 0 + bitIf c.target.isSome 1 + bitIf c.start.isSome 2 + bitIf c.stop.isSome 3
    + bitIf c.recur.isSome 4 + bitIf c.band.isSome 5 + bitIf c.priority.isSome 6

def changeBytes (c : FillChange) : List Byte :=
  u8 (changeMask c) ++ stagedBytes 1 (fun p => u8 (Fin.val p)) c.pump ++ stagedBytes 2 u16 c.target
    ++ stagedBytes 2 u16 c.start ++ stagedBytes 2 u16 c.stop ++ stagedBytes 3 recurrenceBytes c.recur
    ++ stagedBytes 1 (fun b => u8 (permissionCode b)) c.band ++ stagedBytes 1 u8 c.priority

def contextBytes (c : Context) : List Byte := u24 c.litres ++ u16 c.first ++ u8 c.interruptions

/-- The common part of a record image. -/
def commonPart (r : Record) (state presence : Nat) (outcome : Option Served) (day : Option Nat) (hold : Option Hold) :
    List Byte :=
  u8 r.number ++ u8 (kindCode r.body) ++ u8 (originCode r.origin) ++ u8 r.revision ++ u8 state ++ u8 presence
    ++ stagedBytes 1 (fun o => u8 (servedCode o)) outcome ++ stagedBytes 2 u16 day
    ++ stagedBytes 1 (fun h => u8 (holdCode h)) hold

/-- The record image LOOK returns: 41 bytes for FILL, 20 for HEAT, 15 for REPORT. -/
def recordImage (r : Record) : List Byte :=
  match r.body with
  | .fill f =>
    commonPart r (fillStateCode f.state)
      (bitIf f.outcome.isSome 0 + bitIf f.servedDay.isSome 1 + bitIf f.hold.isSome 2 + bitIf f.staged.isSome 3
        + bitIf f.context.isSome 4) f.outcome f.servedDay f.hold
      ++ fillBlock f ++ stagedBytes 13 changeBytes f.staged ++ stagedBytes 6 contextBytes f.context
  | .heat h =>
    commonPart r (heatStateCode h.state) (bitIf h.servedDay.isSome 1) none h.servedDay none
      ++ u8 h.circuit.val ++ s16 h.hold ++ windowBytes (some h.window)
  | .report q =>
    commonPart r 0 (bitIf q.lastSent.isSome 5) none none none
      ++ u8 q.slot ++ u8 q.k ++ u8 q.r ++ u8 (selectorSet q.contents) ++ stagedBytes 1 u8 q.lastSent

/-- The state code of a record, as LIST shows it. -/
def recordState (r : Record) : Nat :=
  match r.body with
  | .fill f => fillStateCode f.state
  | .heat h => heatStateCode h.state
  | .report _ => 0

/-- LOOK (R3, R24). -/
def lookNow (n : Nat) (s : State) : Response :=
  if numberInvalid n then plain .invalid
  else
    match findRecord n s with
    | none => plain .noOrder
    | some r => doneWith (recordImage r)

/-- LIST (R25). The records stand in ascending number, so the first above `n` is the lowest. -/
def listNow (n : Nat) (s : State) : Response :=
  match s.book.records.find? (fun r => n < r.number) with
  | none => plain .none
  | some r => doneWith (u8 r.number ++ u8 (kindCode r.body) ++ u8 (recordState r))

/-! ### The REPORT sections -/

/-- How many external FILL orders satisfy a condition (R167). -/
def countFill (s : State) (p : FillRecord → Bool) : Nat :=
  (s.book.records.filter (fun r =>
    match r.body with
    | .fill f => r.origin ≠ .system && p f
    | _ => false)).length

/-- How many HEAT orders are in a state (R167). -/
def countHeat (s : State) (st : HeatState) : Nat :=
  (s.book.records.filter (fun r =>
    match r.body with
    | .heat h => h.state = st
    | _ => false)).length

/-- How many REPORT orders are live (R167). -/
def countReport (s : State) : Nat :=
  (s.book.records.filter (fun r =>
    match r.body with
    | .report _ => true
    | _ => false)).length

def allFillStates : List FillState := [.pending, .due, .starting, .running, .suspended, .served, .retiring]

def allHolds : List Hold := [.band, .allowance, .guard, .level, .pump, .supply, .valve, .time]

/-- The state and hold reason of a system order, FFh where it is not live or holds none (R167). -/
def systemBytes (s : State) (n : Nat) : List Byte :=
  match findFill n s with
  | none => [0xFF, 0xFF]
  | some f => u8 (fillStateCode f.state) ++ optU8 (f.hold.map holdCode)

/-- The 40 bytes of the ORDERS section (R167, chapter 12.2). -/
def ordersSection (s : State) : List Byte :=
  let o := s.book.outcomes
  allFillStates.flatMap (fun st => u8 (countFill s (fun f => f.state = st)))
    ++ allHolds.flatMap (fun h => u8 (countFill s (fun f => f.state = .due && f.hold = some h)))
    ++ allHolds.flatMap (fun h => u8 (countFill s (fun f => f.state = .suspended && f.hold = some h)))
    ++ [Hold.supply, .pump].flatMap (fun h => u8 (countFill s (fun f => f.state = .starting && f.hold = some h)))
    ++ [HeatState.pending, .active, .served].flatMap (fun st => u8 (countHeat s st))
    ++ u8 (countReport s)
    ++ u8 o.reached ++ u8 o.windowClosed ++ u8 o.missed ++ u8 o.cut ++ u8 o.noFlow ++ u8 o.pumpFault
    ++ u8 o.interrupted
    ++ systemBytes s 240 ++ systemBytes s 241

/-- The three bytes of an event set (chapter 12.3). -/
def eventBytes (e : BitVec 17) : List Byte := u24 e.toNat

/-- The section of a selector (R166 to R168). -/
def section_ (s : State) : Selector → List Byte
  | .level => optU16 (filtered s) ++ optS16 s.level.trend
  | .guard => u8 (guardStateCode s.guard.state) ++ u16 s.guard.ceiling
  | .pumps =>
    s.pumps.toList.flatMap (fun q => u8 (pumpStateCode q.state) ++ optU8 (q.cause.map causeCode))
      ++ u8 (valveStateCode s.valve.state)
  | .frost =>
    s.frost.circuits.toList.flatMap (fun q => u8 (circuitStateCode q.state)) ++ u8 (pipeCode s.frost.pipe.isSome)
  | .orders => ordersSection s
  | .tally =>
    u16 s.clock.tally ++ u16 (if s.remote.unlocked then s.gs.allowance else 0) ++ flag s.clock.reachedToday
      ++ u8 (bandCode s.clock.band) ++ u8 (trustCode s.clock.trust)
  | .events => eventBytes s.events

/-- The body of a REPORT frame (R165). -/
def reportBody (s : State) (n round : Nat) (contents : List Selector) : List Byte :=
  u8 n ++ u8 round ++ u8 (selectorSet contents) ++ (canonical contents).flatMap (section_ s)

/-! ### The tower status record (R187, chapter 12.3) -/

/-- The wall minute (R46). -/
def wallMinute (s : State) : Nat := (s.clock.minute + s.gs.dayStart) % 1440

/-- Part 1, Time; `allowance` as it is carried. -/
def part1 (s : State) (allowance : Nat) : List Byte :=
  let c := s.clock
  u16 c.day ++ u16 c.minute ++ u8 c.second ++ u16 (wallMinute s) ++ u8 (trustCode c.trust) ++ u8 c.rank ++ u8 c.holdover
    ++ u8 (bandCode c.band) ++ u16 c.tally ++ u16 allowance ++ flag c.reachedToday

def pumpPart (s : State) (p : Fin 3) : List Byte :=
  let q := s.pumps.get p
  u8 (pumpStateCode q.state) ++ optU8 (q.cause.map causeCode) ++ u8 q.attempts ++ u16 (q.lockout.getD 0)
    ++ u8 (bitIf (s.inputs.feedback.get p) 0 + bitIf (s.inputs.overload.get p) 1
        + bitIf (q.state ≠ .outOfService) 2)
    ++ optU8 (s.fill.get p).holder

/-- Part 2, Pumps and valve. -/
def part2 (s : State) : List Byte :=
  pumpNumbers.flatMap (pumpPart s) ++ u8 (valveStateCode s.valve.state) ++ optU8 (s.valve.faultDirection.map directionCode)
    ++ u8 (bitIf s.inputs.openLimit 0 + bitIf s.inputs.closedLimit 1)

def claimBytes (c : Claim) : List Byte :=
  u8 (claimantCode c.claimant) ++ u8 c.units ++ u8 (classRank c.cls) ++ u16 c.seq

/-- The reclaim in flight, or its absence (log entry 18). -/
def reclaimBytes : Option Reclaim → List Byte
  | none => u8 0 ++ [0xFF] ++ u8 0 ++ u8 0
  | some r =>
    u8 1 ++ u8 (claimantCode r.serves) ++ u8 r.need ++ u8 r.victims.length
      ++ r.victims.flatMap (fun v => u8 (claimantCode v))

/-- Part 3, Supply; `limit` as it is carried. -/
def part3 (s : State) (limit : Nat) : List Byte :=
  u8 limit ++ u8 (grantedUnits s) ++ u8 (reclaimingUnits s) ++ u8 (freeUnits s)
    ++ u8 s.arbiter.waiting.length ++ s.arbiter.waiting.flatMap claimBytes
    ++ u8 s.arbiter.granted.length ++ s.arbiter.granted.flatMap (fun c => claimBytes c ++ u8 (claimStateCode c))
    ++ reclaimBytes s.arbiter.reclaim

/-- Part 4, Level and guard. -/
def part4 (s : State) : List Byte :=
  let g := s.guard
  optU16 (filtered s) ++ optS16 s.level.trend ++ u8 s.level.window.length ++ u16 s.level.rejected
    ++ u8 (guardStateCode g.state) ++ u16 g.ceiling ++ u8 (pipeCode g.frozenPipe) ++ flag s.inputs.float
    ++ u8 (bitIf g.held.p0 0 + bitIf g.held.p1 1 + bitIf g.held.p2 2) ++ flag g.reserve

def circuitPart (s : State) (c : Fin 8) : List Byte :=
  let q := s.frost.circuits.get c
  u8 (circuitStateCode q.state) ++ optS16 q.setpoint ++ flag (s.inputs.current.get c) ++ u8 (q.timer.getD 0)

/-- Part 5, Frost. -/
def part5 (s : State) : List Byte :=
  s.frost.probes.toList.flatMap (fun q => u8 (conditionCode q.condition) ++ optS16 q.reading)
    ++ eightNumbers.flatMap (circuitPart s)
    ++ u8 (pipeCode s.frost.pipe.isSome) ++ optU8 (s.frost.pipe.map reasonCode) ++ optU8 ((pipeProbe s).map Fin.val)
    ++ u16 s.frost.stagnation ++ flag s.frost.fallback

/-- The refused sequence: a presence byte and the sequence (chapter 12.3). -/
def refusedBytes : Option Byte → List Byte
  | none => u8 0 ++ u8 0
  | some b => u8 1 ++ [b]

/-- The pending answer as part 6 shows it; without one the result carries FFh (log entry 18). -/
def answerStatus : Option Answer → List Byte
  | none => u8 0 ++ u8 0 ++ u8 0 ++ [0xFF] ++ refusedBytes none
  | some a => u8 1 ++ [a.seq] ++ [a.code] ++ u8 (resultCode a.response.code) ++ refusedBytes a.refused

/-- Part 6, Link. -/
def part6 (s : State) : List Byte :=
  let l := s.link
  u8 (lineCode l.line) ++ optU8 (l.round.map (·.count)) ++ optU16 (l.round.map (·.slotLength))
    ++ u8 l.plan.length ++ l.plan.flatMap (fun e => u8 e.1 ++ u8 e.2) ++ optU8 l.answerSlot ++ u8 l.sequence
    ++ flag s.remote.unlocked ++ u8 s.remote.unlockLeft ++ u8 s.remote.refusalLeft ++ answerStatus s.remote.answer

/-- Part 7, Book and cabinet. -/
def part7 (s : State) : List Byte :=
  ordersSection s ++ eventBytes s.events ++ eventBytes s.enables ++ flag s.inputs.key ++ u8 (portCode s.cabinet.state)

/-- READ TOWER (R187): the part's body, and the same with the two guard-set fields carried as 0 (R177). -/
def readTowerNow (part : Nat) (s : State) : Response :=
  match part with
  | 1 => { code := .done, body := part1 s s.gs.allowance, masked := part1 s 0 }
  | 2 => doneWith (part2 s)
  | 3 => { code := .done, body := part3 s s.gs.supplyLimit, masked := part3 s 0 }
  | 4 => doneWith (part4 s)
  | 5 => doneWith (part5 s)
  | 6 => doneWith (part6 s)
  | 7 => doneWith (part7 s)
  | _ => plain .invalid

end Sys2Proof.Machine
end

