-- ==== Sys2Proof/Machine/Requests.lean ====
section
/-! DEFINITION. The requests as their owners carry them out on either port (chapters 9 and 10). -/

namespace Sys2Proof.Machine

/-- UNLOCK over the link, first case that applies (R178). -/
def unlockNow (code : BitVec 32) (s : State) : State × Response :=
  if 0 < s.remote.refusalLeft then (s, plain .locked)
  else if s.gs.accessCode = 0 then (s, plain .locked)
  else if code = s.gs.accessCode then
    ({ s with remote := { s.remote with unlocked := true, unlockLeft := 16 } }, plain .done)
  else
    ({ s with remote := { s.remote with unlocked := false, unlockLeft := 0, refusalLeft := 16 } }, plain .locked)

/-- LOCK (R179). -/
def lockNow (s : State) : State × Response :=
  ({ s with remote := { s.remote with unlocked := false, unlockLeft := 0 } }, plain .done)

/-- A request that needs the link unlocked when it comes over it (R177). -/
def linkRefuses (port : Port) (s : State) : Bool :=
  match port with
  | .cabinet => false
  | .district => !s.remote.unlocked

/-- PUMP SERVICE (R90): operand 0 is OUT and 1 is RETURN. -/
def pumpServiceNow (port : Port) (pump operand : Nat) (s : State) : State × Response :=
  if linkRefuses port s then (s, plain .locked)
  else
    match pumpOf pump with
    | none => (s, plain .invalid)
    | some p =>
      let taken := match operand with
        | 0 => some (serviceOut p s)
        | 1 => some (serviceReturn p s)
        | _ => none
      match taken with
      | none => (s, plain .invalid)
      | some none => (s, plain .inUse)
      | some (some s1) => (s1, plain .done)

/-- CIRCUIT RESET (R143). -/
def circuitResetNow (port : Port) (circuit : Nat) (s : State) : State × Response :=
  if linkRefuses port s then (s, plain .locked)
  else
    match circuitOf circuit with
    | none => (s, plain .invalid)
    | some c =>
      if (s.frost.circuits.get c).state = .fault then (resetCircuitFault c s, plain .done) else (s, plain .inUse)

/-- ACKNOWLEDGE: the response carries the guard state after the request, accepted or refused (R124). -/
def acknowledgeNow (s : State) : State × Response :=
  let r := acknowledgeGuard s
  let b := Wire.u8 (guardStateCode r.1.guard.state)
  (r.1, { code := if r.2 then .done else .conditions, body := b, masked := b })

/-- CLEAR EVENTS (R190). -/
def clearEventsNow (flags : BitVec 17) (s : State) : State × Response :=
  let e := s.events &&& ~~~flags
  ({ s with events := e }, doneWith (eventBytes e))

/-- SET EVENT ENABLES (R191). -/
def setEnablesNow (flags : BitVec 17) (s : State) : State × Response :=
  ({ s with enables := flags }, doneWith (eventBytes flags))

/-- A request taken on the cabinet port only (R174, R192); over the link its NOT_HERE has no body, an ACKNOWLEDGE's too
(log entry 44). -/
def cabinetOnly (port : Port) (act : State → State × Response) (s : State) : State × Response :=
  match port with
  | .cabinet => act s
  | .district => (s, plain .notHere)

/-- A request taken over the link only (R178). -/
def districtOnly (port : Port) (act : State → State × Response) (s : State) : State × Response :=
  match port with
  | .cabinet => (s, plain .notHere)
  | .district => act s

/-- A READ TOWER result as a port may have it: over a locked link the guard-set values are 0 (R177, R187). -/
def towerShown (port : Port) (s : State) (r : Response) : Response :=
  match port with
  | .cabinet => r
  | .district => if s.remote.unlocked then r else { r with body := r.masked }

/-- A request carried out by its owner (R174, R186): the state after it and the result. -/
def carryOut (port : Port) (q : Request) (s : State) : State × Response :=
  match q with
  | .place o => placeOrder port o s
  | .amend n e a => amendOrder n e a s
  | .retire n e => retireOrder n e s
  | .look n => (s, lookNow n s)
  | .list n => (s, listNow n s)
  | .readTower n => (s, towerShown port s (readTowerNow n s))
  | .readGuard ids => (s, readGuardNow port ids s)
  | .writeGuard id v => writeGuardNow port id v s
  | .setTariff es => setTariffNow es s
  | .readTariff => (s, readTariffNow s)
  | .setClock d m x => cabinetOnly port (setClockNow d m x) s
  | .unlock c => districtOnly port (unlockNow c) s
  | .lock => lockNow s
  | .pumpService p o => pumpServiceNow port p o s
  | .circuitReset c => circuitResetNow port c s
  | .acknowledge => cabinetOnly port acknowledgeNow s
  | .clearEvents f => cabinetOnly port (clearEventsNow f) s
  | .setEventEnables f => cabinetOnly port (setEnablesNow f) s

/-- A result that accepts the request. -/
def accepts (r : Response) : Bool := r.code = .done || r.code = .staged

/-- The request, carried out over the link with this result, has changed the tower (R176). `s` is the state before it. -/
def changesTower (q : Request) (r : Response) (s : State) : Bool :=
  match q with
  | .place _ => accepts r
  | .amend _ _ _ => accepts r
  | .retire _ _ => accepts r
  | .look _ => false
  | .list _ => false
  | .readTower _ => false
  | .readGuard _ => false
  | .writeGuard _ _ => accepts r
  | .setTariff _ => accepts r
  | .readTariff => false
  | .setClock _ _ _ => false
  | .unlock _ => accepts r
  | .lock => s.remote.unlocked
  | .pumpService _ _ => accepts r
  | .circuitReset _ => accepts r
  | .acknowledge => false
  | .clearEvents _ => false
  | .setEventEnables _ => false

/-- The REMOTE event of a request carried out over the link (R176). `before` is the state before the request. -/
def markRemote (port : Port) (q : Request) (r : Response) (before after : State) : State :=
  match port with
  | .cabinet => after
  | .district => if changesTower q r before then setEvent .remote after else after

/-- The owner's result becomes that of the cabinet request in flight, when it is this one (R186, log entry 6). -/
def noteFormed (port : Port) (q : Request) (r : Response) (s : State) : State :=
  match port, s.cabinet.state, s.cabinet.inFlight with
  | .cabinet, .working, some f =>
    if f.request = q ∧ f.formed = none then
      { s with cabinet := { s.cabinet with inFlight := some { f with formed := some r } } }
    else s
  | _, _, _ => s

/-- A request is taken whole: carried out, its REMOTE event set, its result kept (R14, R176, log entry 6). -/
def takeRequest (port : Port) (q : Request) (s : State) : State :=
  let r := carryOut port q s
  let s1 := markRemote port q r.2 s r.1
  noteFormed port q r.2 { s1 with lastResult := some r.2 }

end Sys2Proof.Machine
end

