-- ==== Sys2Proof/Machine/Cabinet.lean ====
section
/-! DEFINITION. The cabinet port's frames (R183 to R186). -/

namespace Sys2Proof.Machine

open Wire

/-- The held response as SDO gives it after the status byte: result code, body length, body, sum check (R184). -/
def responseBytes (r : Response) : List Byte :=
  let b := u8 (resultCode r.code) ++ u8 r.body.length ++ r.body
  b ++ [sum8 b]

/-- What the port has to give on SDO in a frame, by the port state at its beginning (R184, chapter 12.1). -/
def sdoBytes (c : Cabinet) : List Byte :=
  match c.state, c.held with
  | .held, some r => 0x5C :: responseBytes r
  | .working, _ => [0x5B]
  | _, _ => [0x5A]

/-- The filler byte (chapter 12.1). -/
def filler : Byte := 0x00

/-- Byte `i` that SDO gives in a frame: what the port has to give, and filler past its end (R184). -/
def sdoByte (c : Clocked) (i : Nat) : Byte := (c.sdo[i]?).getD filler

/-- The bytes clocked out on SDO while `n` bytes are clocked in (R184). -/
def clockedOut (c : Clocked) (n : Nat) : List Byte := (List.range n).map (sdoByte c)

/-- CSN falls: the port state chooses what SDO gives (R184). -/
def beginCabinetFrame (s : State) : State :=
  { s with cabinet := { s.cabinet with clocked := some { atBegin := s.cabinet.state, sdo := sdoBytes s.cabinet } } }

/-- The port forms a response itself and enters HELD (R185). -/
def holdResponse (r : Response) (s : State) : State :=
  { s with cabinet := { s.cabinet with state := .held, held := some r, inFlight := none } }

/-- The port enters IDLE (R185). -/
def idlePort (s : State) : State := { s with cabinet := { s.cabinet with state := .idle, held := none, inFlight := none } }

/-- The request is handed to its owner: WORKING (R185). -/
def handRequest (q : Request) (s : State) : State :=
  { s with cabinet := { s.cabinet with
      state := .working, held := none, inFlight := some { request := q, formed := none } } }

/-- The sum check of a request frame agrees (R185, chapter 12.1). -/
def requestSumOk (sdi : List Byte) : Bool :=
  let n := 5 + at8 sdi 4
  sum8 (sdi.take n) = (sdi[n]?).getD 0

/-- A frame whose request is taken is judged, first case that applies (R185). -/
def judgeCabinetFrame (sdi : List Byte) (s : State) : State :=
  if sdi.isEmpty || at8 sdi 0 = 0 then idlePort s
  else if sdi.length < 5 || 96 < at8 sdi 4 || sdi.length < 6 + at8 sdi 4 then holdResponse (plain .frameError) s
  else if requestSumOk sdi = false then holdResponse (plain .frameError) s
  else if knownCode (at8 sdi 0) = false then holdResponse (plain .unknown) s
  else if at8 sdi 0 = 0x20 then holdResponse (plain .notHere) s
  else
    match parseRequest s (at8 sdi 0) (at8 sdi 1) (at8 sdi 2) (at8 sdi 3) ((sdi.drop 5).take (at8 sdi 4)) with
    | none => holdResponse (plain .invalid) s
    | some q => handRequest q s

/-- CSN rises: every byte clocked in has clocked one out, so a held response of `b` body bytes is collected when at least
`4 + b` bytes were clocked (R184). -/
def endCabinetFrame (sdi : List Byte) (s : State) : State :=
  match s.cabinet.clocked with
  | none => s
  | some c =>
    let s1 := { s with cabinet := { s.cabinet with clocked := none } }
    match c.atBegin with
    | .idle => judgeCabinetFrame sdi s1
    | .working => s1
    | .held => if c.sdo.length ≤ sdi.length then judgeCabinetFrame sdi s1 else s1

/-- The owner has formed the result of the request in flight; a request not yet carried out is carried out now
(R186, log entry 7). -/
def formResult (s : State) : State :=
  match s.cabinet.state, s.cabinet.inFlight with
  | .working, some f =>
    match f.formed with
    | some r => holdResponse r s
    | none =>
      let r := carryOut .cabinet f.request s
      holdResponse r.2 (takeRequest .cabinet f.request s)
  | _, _ => s

end Sys2Proof.Machine
end

