-- ==== Sys2Proof/Machine/Link.lean ====
section
/-! DEFINITION. The district link controller (chapter 8) and the remote request handling (chapter 9). -/

namespace Sys2Proof.Machine

open Wire

/-! ### Frames -/

/-- The bytes of a frame that the check covers: destination through the last body byte (R155). -/
def checkedBytes (dest src kind seq : Byte) (body : List Byte) : List Byte :=
  [dest, src, kind, seq] ++ u8 body.length ++ body

/-- The check of a frame as heard agrees (R155). -/
def frameCheckOk (f : Frame) : Bool := crc16 (checkedBytes f.dest f.src f.kind f.seq f.body) = f.check

/-- The bytes of a frame the part sends: start byte, fields, body, check (R161, chapter 12.2). -/
def frameBytes (dest src kind seq : Byte) (body : List Byte) : List Byte :=
  let c := checkedBytes dest src kind seq body
  [0xC5] ++ c ++ u16 (crc16 c).toNat

/-- The line falls quiet and the frame in assembly is emptied (R154). -/
def lineQuiet (s : State) : State := { s with link := { s.link with line := .quiet, assembly := [] } }

/-- A start byte heard while hunting (R154). -/
def startFrame (s : State) : State :=
  if s.link.line = .quiet then { s with link := { s.link with line := .receiving, assembly := [0xC5] } } else s

/-- The assembly of a frame is cut short (R154). -/
def cutFrame (s : State) : State := if s.link.line = .receiving then lineQuiet s else s

/-! ### Openers and rounds -/

/-- What an opener carries (R157, chapter 12.2). -/
structure OpenerFields where
  round : Nat
  day : Nat
  minute : Nat
  second : Nat
  rank : Nat
  timeSet : Bool
  slotLength : Nat
deriving DecidableEq, Repr

/-- The fields of an opener body; a length other than 10 gives none (R199). -/
def openerFields (b : List Byte) : Option OpenerFields :=
  if b.length = 10 then
    some { round := at8 b 0, day := at16 b 1, minute := at16 b 3, second := at8 b 5, rank := at8 b 6,
           timeSet := bitSet (at8 b 7) 0, slotLength := at16 b 8 }
  else none

/-- The fields an opener may carry: R157's ranges, and the clock's (R38). -/
def openerInRange (o : OpenerFields) : Bool :=
  o.round ≤ 63 && o.rank ≤ 7 && 250 ≤ o.slotLength && o.slotLength ≤ 2000 && o.minute ≤ 1439 && o.second ≤ 59

/-- A worse head's opener in SYNCED ends once the round period since the last accepted opener has passed (R157). Where it ends at the
very instant the period passes, either may be taken first (R170), and a free value decides (log entry 53). -/
def periodPassed (s : State) (instant t : Nat) : Bool :=
  s.clock.roundPeriod < instant - t || (instant - t = s.clock.roundPeriod && s.choice % 2 = 0)

/-- The opener is accepted by trust, rank and the time since the last accepted opener (R157). -/
def openerAccepted (s : State) (instant : Nat) (o : OpenerFields) : Bool :=
  match s.clock.trust with
  | .synced =>
    o.rank ≤ s.clock.rank ||
      match s.clock.lastOpener with
      | some t => periodPassed s instant t
      | none => true
  | _ => true

/-- The entries of a new round's plan: the LIVE REPORT orders whose round code matches, in ascending order number (R158; log entry 48). -/
def planFor (s : State) (round : Nat) : List (Nat × Nat) :=
  s.book.records.filterMap (fun r =>
    match r.body with
    | .report q => if round % 2 ^ q.k = q.r then some (q.slot, r.number) else none
    | _ => none)

/-- Counts the unlock and refusal rounds down, and makes a pending answer due in the new round (R175, R180). -/
def countRound (r : Remote) : Remote :=
  let left := r.unlockLeft - 1
  { r with
    unlocked := r.unlocked && 0 < left
    unlockLeft := if r.unlocked then left else r.unlockLeft
    refusalLeft := r.refusalLeft - 1
    answer := r.answer.map (fun a => { a with heldOver := false }) }

/-- The frame due that outlives an accepted opener: one whose instant of sending falls together with the opener's end is still sent, the
line being free of the opener (R170, fifth row); any other is dropped unsent (R158, R162; log entry 47). -/
def dueWithOpener (instant : Nat) (f : Option FrameDue) : Option FrameDue := f.filter (fun x => x.due = instant)

/-- A new round opens (R158): slot 0 begins at the opener's end. -/
def openRound (instant : Nat) (o : OpenerFields) (s : State) : State :=
  { s with
    link := { s.link with
      frameDue := dueWithOpener instant s.link.frameDue
      round := some { count := o.round, slotLength := o.slotLength, start := instant, begun := 1 }
      plan := planFor s o.round
      answerSlot := some s.gs.answerSlot }
    remote := countRound s.remote }

/-- A good OPENER frame with destination 255 and source 0 (R157, R158). -/
def takeOpener (instant : Nat) (body : List Byte) (s : State) : State :=
  match openerFields body with
  | none => s
  | some o =>
    let s1 := { s with choice := s.choice / 2 }
    if openerInRange o && openerAccepted s instant o then
      openRound instant o (clockTakesOpener instant o.day o.minute o.second o.rank o.timeSet s1)
    else s1

/-! ### Remote requests -/

/-- The frame's end falls in slot 1 of the present round, trust being SYNCED (R173). -/
def requestTaken (s : State) (instant : Nat) : Bool :=
  s.clock.trust = .synced &&
    match s.link.round with
    | some r => r.start + r.slotLength ≤ instant && instant ≤ r.start + 2 * r.slotLength
    | none => false

/-- The round's answer slot has already begun (R175). -/
def answerSlotBegun (s : State) : Bool :=
  match s.link.round, s.link.answerSlot with
  | some r, some a => a < r.begun
  | _, _ => false

/-- The request of a REQUEST body: a result at once, or a request to carry out (R174, R199). -/
def linkRequest (s : State) (b : List Byte) : ResultCode ⊕ Request :=
  if b.isEmpty || !linkCode (at8 b 0) then .inl .notHere
  else if b.length < 4 then .inl .invalid
  else
    match parseRequest s (at8 b 0) (at8 b 1) (at8 b 2) (at8 b 3) (b.drop 4) with
    | some q => .inr q
    | none => .inl .invalid

/-- Leaves a new answer record (R175). -/
def leaveAnswer (seq code : Byte) (r : Response) (heldOver : Bool) (s : State) : State :=
  { s with remote := { s.remote with
      answer := some { seq := seq, code := code, response := r, refused := none, heldOver := heldOver } } }

/-- A REQUEST taken with no answer pending is carried out at once (R173, R175). -/
def carryRemote (seq : Byte) (b : List Byte) (s : State) : State :=
  let code := (b[0]?).getD 0
  let held := answerSlotBegun s
  match linkRequest s b with
  | .inl c => leaveAnswer seq code (plain c) held { s with lastResult := some (plain c) }
  | .inr q =>
    let r := carryOut .district q s
    leaveAnswer seq code r.2 held (takeRequest .district q s)

/-- A REQUEST frame addressed to the tower (R173). -/
def takeRequestFrame (instant : Nat) (seq : Byte) (b : List Byte) (s : State) : State :=
  if requestTaken s instant then
    match s.remote.answer with
    | some a => { s with remote := { s.remote with answer := some { a with refused := some seq } } }
    | none => carryRemote seq b s
  else s

/-- A complete frame is judged (R155) and routed (R156). Nothing is taken while SENDING (R154). -/
def receiveFrame (instant : Nat) (f : Frame) (s : State) : State :=
  if s.link.line = .sending then s
  else
    let s1 := lineQuiet s
    if frameCheckOk f = false then s1
    else if f.kind = 1 ∧ f.dest = 255 ∧ f.src = 0 then takeOpener instant f.body s1
    else if f.kind = 2 ∧ f.dest.toNat = s1.gs.towerAddress ∧ f.src = 0 then takeRequestFrame instant f.seq f.body s1
    else s1

/-! ### Slots and sending -/

/-- The report due in a plan entry's slot (R160): the live REPORT order, trust SYNCED and the line QUIET. -/
def reportDue (s : State) (n : Nat) : Option ReportRecord :=
  if s.clock.trust = .synced ∧ s.link.line = .quiet then
    match findRecord n s with
    | some ⟨_, _, _, .report q⟩ => some q
    | _ => none
  else none

/-- The source of every frame the part sends (R163). -/
def towerByte (s : State) : Byte := BitVec.ofNat 8 s.gs.towerAddress

/-- The REPORT frame of an order, built from the live state (R160, R163, R165). -/
def buildReport (s : State) (n round : Nat) (q : ReportRecord) : List Byte :=
  frameBytes 0 (towerByte s) 3 (BitVec.ofNat 8 s.link.sequence) (reportBody s n round q.contents)

/-- The body of an ANSWER frame as it is built: guard-set values are 0 while LOCKED (R175, R177). -/
def answerBody (s : State) (a : Answer) : List Byte :=
  [a.code] ++ u8 (resultCode a.response.code) ++ refusedBytes a.refused
    ++ (if s.remote.unlocked then a.response.body else a.response.masked)

/-- The ANSWER frame of the answer record (R164). -/
def buildAnswer (s : State) (a : Answer) : List Byte := frameBytes 0 (towerByte s) 4 a.seq (answerBody s a)

/-- Holds a built frame as the frame due, 20 ms after its slot start (R160, R164). -/
def holdFrame (slot start : Nat) (c : FrameContent) (bytes : List Byte) (s : State) : State :=
  { s with link := { s.link with frameDue := some { slot := slot, due := start + 20, content := c, bytes := bytes } } }

/-- The start of the answer slot (R164, R175). -/
def startAnswerSlot (slot start : Nat) (s : State) : State :=
  match s.remote.answer with
  | some a =>
    if a.heldOver = false ∧ s.clock.trust = .synced ∧ s.link.line = .quiet then
      holdFrame slot start .answer (buildAnswer s a) s
    else s
  | none => s

/-- A slot begins: the controller acts when it is a plan entry's or the round's answer slot (R159, R160, R164). Slots begin
once, in ascending order (log entry 20). -/
def beginSlot (slot : Nat) (s : State) : State :=
  match s.link.round with
  | none => s
  | some r =>
    if r.begun ≤ slot ∧ slot ≤ 31 then
      let start := r.start + slot * r.slotLength
      let s1 := reachInstant start { s with link := { s.link with round := some { r with begun := slot + 1 } } }
      match s1.link.plan.find? (fun e => e.1 = slot) with
      | some e =>
        match reportDue s1 e.2 with
        | some q => holdFrame slot start (.report (some e.2) r.count) (buildReport s1 e.2 r.count q) s1
        | none => s1
      | none => if s1.link.answerSlot = some slot then startAnswerSlot slot start s1 else s1
    else s

/-- The instant of sending (R161): sent while SYNCED with the line QUIET, else dropped. -/
def sendDue (s : State) : State :=
  match s.link.frameDue with
  | none => s
  | some f =>
    let s1 := reachInstant f.due { s with link := { s.link with frameDue := none } }
    if s1.clock.trust = .synced ∧ s1.link.line = .quiet then
      { s1 with link := { s1.link with line := .sending, sending := some f } }
    else s1

/-- A REPORT order's last round sent is set (R161). -/
def setLastSent (n round : Nat) (s : State) : State :=
  setRecords
    (mapRecord n (fun r =>
      match r.body with
      | .report q => { r with body := .report { q with lastSent := some round } }
      | _ => r) s.book.records) s

/-- The last check byte has been sent (R161, R164). -/
def endSending (s : State) : State :=
  match s.link.line, s.link.sending with
  | .sending, some f =>
    let s1 := { s with link := { s.link with line := .quiet, sending := none } }
    match f.content with
    | .report n round =>
      let s2 := match n with
        | some k => setLastSent k round s1
        | none => s1
      { s2 with link := { s2.link with sequence := (s2.link.sequence + 1) % 256 } }
    | .answer => { s1 with remote := { s1.remote with answer := none } }
  | _, _ => s

end Sys2Proof.Machine
end

