-- ==== Sys2Proof/Machine/Announce.lean ====
section
/-! DEFINITION. How an announcement is taken by its receiver, and the cascade that takes every announcement a command leads to. -/

namespace Sys2Proof.Machine

/-- The fill controller and the frost controller judge their orders against the new minute of a discontinuity, in either order and before
what that leads to is taken (R40, R68, R137; log entry 3). -/
def takeDiscontinuity (s : State) : State :=
  let m := s.clock.minute
  let s1 := { s with choice := s.choice / 2 }
  if s.choice % 2 = 0 then judgeHeatWindows m true (judgeWindows m true s1)
  else judgeWindows m true (judgeHeatWindows m true s1)

/-- The receiver takes one announcement under its own chapter. At a minute event the frost controller counts, then judges the HEAT orders,
then makes its judgement of R149, which is the model's choice (log entry 56). -/
def handle (n : Note) (s : State) : State :=
  match n with
  | .evalFill => evaluateFill s
  | .pumpChanged p => takePumpChanged p s
  | .runningConfirmed p => takeRunningConfirmed p s
  | .feedbackDrop p => takeFeedbackDrop p s
  | .reclaimReport p => takeReclaimReport p s
  | .weld p => takeWeld p s
  | .walk => runWalk s
  | .guardJudge => judgeGuard s
  | .ceiling => refreshCeiling s
  | .reserveRequest => takeReserveRequest s
  | .frostJudge => judgeFrost s
  | .served first => judgeTurned first s
  | .turnoverRequest t => placeSystem 241 t s
  | .withdrawTurnover => takeWithdrawal s
  | .charge => chargeTally s
  | .reband => rebandNow s
  | .fillWindows m => judgeWindows m false s
  | .heatMinute m =>
    emit .frostJudge (judgeHeatWindows m false
      { s with frost := { s.frost with stagnation := min 4320 (s.frost.stagnation + 1) } })
  | .heatWindows m => judgeHeatWindows m false s
  | .sample => takeTrendSample s
  | .rollTo day second => takeRollTo day second s
  | .discontinuity => takeDiscontinuity s

/-- Takes the announcements in order; those one leads to are taken before the ones that waited (log entry 4). -/
def settle : Nat → State → State
  | 0, s => s
  | k + 1, s =>
    match s.agenda with
    | [] => s
    | n :: rest =>
      let t := handle n { s with agenda := [] }
      settle k { t with agenda := t.agenda ++ rest }

/-- How many announcements one command takes at most; any left are taken first by the next (log entry 5). -/
def cascadeBound : Nat := 4096

/-- The end of a command that may lead to announcements: every one is taken, and a free value is drawn for the next. -/
def finish (s : State) : State := refreshChoice (settle cascadeBound s)

/-- The outcome of a command whose own effect is `act` and whose announcements are then taken. -/
def conclude (act : State → State) (s : State) : Host.Outcome State Fault Refusal := .next (finish (act s))

end Sys2Proof.Machine
end

