-- ==== Sys2Proof/Machine/Reset.lean ====
section
/-! DEFINITION. RESET (R198): the guard store judges its image and loads the working copy, and every block takes its reset value. -/

namespace Sys2Proof.Machine

/-- The image is good: no incomplete mark, every field in range, a calendar of R42, and the check agreeing (R198). -/
def imageGood (i : Image) : Bool :=
  !i.incomplete && guardSetInRange i.guardSet && calendarGood i.calendar
    && decide (imageCheck i.guardSet i.calendar = i.check)

/-- The inputs a reset finds. -/
def inputsOf (x : Pins) : Inputs :=
  { feedback := x.feedback, overload := x.overload, float := x.float, openLimit := x.openLimit,
    closedLimit := x.closedLimit, current := x.current, key := x.key }

/-- The store after the load: a good image as it stands, or the factory values with a commit begun (R198). -/
def loadedStore (st : Store) : Store :=
  if imageGood st.image then { st with calendar := st.image.calendar, commit := false }
  else { calendar := factoryCalendar, image := { st.image with incomplete := true }, commit := true }

/-- The working copy of the guard set after the load (R198). -/
def loadedGuardSet (st : Store) : GuardSet := if imageGood st.image then st.image.guardSet else factoryGuardSet

/-- A pump channel at reset, by its inputs (R91). -/
def pumpAtReset (g : GuardSet) (closed tripped : Bool) : Pump :=
  { state := if closed || tripped then .faulted else .lockout
    cause := if closed then some .welded else if tripped then some .overload else none
    attempts := 0
    pendingStart := none
    stopCause := .none
    dwell := none
    confirm := none
    stopTimer := none
    lockout := if closed || tripped then none else some g.lockoutTime
    judged := closed
    overload := tripped }

/-- The claims entered for the pumps found welded, in ascending pump number (R108). -/
def weldedClaims (g : GuardSet) (feedback : Trio Bool) : List Claim :=
  let ps := pumpNumbers.filter (fun p => feedback.get p)
  (ps.zip (List.range 3)).map (fun x =>
    { claimant := .pump x.1, units := g.rating.get x.1, cls := .reserve, seq := x.2, reclaiming := false })

/-- The valve at reset (R92, R94): both limits active is a fault, the open limit gives OPEN, else it drives open. -/
def valveAtReset (g : GuardSet) (x : Pins) : Valve :=
  if x.openLimit && x.closedLimit then
    { state := .fault, travel := none, faultDirection := some .toClose, lastTravel := .toClose }
  else if x.openLimit then { state := .isOpen, travel := none, faultDirection := none, lastTravel := .toClose }
  else { state := .opening, travel := some g.travelLimit, faultDirection := none, lastTravel := .toOpen }

/-- A circuit at reset, its setpoint worked out from its frost floor (R135, R138). -/
def circuitAtReset (g : GuardSet) (c : Fin 8) : Circuit :=
  { state := .off, setpoint := frostFloor g (g.role.get c), timer := none }

/-- The circuit table at reset. -/
def circuitsAtReset (g : GuardSet) : Octo Circuit :=
  ⟨circuitAtReset g 0, circuitAtReset g 1, circuitAtReset g 2, circuitAtReset g 3, circuitAtReset g 4,
    circuitAtReset g 5, circuitAtReset g 6, circuitAtReset g 7⟩

/-- The pipe at reset: FROZEN for want of a reading when a circuit has the role OVERFLOW_PIPE (R145). -/
def pipeAtReset (g : GuardSet) : Option PipeReason :=
  if (circuitOfRole g .overflowPipe).isSome then some .noReading else none

/-- Every block at its reset value, before what reset reports to the guard is taken (R198). The queue and the count of
free values are kept (log entry 29). -/
def resetBlocks (x : Pins) (s : State) : State :=
  let g := loadedGuardSet s.store
  let st := loadedStore s.store
  let pipe := pipeAtReset g
  { State.reset with
    pending := s.pending
    crystal := s.crystal
    gs := g
    store := st
    pumps := ⟨pumpAtReset g x.feedback.p0 x.overload.p0, pumpAtReset g x.feedback.p1 x.overload.p1,
      pumpAtReset g x.feedback.p2 x.overload.p2⟩
    valve := valveAtReset g x
    arbiter :=
      { waiting := [], granted := weldedClaims g x.feedback, counter := (weldedClaims g x.feedback).length,
        reclaim := none }
    guard := { state := .blind, ceiling := ceilingOf g pipe.isSome, frozenPipe := pipe.isSome, held := Trio.all false,
               reserve := false }
    frost := { State.reset.frost with circuits := circuitsAtReset g, pipe := pipe }
    events := 0
    inputs := inputsOf x
    choice := s.choice
    freeCount := s.freeCount }

/-- The flags the reset itself sets, besides those of the guard's entries (R188). -/
def resetEvents (good : Bool) (x : Pins) (s : State) : State :=
  let s1 := setEvent .powerUp s
  let s2 := if good then s1 else setEvent .defaulted s1
  let s3 := if (x.feedback.toList ++ x.overload.toList).any id then setEvent .pumpFault s2 else s2
  if x.openLimit && x.closedLimit then setEvent .valveFault s3 else s3

/-- What reset reports to the guard: each weld, and a float found active; in any order (R91, R127). -/
def resetReports (x : Pins) : List Note :=
  (pumpNumbers.filter (fun p => x.feedback.get p)).map .weld ++ (if x.float then [.guardJudge] else [])

/-- RESET, by power-up or by RESETN (R198). -/
def resetNow (x : Pins) (s : State) : State :=
  emitFree (resetReports x) (judgeAllowance (resetEvents (imageGood s.store.image) x (resetBlocks x s)))

end Sys2Proof.Machine
end

