-- ==== Sys2Proof/Machine/ClockCommands.lean ====
section
/-! DEFINITION. The meanings of the rows of time (chapter 2), of the guard store's commit and of reset (chapter 11). -/

namespace Sys2Proof.Machine

/-- MINUTE_EVENT: the crystal counts to the next whole minute (R31, R32; log entry 8). -/
def execMinuteEvent (s : State) : Host.Outcome State Fault Refusal := conclude advanceToMinute s

/-- SECOND_ADVANCE: the crystal counts to the next whole second (R30; log entry 8). -/
def execSecondAdvance (s : State) : Host.Outcome State Fault Refusal := conclude advanceSecond s

/-- HOLDOVER_ENTRY: the watch on openers expires (R35; log entry 9). -/
def execHoldoverEntry (s : State) : Host.Outcome State Fault Refusal := conclude enterHoldover s

/-- HOLDOVER_ROUND (R36). -/
def execHoldoverRound (s : State) : Host.Outcome State Fault Refusal := conclude countHoldover s

/-- COMMIT_END (R197). -/
def execCommitEnd (s : State) : Host.Outcome State Fault Refusal := .next (endCommit s)

/-- RESET (R198). -/
def execReset (pins : Pins) (s : State) : Host.Outcome State Fault Refusal := conclude (resetNow pins) s

end Sys2Proof.Machine
end

