-- ==== Sys2Proof/Machine/FieldCommands.lean ====
section
/-! DEFINITION. The meanings of the rows of the field inputs and of the second timers behind them: pumps and flow (chapters 3 and 4),
the valve (chapter 4), level and float (chapter 6), probes and heaters (chapter 7). -/

namespace Sys2Proof.Machine

/-- FLOW_PULSE (R59). -/
def execFlowPulse (p : Fin 3) (s : State) : Host.Outcome State Fault Refusal := .next (takeFlowPulse p s)

/-- NO_FLOW_EXPIRY (R60, R72). -/
def execNoFlowExpiry (p : Fin 3) (s : State) : Host.Outcome State Fault Refusal := conclude (takeNoFlow p) s

/-- DWELL_EXPIRY (R80). -/
def execDwellExpiry (p : Fin 3) (s : State) : Host.Outcome State Fault Refusal := conclude (pumpDwellExpiry p) s

/-- CONFIRM_EXPIRY (R80, R81). -/
def execConfirmExpiry (p : Fin 3) (s : State) : Host.Outcome State Fault Refusal := conclude (pumpConfirmExpiry p) s

/-- FEEDBACK_CLOSES (R77, R80). -/
def execFeedbackCloses (p : Fin 3) (s : State) : Host.Outcome State Fault Refusal := conclude (pumpFeedbackCloses p) s

/-- FEEDBACK_OPENS, with the overload relays as they stand at that moment (R77, R83, R86, R89; log entry 28). -/
def execFeedbackOpens (p : Fin 3) (sample : Sample) (s : State) : Host.Outcome State Fault Refusal :=
  conclude (pumpFeedbackOpens p) (takeSample sample s)

/-- OVERLOAD_TRIP (R84). -/
def execOverloadTrip (p : Fin 3) (s : State) : Host.Outcome State Fault Refusal := conclude (pumpOverloadTrip p) s

/-- STOP_TIMER_EXPIRY (R86). -/
def execStopTimerExpiry (p : Fin 3) (s : State) : Host.Outcome State Fault Refusal := conclude (pumpStopExpiry p) s

/-- LOCKOUT_EXPIRY (R87). -/
def execLockoutExpiry (p : Fin 3) (s : State) : Host.Outcome State Fault Refusal := conclude (pumpLockoutExpiry p) s

/-- VALVE_LIMIT_CHANGE: the two limit inputs as they now stand (R94). -/
def execValveLimitChange (openLimit closedLimit : Bool) (s : State) : Host.Outcome State Fault Refusal :=
  conclude (valveLimits openLimit closedLimit) s

/-- TRAVEL_TIMER_EXPIRY (R94). -/
def execTravelTimerExpiry (s : State) : Host.Outcome State Fault Refusal := conclude valveTravelExpiry s

/-- LEVEL_READING (R111, R112). -/
def execLevelReading (value : Int) (error : Bool) (s : State) : Host.Outcome State Fault Refusal :=
  conclude (takeLevel value error) s

/-- VALIDITY_TIMER_EXPIRY (R113). -/
def execValidityTimerExpiry (s : State) : Host.Outcome State Fault Refusal := conclude validityExpiry s

/-- The float input as it now stands; a change makes the guard judge (R116). -/
def takeFloat (active : Bool) (s : State) : State :=
  let s1 := { s with inputs := { s.inputs with float := active } }
  if active = s.inputs.float then s1 else emit .guardJudge s1

/-- FLOAT_CHANGE (R116, R117). -/
def execFloatChange (active : Bool) (s : State) : Host.Outcome State Fault Refusal := conclude (takeFloat active) s

/-- A probe reading, good or not (R132, R133). -/
def takeProbe (i : Fin 8) (temperature : Int) (error : Bool) (s : State) : State :=
  if readingGood temperature error then probeGood i temperature s else probeInvalid i s

/-- PROBE_READING (R132, R133). -/
def execProbeReading (i : Fin 8) (temperature : Int) (error : Bool) (s : State) : Host.Outcome State Fault Refusal :=
  conclude (takeProbe i temperature error) s

/-- A silence timer, not restarted in this second, expires (R133; log entry 8). -/
def silenceExpires (i : Fin 8) (s : State) : State :=
  if mayExpire silenceTime (s.frost.probes.get i).silence then probeInvalid i s else s

/-- SILENCE_TIMER_EXPIRY (R133). -/
def execSilenceTimerExpiry (i : Fin 8) (s : State) : Host.Outcome State Fault Refusal := conclude (silenceExpires i) s

/-- HEATER_CURRENT_CHANGE (R142). -/
def execHeaterCurrentChange (c : Fin 8) (current : Bool) (s : State) : Host.Outcome State Fault Refusal :=
  conclude (heaterCurrent c current) s

/-- FEEDBACK_TIMER_EXPIRY (R142). -/
def execFeedbackTimerExpiry (c : Fin 8) (s : State) : Host.Outcome State Fault Refusal :=
  conclude (circuitTimerExpiry c) s

end Sys2Proof.Machine
end

