-- ==== Sys2Proof/Machine/PortCommands.lean ====
section
/-! DEFINITION. The meanings of the rows of the two ports' frames: the cabinet port (chapter 10) and the district link
(chapters 8 and 9). -/

namespace Sys2Proof.Machine

/-- CABINET_FRAME_BEGIN: CSN falls (R184). -/
def execCabinetFrameBegin (s : State) : Host.Outcome State Fault Refusal := .next (beginCabinetFrame s)

/-- CABINET_FRAME_END: CSN rises (R184, R185). -/
def execCabinetFrameEnd (sample : Sample) (sdi : List Byte) (s : State) : Host.Outcome State Fault Refusal :=
  .next (endCabinetFrame sdi (takeSample sample s))

/-- OWNER_FORMS_RESULT (R186). -/
def execOwnerFormsResult (sample : Sample) (s : State) : Host.Outcome State Fault Refusal :=
  conclude formResult (takeSample sample s)

/-- FRAME_START (R154). -/
def execFrameStart (s : State) : Host.Outcome State Fault Refusal := .next (startFrame s)

/-- FRAME_CUT_SHORT (R154). -/
def execFrameCutShort (s : State) : Host.Outcome State Fault Refusal := .next (cutFrame s)

/-- BYTE_GAP_TIMEOUT (R154). -/
def execByteGapTimeout (s : State) : Host.Outcome State Fault Refusal := .next (cutFrame s)

/-- DISCARDED_FRAME: the frame is judged by R155 and R156 (log entry 21). -/
def execDiscardedFrame (f : Frame) (s : State) : Host.Outcome State Fault Refusal :=
  conclude (receiveFrame s.crystal f) s

/-- IGNORED_FRAME: the frame is judged by R155 and R156 (log entry 21). -/
def execIgnoredFrame (f : Frame) (s : State) : Host.Outcome State Fault Refusal :=
  conclude (receiveFrame s.crystal f) s

/-- OPENER: a frame that ends at a local instant (R157, R158). -/
def execOpener (instant : Nat) (f : Frame) (s : State) : Host.Outcome State Fault Refusal :=
  conclude (receiveFrame instant f) (reachInstant instant s)

/-- REQUEST_FRAME: a frame that ends at a local instant (R173). -/
def execRequestFrame (instant : Nat) (sample : Sample) (f : Frame) (s : State) : Host.Outcome State Fault Refusal :=
  conclude (receiveFrame instant f) (takeSample sample (reachInstant instant s))

/-- SLOT_START (R160, R164). -/
def execSlotStart (slot : Nat) (s : State) : Host.Outcome State Fault Refusal := .next (beginSlot slot s)

/-- INSTANT_OF_SENDING (R161). -/
def execInstantOfSending (s : State) : Host.Outcome State Fault Refusal := .next (sendDue s)

/-- TRANSMISSION_END (R161, R164). -/
def execTransmissionEnd (s : State) : Host.Outcome State Fault Refusal := .next (endSending s)

end Sys2Proof.Machine
end

