-- ==== Sys2Proof/Machine/RequestCommands.lean ====
section
/-! DEFINITION. The meanings of the nineteen request rows: the port names who sends the request, and the owner carries it out whole
(R14, R174, R186). A request that reads a pin takes the pin's level with it (log entry 28). -/

namespace Sys2Proof.Machine

/-- PLACE (R15). -/
def execPlace (port : Port) (order : PlaceFields) (s : State) : Host.Outcome State Fault Refusal :=
  conclude (takeRequest port (.place order)) s

/-- AMEND (R17). -/
def execAmend (port : Port) (number : Nat) (expected : Option Nat) (fields : AmendFields) (s : State) :
    Host.Outcome State Fault Refusal :=
  conclude (takeRequest port (.amend number expected fields)) s

/-- RETIRE (R21, R22). -/
def execRetire (port : Port) (number : Nat) (expected : Option Nat) (s : State) : Host.Outcome State Fault Refusal :=
  conclude (takeRequest port (.retire number expected)) s

/-- LOOK (R24). -/
def execLook (port : Port) (number : Nat) (s : State) : Host.Outcome State Fault Refusal :=
  .next (takeRequest port (.look number) s)

/-- LIST (R25). -/
def execList (port : Port) (above : Nat) (s : State) : Host.Outcome State Fault Refusal :=
  .next (takeRequest port (.list above) s)

/-- READ TOWER (R187). -/
def execReadTower (port : Port) (sample : Sample) (part : Nat) (s : State) : Host.Outcome State Fault Refusal :=
  .next (takeRequest port (.readTower part) (takeSample sample s))

/-- READ GUARD (R196). -/
def execReadGuard (port : Port) (ids : List Byte) (s : State) : Host.Outcome State Fault Refusal :=
  .next (takeRequest port (.readGuard ids) s)

/-- WRITE GUARD (R195). -/
def execWriteGuard (port : Port) (sample : Sample) (id : Byte) (value : BitVec 32) (s : State) :
    Host.Outcome State Fault Refusal :=
  conclude (takeRequest port (.writeGuard id value)) (takeSample sample s)

/-- SET TARIFF (R44). -/
def execSetTariff (port : Port) (entries : List TariffField) (s : State) : Host.Outcome State Fault Refusal :=
  conclude (takeRequest port (.setTariff entries)) s

/-- READ TARIFF (R45). -/
def execReadTariff (port : Port) (s : State) : Host.Outcome State Fault Refusal :=
  .next (takeRequest port .readTariff s)

/-- SET CLOCK (R41). -/
def execSetClock (port : Port) (day minute second : Nat) (s : State) : Host.Outcome State Fault Refusal :=
  conclude (takeRequest port (.setClock day minute second)) s

/-- UNLOCK (R178). -/
def execUnlock (port : Port) (code : BitVec 32) (s : State) : Host.Outcome State Fault Refusal :=
  .next (takeRequest port (.unlock code) s)

/-- LOCK (R179). -/
def execLock (port : Port) (s : State) : Host.Outcome State Fault Refusal :=
  .next (takeRequest port .lock s)

/-- PUMP SERVICE OUT (R90); operand 0 (chapter 12.3). -/
def execPumpServiceOut (port : Port) (sample : Sample) (pump : Nat) (s : State) : Host.Outcome State Fault Refusal :=
  conclude (takeRequest port (.pumpService pump 0)) (takeSample sample s)

/-- PUMP SERVICE RETURN (R90); operand 1 (chapter 12.3). -/
def execPumpServiceReturn (port : Port) (sample : Sample) (pump : Nat) (s : State) : Host.Outcome State Fault Refusal :=
  conclude (takeRequest port (.pumpService pump 1)) (takeSample sample s)

/-- CIRCUIT RESET (R143). -/
def execCircuitReset (port : Port) (circuit : Nat) (s : State) : Host.Outcome State Fault Refusal :=
  conclude (takeRequest port (.circuitReset circuit)) s

/-- ACKNOWLEDGE (R124). -/
def execAcknowledge (port : Port) (sample : Sample) (s : State) : Host.Outcome State Fault Refusal :=
  conclude (takeRequest port .acknowledge) (takeSample sample s)

/-- CLEAR EVENTS (R190). -/
def execClearEvents (port : Port) (flags : BitVec 17) (s : State) : Host.Outcome State Fault Refusal :=
  .next (takeRequest port (.clearEvents flags) s)

/-- SET EVENT ENABLES (R191). -/
def execSetEventEnables (port : Port) (flags : BitVec 17) (s : State) : Host.Outcome State Fault Refusal :=
  .next (takeRequest port (.setEventEnables flags) s)

end Sys2Proof.Machine
end

