-- ==== Sys2Proof/Machine/Dispatch.lean ====
section
/-! DEFINITION. The dispatcher: one arm for each row of spec/opcode_table.json, each a call of that row's meaning. -/

namespace Sys2Proof.Machine

def exec (i : Instr) (s : State) : Host.Outcome State Fault Refusal :=
  match i with
  | .place port order => Sys2Proof.Machine.execPlace port order s
  | .amend port number expected fields => Sys2Proof.Machine.execAmend port number expected fields s
  | .retire port number expected => Sys2Proof.Machine.execRetire port number expected s
  | .look port number => Sys2Proof.Machine.execLook port number s
  | .list port above => Sys2Proof.Machine.execList port above s
  | .readTower port sample part => Sys2Proof.Machine.execReadTower port sample part s
  | .readGuard port ids => Sys2Proof.Machine.execReadGuard port ids s
  | .writeGuard port sample id value => Sys2Proof.Machine.execWriteGuard port sample id value s
  | .setTariff port entries => Sys2Proof.Machine.execSetTariff port entries s
  | .readTariff port => Sys2Proof.Machine.execReadTariff port s
  | .setClock port day minute second => Sys2Proof.Machine.execSetClock port day minute second s
  | .unlock port code => Sys2Proof.Machine.execUnlock port code s
  | .lock port => Sys2Proof.Machine.execLock port s
  | .pumpServiceOut port sample pump => Sys2Proof.Machine.execPumpServiceOut port sample pump s
  | .pumpServiceReturn port sample pump => Sys2Proof.Machine.execPumpServiceReturn port sample pump s
  | .circuitReset port circuit => Sys2Proof.Machine.execCircuitReset port circuit s
  | .acknowledge port sample => Sys2Proof.Machine.execAcknowledge port sample s
  | .clearEvents port flags => Sys2Proof.Machine.execClearEvents port flags s
  | .setEventEnables port flags => Sys2Proof.Machine.execSetEventEnables port flags s
  | .cabinetFrameBegin => Sys2Proof.Machine.execCabinetFrameBegin s
  | .cabinetFrameEnd sample sdi => Sys2Proof.Machine.execCabinetFrameEnd sample sdi s
  | .frameStart => Sys2Proof.Machine.execFrameStart s
  | .frameCutShort => Sys2Proof.Machine.execFrameCutShort s
  | .byteGapTimeout => Sys2Proof.Machine.execByteGapTimeout s
  | .discardedFrame f => Sys2Proof.Machine.execDiscardedFrame f s
  | .ignoredFrame f => Sys2Proof.Machine.execIgnoredFrame f s
  | .opener instant f => Sys2Proof.Machine.execOpener instant f s
  | .requestFrame instant sample f => Sys2Proof.Machine.execRequestFrame instant sample f s
  | .slotStart slot => Sys2Proof.Machine.execSlotStart slot s
  | .instantOfSending => Sys2Proof.Machine.execInstantOfSending s
  | .transmissionEnd => Sys2Proof.Machine.execTransmissionEnd s
  | .minuteEvent => Sys2Proof.Machine.execMinuteEvent s
  | .holdoverEntry => Sys2Proof.Machine.execHoldoverEntry s
  | .holdoverRound => Sys2Proof.Machine.execHoldoverRound s
  | .flowPulse p => Sys2Proof.Machine.execFlowPulse p s
  | .noFlowExpiry p => Sys2Proof.Machine.execNoFlowExpiry p s
  | .dwellExpiry p => Sys2Proof.Machine.execDwellExpiry p s
  | .confirmExpiry p => Sys2Proof.Machine.execConfirmExpiry p s
  | .feedbackCloses p => Sys2Proof.Machine.execFeedbackCloses p s
  | .feedbackOpens p sample => Sys2Proof.Machine.execFeedbackOpens p sample s
  | .overloadTrip p => Sys2Proof.Machine.execOverloadTrip p s
  | .stopTimerExpiry p => Sys2Proof.Machine.execStopTimerExpiry p s
  | .lockoutExpiry p => Sys2Proof.Machine.execLockoutExpiry p s
  | .valveLimitChange openLimit closedLimit => Sys2Proof.Machine.execValveLimitChange openLimit closedLimit s
  | .travelTimerExpiry => Sys2Proof.Machine.execTravelTimerExpiry s
  | .levelReading value error => Sys2Proof.Machine.execLevelReading value error s
  | .validityTimerExpiry => Sys2Proof.Machine.execValidityTimerExpiry s
  | .floatChange active => Sys2Proof.Machine.execFloatChange active s
  | .probeReading k temperature error => Sys2Proof.Machine.execProbeReading k temperature error s
  | .silenceTimerExpiry k => Sys2Proof.Machine.execSilenceTimerExpiry k s
  | .heaterCurrentChange c current => Sys2Proof.Machine.execHeaterCurrentChange c current s
  | .feedbackTimerExpiry c => Sys2Proof.Machine.execFeedbackTimerExpiry c s
  | .commitEnd => Sys2Proof.Machine.execCommitEnd s
  | .reset pins => Sys2Proof.Machine.execReset pins s
  | .ownerFormsResult sample => Sys2Proof.Machine.execOwnerFormsResult sample s
  | .secondAdvance => Sys2Proof.Machine.execSecondAdvance s

end Sys2Proof.Machine
end

