-- ==== Sys2Proof/Safety.lean ====
section
/-! DEFINITION. What counts as a lawful state of the part: the laws its chapters say their blocks keep. -/

namespace Sys2Proof.Safety

open Sys2Proof.Machine

/-- The pumps a guard state of section 6.3 stops may not be in (R122, the law). -/
def pumpsFluid (st : PumpState) : Bool := st = .claiming || st = .starting || st = .running

/-- While the guard state is BLIND, TRIPPED, LATCHED or CONTAINMENT, no pump is in CLAIMING, STARTING or RUNNING (R122).
The second half is what makes the law last: no pending start is held then, so no retry claims after a rest; and a pump that is
STOPPED, FAULTED or OUT_OF_SERVICE never holds one. -/
def GuardStopsPumps (s : State) : Prop :=
  ∀ p : Fin 3,
    (stopsPumps s.guard.state = true →
      pumpsFluid (s.pumps.get p).state = false ∧ (s.pumps.get p).pendingStart = none) ∧
    ((s.pumps.get p).state = .stopped ∨ (s.pumps.get p).state = .faulted ∨ (s.pumps.get p).state = .outOfService →
      (s.pumps.get p).pendingStart = none)

/-- A pump channel after a stop command taken in its present state, none with cause NO_FLOW (R85, R86, R87). -/
def stoppedNow (s : State) (p : Fin 3) : Pump :=
  let q := s.pumps.get p
  let released := { q with pendingStart := none, stopCause := .none, dwell := none, confirm := none }
  let driven :=
    if s.inputs.feedback.get p then
      { released with state := .stopping, stopTimer := some s.gs.stopConfirmTime, judged := true }
    else { released with state := .lockout, stopTimer := none, lockout := some s.gs.lockoutTime, judged := false }
  match q.state with
  | .claiming => { q with state := .stopped, pendingStart := none }
  | .starting => driven
  | .running => driven
  | .stopping => { q with pendingStart := none, stopCause := if q.stopCause = .retry then .none else q.stopCause }
  | .lockout => { q with pendingStart := none }
  | _ => q

/-- The items of a pump channel that are present only in certain states (R75, R80, R86, R87, R88). -/
def PumpItemsFit (q : Pump) : Prop :=
  (q.cause.isSome = true ↔ q.state = .faulted) ∧ (q.lockout.isSome = true ↔ q.state = .lockout) ∧
    (q.stopTimer.isSome = true ↔ q.state = .stopping) ∧ (q.confirm.isSome = true ↔ q.state = .starting) ∧
    (q.dwell.isSome = true → q.state = .starting) ∧ (q.stopCause ≠ .none → q.state = .stopping)

/-- Every pump channel's items fit its state. -/
def PumpsFit (s : State) : Prop := ∀ p : Fin 3, PumpItemsFit (s.pumps.get p)

/-- The valve's travel timer runs exactly in OPENING and CLOSING, and a fault direction is present only in FAULT (R92, R94). -/
def ValveFits (s : State) : Prop :=
  (s.valve.travel.isSome = true ↔ s.valve.state = .opening ∨ s.valve.state = .closing) ∧
    (s.valve.faultDirection.isSome = true → s.valve.state = .fault)

/-- The level window holds at most 4 readings, each in range; the validity timer runs while it holds any (R111 to R113). -/
def LevelFits (s : State) : Prop :=
  s.level.window.length ≤ 4 ∧ (∀ r ∈ s.level.window, r ≤ 20000) ∧
    (s.level.window ≠ [] → s.level.timer.isSome = true) ∧ s.level.rejected ≤ 65535

/-- Numbers rise strictly along the list. -/
def ascending (l : List Nat) : Prop := l.Pairwise (· < ·)

/-- The order book: no two live records share a number, external numbers are 1 to 239 and at most 30, and the system places
hold 240 and 241 (R1). -/
def BookFits (s : State) : Prop :=
  ascending (s.book.records.map (·.number)) ∧
    (∀ r ∈ s.book.records, r.origin ≠ .system → 1 ≤ r.number ∧ r.number ≤ 239) ∧
    (∀ r ∈ s.book.records, r.origin = .system → r.number = 240 ∨ r.number = 241) ∧ externalCount s ≤ 30 ∧
    s.book.lastAssigned ≤ 239

/-- No claimant holds two claims, in one list or over both (R97). -/
def ClaimsFit (s : State) : Prop := ((s.arbiter.waiting ++ s.arbiter.granted).map (·.claimant)).Nodup

/-- The claim a pump channel holds in each state (R77): one WAITING in CLAIMING; one GRANTED or RECLAIMING in STARTING, RUNNING, STOPPING,
and in FAULTED while its judged feedback is closed, GRANTED there; none elsewhere. -/
def PumpClaimsMatch (s : State) (p : Fin 3) : Prop :=
  let q := s.pumps.get p
  ((∃ c ∈ s.arbiter.waiting, c.claimant = .pump p) ↔ q.state = .claiming) ∧
    ((∃ c ∈ s.arbiter.granted, c.claimant = .pump p) ↔
      q.state = .starting ∨ q.state = .running ∨ q.state = .stopping ∨ (q.state = .faulted ∧ q.judged = true)) ∧
    (q.state = .faulted → ∀ c ∈ s.arbiter.granted, c.claimant = .pump p → c.reclaiming = false)

/-- The judged feedback by the channel's state (R77, R86, R89): closed with its input throughout STOPPING, closed in FAULTED only for a
weld whose input has not opened, and open in STOPPED, LOCKOUT and CLAIMING. -/
def PumpFeedbackFits (s : State) (p : Fin 3) : Prop :=
  let q := s.pumps.get p
  (q.state = .stopping → q.judged = true ∧ s.inputs.feedback.get p = true) ∧
    (q.state = .faulted → q.judged = true → q.cause = some .welded ∧ s.inputs.feedback.get p = true) ∧
    (q.state = .stopped ∨ q.state = .lockout ∨ q.state = .claiming → q.judged = false)

/-- The claim a heater circuit holds in each state (R138): one WAITING in CALLING and SHED, one granted in HEATING, none elsewhere. -/
def CircuitClaimsMatch (s : State) (c : Fin 8) : Prop :=
  let q := s.frost.circuits.get c
  ((∃ x ∈ s.arbiter.waiting, x.claimant = .circuit c) ↔ q.state = .calling ∨ q.state = .shed) ∧
    ((∃ x ∈ s.arbiter.granted, x.claimant = .circuit c) ↔ q.state = .heating)

/-- Every claimant holds at most one claim, and holds it in the list its own state calls for (R77, R97, R138). -/
def ClaimsMatch (s : State) : Prop :=
  ClaimsFit s ∧ (∀ p : Fin 3, PumpClaimsMatch s p ∧ PumpFeedbackFits s p) ∧ ∀ c : Fin 8, CircuitClaimsMatch s c

/-- The order that holds a pump (R49). -/
def holderOf (s : State) (p : Fin 3) : Option FillRecord := (s.fill.get p).holder.bind (fun n => findFill n s)

/-- The pump assignments fit the orders and the pumps (R49, R57): a holder is an order in STARTING, RUNNING or RETIRING that names the
pump, and every such order holds its pump; a pump in CLAIMING, STARTING or RUNNING, or with a pending start, has a holder in STARTING or
RUNNING; the no-flow timer runs exactly while the holder is RUNNING. -/
def AssignmentsFit (s : State) : Prop :=
  (∀ (p : Fin 3) (n : Nat), (s.fill.get p).holder = some n →
      ∃ f, findFill n s = some f ∧ f.pump = p ∧ (inRun f = true ∨ f.state = .retiring)) ∧
    (∀ (n : Nat) (f : FillRecord), findFill n s = some f → inRun f = true ∨ f.state = .retiring →
      (s.fill.get f.pump).holder = some n) ∧
    ∀ p : Fin 3,
      (pumpsFluid (s.pumps.get p).state = true ∨ (s.pumps.get p).pendingStart.isSome = true →
        ∃ f, holderOf s p = some f ∧ inRun f = true) ∧
      ((s.fill.get p).noFlow.isSome = true ↔ ∃ f, holderOf s p = some f ∧ f.state = .running) ∧
      ((s.pumps.get p).state = .stopped ∨ (s.pumps.get p).state = .faulted ∨ (s.pumps.get p).state = .outOfService →
        (s.pumps.get p).pendingStart = none)

/-- Unlock rounds left are above 0 only while UNLOCKED, and both counts are at most 16 (R172). -/
def LockFits (s : State) : Prop :=
  (0 < s.remote.unlockLeft → s.remote.unlocked = true) ∧ s.remote.unlockLeft ≤ 16 ∧ s.remote.refusalLeft ≤ 16

/-- A held response is present exactly in HELD, and a request in flight exactly in WORKING (R183). -/
def PortFits (s : State) : Prop :=
  (s.cabinet.held.isSome = true ↔ s.cabinet.state = .held) ∧ (s.cabinet.inFlight.isSome = true ↔ s.cabinet.state = .working)

/-! ### The fields a PLACE may carry (R6 to R9) -/

/-- A recurrence in its range (R6, R7). -/
def RecurrenceValid : RecurrenceField → Prop
  | .onceOn d => d ≤ 65535
  | .once => True
  | .every k r => k ≤ 6 ∧ r < 2 ^ k

/-- Every field of a FILL order in its range, the end mark above the start mark (R6, R15). -/
def FillValid (f : FillFields) : Prop :=
  f.pump ≤ 2 ∧ 100 ≤ f.target ∧ f.target ≤ 20000 ∧ f.start ≤ 1439 ∧ 1 ≤ f.stop ∧ f.stop ≤ 1440 ∧ f.start < f.stop ∧
    RecurrenceValid f.recur ∧ f.priority ≤ 7

/-- Every field of a HEAT order in its range, the circuit's role not NONE (R8, R15). -/
def HeatValid (g : GuardSet) (h : HeatFields) : Prop :=
  (∃ c : Fin 8, c.val = h.circuit ∧ g.role.get c ≠ .none) ∧ -200 ≤ h.hold ∧ h.hold ≤ 150 ∧ h.start ≤ 1439 ∧
    1 ≤ h.stop ∧ h.stop ≤ 1440 ∧ h.start < h.stop ∧ RecurrenceValid h.recur

/-- Every field of a REPORT order in its range, the contents list not empty and without a repeat (R9, R15). -/
def ReportValid (r : ReportFields) : Prop :=
  2 ≤ r.slot ∧ r.slot ≤ 31 ∧ r.k ≤ 6 ∧ r.r < 2 ^ r.k ∧ r.contents ≠ [] ∧ r.contents.Nodup

/-- A slot and round code meet the answer slot, or in a common round the slot of a live REPORT order other than order `n` (R10). -/
def SlotTaken (s : State) (n slot k r : Nat) : Prop :=
  slot = s.gs.answerSlot ∨
    ∃ x ∈ s.book.records, x.number ≠ n ∧
      ∃ q, x.body = .report q ∧ q.slot = slot ∧ q.r % 2 ^ min q.k k = r % 2 ^ min q.k k

/-- The recurrence as the book stores it, a ONCE bound to its day (R7). -/
def boundRecurrence (s : State) (stop : Nat) : RecurrenceField → Recurrence
  | .onceOn d => .once d
  | .once => .once (if s.clock.minute < stop then s.clock.day else (s.clock.day + 1) % 65536)
  | .every k r => .every k r

/-- The contents list in canonical order (R9). -/
def inOrder (l : List Selector) : List Selector :=
  [Selector.level, .guard, .pumps, .frost, .orders, .tally, .events].filter (fun x => l.contains x)

/-! ### The fields an AMEND may carry (R7, R17) -/

/-- The recurrence an AMEND gives is a ONCE (R7). -/
def GivesOnce (r : Option RecurrenceField) : Prop := r = some .once ∨ ∃ d, r = some (.onceOn d)

/-- A set of FILL changes is not empty, each value in its range, the end mark above the start mark as the order would stand, and no ONCE
for an order in SERVED (R7, R17). -/
def FillAmendValid (a : FillAmend) (f : FillRecord) (w : Window) : Prop :=
  a ≠ {} ∧ (∀ p, a.pump = some p → p ≤ 2) ∧ (∀ t, a.target = some t → 100 ≤ t ∧ t ≤ 20000) ∧
    (∀ m, a.start = some m → m ≤ 1439) ∧ (∀ m, a.stop = some m → 1 ≤ m ∧ m ≤ 1440) ∧
    (∀ r, a.recur = some r → RecurrenceValid r) ∧ (∀ q, a.priority = some q → q ≤ 7) ∧
    a.start.getD w.start < a.stop.getD w.stop ∧ ¬ (f.state = .served ∧ GivesOnce a.recur)

/-- The change a set of FILL changes asks for, its ONCE bound by the end mark as the order would stand (R7; log entry 42). -/
def ChangeAsked (a : FillAmend) (w : Window) (s : State) (c : FillChange) : Prop :=
  c.pump.map Fin.val = a.pump ∧ c.target = a.target ∧ c.start = a.start ∧ c.stop = a.stop ∧
    c.recur = a.recur.map (boundRecurrence s (a.stop.getD w.stop)) ∧ c.band = a.band ∧ c.priority = a.priority

/-- A FILL record with the fields a change names replaced (R18, R20). -/
def changed (c : FillChange) (w : Window) (f : FillRecord) : FillRecord :=
  { f with
    pump := c.pump.getD f.pump
    target := c.target.getD f.target
    window := some { start := c.start.getD w.start, stop := c.stop.getD w.stop, recur := c.recur.getD w.recur }
    band := c.band.getD f.band
    priority := c.priority.getD f.priority }

/-- A set of HEAT changes is valid on the order as it would stand, on circuit `c` (R8, R17). -/
def HeatAmendValid (g : GuardSet) (a : HeatAmend) (h : HeatRecord) (c : Fin 8) : Prop :=
  a ≠ {} ∧ c.val = a.circuit.getD h.circuit.val ∧ g.role.get c ≠ .none ∧ (∀ t, a.hold = some t → -200 ≤ t ∧ t ≤ 150) ∧
    (∀ m, a.start = some m → m ≤ 1439) ∧ (∀ m, a.stop = some m → 1 ≤ m ∧ m ≤ 1440) ∧
    (∀ r, a.recur = some r → RecurrenceValid r) ∧ a.start.getD h.window.start < a.stop.getD h.window.stop ∧
    ¬ (h.state = .served ∧ GivesOnce a.recur)

/-- A set of REPORT changes is valid on the order as it would stand (R9, R17). -/
def ReportAmendValid (a : ReportAmend) (q : ReportRecord) : Prop :=
  a ≠ {} ∧ (∀ x, a.slot = some x → 2 ≤ x ∧ x ≤ 31) ∧ (a.code.getD (q.k, q.r)).1 ≤ 6 ∧
    (a.code.getD (q.k, q.r)).2 < 2 ^ (a.code.getD (q.k, q.r)).1 ∧ a.contents.getD q.contents ≠ [] ∧
    (a.contents.getD q.contents).Nodup

/-! ### What a record becomes

Each gives the record of one order after a change the spec describes, and `none` once the order has left the book. -/

/-- A FILL order enters SERVED on a day with an outcome; an external ONCE and a system order leave the book (R26, R67, R73). -/
def servedRecord (day : Nat) (o : Served) (r : Record) (f : FillRecord) : Option Record :=
  if r.origin = .system ∨ onceWindow f.window = true then none
  else some { r with body := .fill { f with state := .served, hold := none, outcome := some o, servedDay := some day } }

/-- A FILL order placed or changed is judged at minute `m` of a day by the table of R16. -/
def rejudged (day m : Nat) (r : Record) (f : FillRecord) : Option Record :=
  let stands := fun (g : FillRecord) => some { r with body := .fill g }
  match f.window with
  | none => stands f
  | some w =>
    let due := recurs w.recur day = true
    match f.state with
    | .pending =>
      if due ∧ w.start ≤ m ∧ m < w.stop then stands { f with state := if f.context.isSome then .suspended else .due }
      else stands f
    | .due =>
      if due ∧ w.stop ≤ m then servedRecord day .missed r f
      else if due ∧ w.start ≤ m then stands f
      else stands { f with state := .pending, hold := none }
    | .suspended =>
      if due ∧ w.stop ≤ m then servedRecord day (closingOutcome f) r f
      else if due ∧ w.start ≤ m then stands f
      else stands { f with state := .pending, hold := none }
    | _ => stands f

/-- A FILL order out of a run meets a minute event, or a discontinuity (`jump`), at minute `m` (R51, R68). -/
def windowJudged (jump : Bool) (day m : Nat) (r : Record) (f : FillRecord) : Option Record :=
  match f.window with
  | none => some r
  | some w =>
    match f.state with
    | .pending =>
      if recurs w.recur day = true ∧ w.start ≤ m ∧ m < w.stop then
        some { r with body := .fill { f with state := if f.context.isSome then .suspended else .due } }
      else some r
    | .due =>
      if w.stop ≤ m then servedRecord day .missed r f
      else if jump = true ∧ m < w.start then some { r with body := .fill { f with state := .pending, hold := none } }
      else some r
    | .suspended =>
      if w.stop ≤ m then servedRecord day (closingOutcome f) r f
      else if jump = true ∧ m < w.start then some { r with body := .fill { f with state := .pending, hold := none } }
      else some r
    | _ => some r

/-- A run is suspended: the interruption counted, the staged amendment applied and judged, INTERRUPTED at the eighth
(R20, R62); `back` marks the backward discontinuity of R68. -/
def suspendedRecord (day m : Nat) (h : Hold) (back : Bool) (r : Record) (f : FillRecord) : Option Record :=
  let g := applyStaged f
  let judged := fun (x : FillRecord) => if f.staged.isSome then rejudged day m r x else some { r with body := .fill x }
  match f.context with
  | none =>
    if back then judged { g with state := .pending, hold := none } else judged { g with state := .due, hold := some h }
  | some c =>
    let c1 := { c with interruptions := c.interruptions + 1 }
    if 8 ≤ c1.interruptions then servedRecord day .interrupted r { g with context := some c1 }
    else judged { g with state := .suspended, hold := some h, context := some c1 }

/-- A HEAT order meets a minute event, or a discontinuity or a change of the order (`jump`), at minute `m` (R16, R136, R137); of R16's
two lines for an order past its end mark and not due today, PENDING comes first (log entry 38). -/
def heatJudged (jump : Bool) (day m : Nat) (r : Record) (h : HeatRecord) : Option Record :=
  let due := recurs h.window.recur day = true
  let stands := fun (x : HeatState) => some { r with body := .heat { h with state := x } }
  match h.state with
  | .pending => if due ∧ h.window.start ≤ m ∧ m < h.window.stop then stands .active else stands .pending
  | .active =>
    if jump = true ∧ (m < h.window.start ∨ ¬ due) then stands .pending
    else if h.window.stop ≤ m then
      (if isOnce h.window.recur then none
       else some { r with body := .heat { h with state := .served, servedDay := some day } })
    else stands .active
  | .served => stands .served

/-- The day of a ONCE lies among the days passed between two day counts, at most 32767 forward (R28). -/
def onceLapsed (old new : Nat) (w : Window) : Bool :=
  match w.recur with
  | .once d => (new + 65536 - old) % 65536 ≤ 32767 && (d + 65536 - old) % 65536 < (new + 65536 - old) % 65536
  | .every _ _ => false

/-- The book closes the day being left for one order (R27). -/
def closedRecord (old : Nat) (r : Record) : Option Record :=
  match r.body with
  | .fill f =>
    if r.origin ≠ .system ∧ (f.state = .due ∨ f.state = .suspended ∨ inRun f = true) then
      servedRecord old (closingOutcome f) r (if inRun f then applyStaged f else f)
    else some r
  | .heat h =>
    if h.state = .active then
      (if isOnce h.window.recur then none
       else some { r with body := .heat { h with state := .served, servedDay := some old } })
    else some r
  | .report _ => some r

/-- The book makes one order ready for a new day (R28); a FILL order without a window is a system order. -/
def readiedRecord (old new : Nat) (r : Record) : Option Record :=
  match r.body with
  | .fill f =>
    match f.window with
    | none => some r
    | some w =>
      match f.state with
      | .retiring => some r
      | .pending => if onceLapsed old new w then none else some { r with body := .fill { f with context := none } }
      | .served =>
        let again := recurs w.recur new = true ∧ f.servedDay ≠ some new
        some { r with body := .fill { f with context := none, state := if again then .pending else .served } }
      | _ => some { r with body := .fill { f with context := none } }
  | .heat h =>
    match h.state with
    | .pending => if onceLapsed old new h.window then none else some r
    | .served =>
      if recurs h.window.recur new = true ∧ h.servedDay ≠ some new then
        some { r with body := .heat { h with state := .pending } }
      else some r
    | .active => some r
  | .report _ => some r

/-! ### Contention (R55) -/

/-- An order is ready for a pump: it waits, names the pump and no condition of R53 before PUMP holds it. -/
def ReadyFor (s : State) (p : Fin 3) (n : Nat) (f : FillRecord) : Prop :=
  findFill n s = some f ∧ (f.state = .due ∨ f.state = .suspended) ∧ f.pump = p ∧ firstHold s n f = none

/-- The first comparison of R55 that tells two orders apart puts the first before the second. -/
def RanksBefore (n : Nat) (f : FillRecord) (k : Nat) (g : FillRecord) : Prop :=
  let waits := fun (x : FillRecord) => if x.state = .suspended then 0 else 1
  let place := fun (i : Nat) => if i = 240 then 0 else if i = 241 then 1 else 2
  let mark := fun (x : FillRecord) => match x.window with
    | some w => w.start
    | none => 0
  waits f < waits g ∨ (waits f = waits g ∧
    (f.priority < g.priority ∨ (f.priority = g.priority ∧
      (place n < place k ∨ (place n = place k ∧ (mark f < mark g ∨ (mark f = mark g ∧ n < k)))))))

/-! ### Setpoints (R135) -/

/-- A value that applies to a circuit's setpoint: the frost floor of its role, the hold temperature of an ACTIVE HEAT order that names
it, and the tank cold threshold while the fallback flag is set (R134, R135). -/
def SetpointPart (s : State) (c : Fin 8) (v : Int) : Prop :=
  let role := s.gs.role.get c
  (role = .overflowPipe ∧ v = s.gs.floorOverflow) ∨ (role = .riser ∧ v = s.gs.floorRiser) ∨
    (role = .valveChamber ∧ v = s.gs.floorChamber) ∨ (role = .tank ∧ s.frost.fallback = true ∧ v = s.gs.tankCold) ∨
    ∃ r ∈ s.book.records, ∃ h, r.body = .heat h ∧ h.state = .active ∧ h.circuit = c ∧ v = h.hold

/-- The setpoint is the greatest value that applies, absent when none does (R135). -/
def SetpointIs (s : State) (c : Fin 8) (sp : Option Int) : Prop :=
  (∀ v, SetpointPart s c v → ∃ x, sp = some x ∧ v ≤ x) ∧ ∀ x, sp = some x → SetpointPart s c x

/-! ### What the owner of a guard-set field does -/

/-- Every setpoint stands as R135 works it out, and each circuit has then been judged in its present state, in ascending number (R144;
log entry 46). -/
def CircuitsTake (s u : State) : Prop :=
  let judged := eightNumbers.foldl (fun t k => judgeCircuit k t) (refreshSetpoints s)
  (∀ k : Fin 8, SetpointIs u k (u.frost.circuits.get k).setpoint) ∧ u.frost = judged.frost ∧ u.arbiter = judged.arbiter

/-- The pipe judgement has been made (R147), its change between FROZEN and THAWED announced. -/
def PipeTaken (s u : State) : Prop :=
  u.frost.pipe = (judgePipe s).frost.pipe ∧
    (u.frost.pipe.isSome ≠ s.frost.pipe.isSome → eventIsSet .frozen u = true ∧ .ceiling ∈ u.agenda)

/-- What the owning block does at acceptance of a WRITE GUARD, from the state with the new value in it to the state the request leaves;
`old` is the guard set before (R36, R48, R107, R129, R144, R147, R149). -/
def FieldActs (f : GuardField) (old : GuardSet) (s u : State) : Prop :=
  match f with
  | .ceiling => u.agenda = s.agenda ++ [.ceiling]
  | .coldMargin => u.agenda = s.agenda ++ [.ceiling]
  | .approachBand => u.agenda = s.agenda ++ [.guardJudge]
  | .disagreement => u.agenda = s.agenda ++ [.guardJudge]
  | .rearm => u.agenda = s.agenda ++ [.guardJudge]
  | .reserveFloor =>
    u.guard.reserve = reserveHolds s ∧ u.agenda = s.agenda ++ (if reserveHolds s then [.reserveRequest] else [])
  | .holdoverLimit =>
    u.clock.trust =
      if s.clock.trust = .holdover ∧ s.gs.holdoverLimit ≤ s.clock.holdover then .free else s.clock.trust
  | .allowance =>
    u.clock = { s.clock with reachedToday := s.clock.reachedToday || decide (s.gs.allowance ≤ s.clock.tally) } ∧
      u.agenda = s.agenda ++ [.evalFill] ∧
      (s.gs.allowance ≤ s.clock.tally → s.clock.reachedToday = false → eventIsSet .allowance u = true)
  | .supplyLimit => u.arbiter = (runWalk s).arbiter ∧ u.pumps = (runWalk s).pumps ∧ u.frost = (runWalk s).frost
  | .role c =>
    let was := old.role.get c
    let new := s.gs.role.get c
    let judged := judgeCircuit c (refreshSetpoints s)
    (∀ k : Fin 8, SetpointIs u k (u.frost.circuits.get k).setpoint) ∧
      (new ≠ .none → u.frost.circuits = judged.frost.circuits ∧ u.arbiter = judged.arbiter) ∧
      (new = .none → ClaimsMatch s → (u.frost.circuits.get c).state = .off ∧
        ∀ x ∈ u.arbiter.waiting ++ u.arbiter.granted, x.claimant ≠ .circuit c) ∧
      (was ≠ new → was = .overflowPipe ∨ new = .overflowPipe → PipeTaken s u) ∧
      (was = new ∨ (was ≠ .overflowPipe ∧ new ≠ .overflowPipe) → u.frost.pipe = s.frost.pipe)
  | .probeIndex c =>
    let judged := judgeCircuit c s
    u.frost.circuits = judged.frost.circuits ∧ u.arbiter = judged.arbiter ∧
      (s.gs.role.get c = .overflowPipe → PipeTaken s u) ∧
      (s.gs.role.get c ≠ .overflowPipe → u.frost = judged.frost)
  | .floorOverflow => CircuitsTake s u
  | .floorRiser => CircuitsTake s u
  | .floorChamber => CircuitsTake s u
  | .hysteresis => CircuitsTake s u
  | .tankCold => CircuitsTake s u ∧ ∃ xs, u.agenda = s.agenda ++ xs ++ [.frostJudge]
  | .frozenThreshold => u.frost = (judgePipe s).frost ∧ u.agenda = (judgePipe s).agenda
  | .thawThreshold => u.frost = (judgePipe s).frost ∧ u.agenda = (judgePipe s).agenda
  | .tankProbe => u.agenda = s.agenda ++ [.frostJudge]
  | .stagnationTime => u.agenda = s.agenda ++ [.frostJudge]
  | .turnoverDepth => u.agenda = s.agenda ++ [.frostJudge]
  | _ => u.agenda = s.agenda ∧ u.clock = s.clock ∧ u.guard = s.guard ∧ u.frost = s.frost ∧ u.arbiter = s.arbiter ∧
      u.pumps = s.pumps

/-! ### What a command leaves as it stands -/

/-- What no field input, timer or clock command touches: the guard set and its store, the remote request handling, the cabinet
port, the enables, the queue, the last result, the allocator. -/
def AwayFromRequests (s t : State) : Prop :=
  t.pending = s.pending ∧ t.gs = s.gs ∧ t.store = s.store ∧ t.remote = s.remote ∧ t.cabinet = s.cabinet ∧
    t.enables = s.enables ∧ t.lastResult = s.lastResult ∧ t.book.lastAssigned = s.book.lastAssigned

/-- What no pump, valve, level, float, probe or circuit input touches on the link and in the clock's account of the head. -/
def AwayFromLink (s t : State) : Prop :=
  t.link.line = s.link.line ∧ t.link.assembly = s.link.assembly ∧ t.link.round = s.link.round ∧
    t.link.answerSlot = s.link.answerSlot ∧ t.link.sequence = s.link.sequence ∧ t.clock.trust = s.clock.trust ∧
    t.clock.rank = s.clock.rank ∧ t.clock.roundPeriod = s.clock.roundPeriod ∧
    t.clock.lastOpener = s.clock.lastOpener ∧ t.clock.holdover = s.clock.holdover ∧ t.crystal = s.crystal

/-- The readings of the level monitor and of the probes. -/
def SameReadings (s t : State) : Prop :=
  t.level.window = s.level.window ∧ t.level.timer = s.level.timer ∧ t.level.rejected = s.level.rejected ∧
    t.frost.probes = s.frost.probes

/-- The cabinet port as it stood, but that a request in flight may have taken its result. -/
def SamePort (s t : State) : Prop :=
  t.cabinet.state = s.cabinet.state ∧ t.cabinet.held = s.cabinet.held ∧ t.cabinet.clocked = s.cabinet.clocked ∧
    t.cabinet.inFlight.map (·.request) = s.cabinet.inFlight.map (·.request)

/-- The field inputs, but for the sampled pins. -/
def SameInputs (s t : State) : Prop :=
  t.inputs = { s.inputs with key := t.inputs.key, overload := t.inputs.overload }

/-- The line and the round of the link, the clock's account of the head but for trust, and the crystal. -/
def SameRound (s t : State) : Prop :=
  t.link.line = s.link.line ∧ t.link.round = s.link.round ∧ t.link.answerSlot = s.link.answerSlot ∧
    t.link.sequence = s.link.sequence ∧ t.clock.rank = s.clock.rank ∧ t.clock.roundPeriod = s.clock.roundPeriod ∧
    t.clock.lastOpener = s.clock.lastOpener ∧ t.clock.holdover = s.clock.holdover ∧ t.crystal = s.crystal

/-- The groups of commands that the frames speak of. -/
inductive Group
  | pump | valveFloatHeater | reading | orderChange | guardStore | service | setClock | crystal | head | other
deriving DecidableEq, Repr

/-- The group of a command: a pump's timers, inputs and meter (chapters 3 and 4); the valve, the float and the heater circuits
(chapters 4, 6 and 7); the transducer and the probes (chapters 6 and 7); the requests that change the order book (chapter 1), the
guard store (chapter 11), a pump, a circuit or the guard (chapters 4, 6 and 7), or the clock (chapter 2); the counting of the crystal
and what the head does to the clock (chapter 2). -/
def groupOf (i : Instr) : Group :=
  match i with
  | .place _ _ => .orderChange
  | .amend _ _ _ _ => .orderChange
  | .retire _ _ _ => .orderChange
  | .look _ _ => .other
  | .list _ _ => .other
  | .readTower _ _ _ => .other
  | .readGuard _ _ => .other
  | .writeGuard _ _ _ _ => .guardStore
  | .setTariff _ _ => .guardStore
  | .readTariff _ => .other
  | .setClock _ _ _ _ => .setClock
  | .unlock _ _ => .other
  | .lock _ => .other
  | .pumpServiceOut _ _ _ => .service
  | .pumpServiceReturn _ _ _ => .service
  | .circuitReset _ _ => .service
  | .acknowledge _ _ => .service
  | .clearEvents _ _ => .other
  | .setEventEnables _ _ => .other
  | .cabinetFrameBegin => .other
  | .cabinetFrameEnd _ _ => .other
  | .frameStart => .other
  | .frameCutShort => .other
  | .byteGapTimeout => .other
  | .discardedFrame _ => .other
  | .ignoredFrame _ => .other
  | .opener _ _ => .head
  | .requestFrame _ _ _ => .other
  | .slotStart _ => .other
  | .instantOfSending => .other
  | .transmissionEnd => .other
  | .minuteEvent => .crystal
  | .holdoverEntry => .head
  | .holdoverRound => .head
  | .flowPulse _ => .pump
  | .noFlowExpiry _ => .pump
  | .dwellExpiry _ => .pump
  | .confirmExpiry _ => .pump
  | .feedbackCloses _ => .pump
  | .feedbackOpens _ _ => .pump
  | .overloadTrip _ => .pump
  | .stopTimerExpiry _ => .pump
  | .lockoutExpiry _ => .pump
  | .valveLimitChange _ _ => .valveFloatHeater
  | .travelTimerExpiry => .valveFloatHeater
  | .levelReading _ _ => .reading
  | .validityTimerExpiry => .reading
  | .floatChange _ => .valveFloatHeater
  | .probeReading _ _ _ => .reading
  | .silenceTimerExpiry _ => .reading
  | .heaterCurrentChange _ _ => .valveFloatHeater
  | .feedbackTimerExpiry _ => .valveFloatHeater
  | .commitEnd => .other
  | .reset _ => .other
  | .ownerFormsResult _ => .other
  | .secondAdvance => .crystal

/-- The law holds now and after every step that gives a next state. -/
def KeptByStep (inv : State → Prop) : Prop := ∀ s t : State, inv s → step s = .next t → inv t

end Sys2Proof.Safety
end

