-- ==== Sys2Proof/Certificates/Slice0/Obligations.lean ====
section
/-! DEFINITION. The statements about the model. A command whose own effect is `u` and whose announcements are then taken answers
`.next (finish u)`; a statement speaks of `finish u` where no announcement reaches the part of the state concerned, and of `u`, the
state the command itself leaves, elsewhere. `handle a s` is the taking of one announcement by its receiver. -/

open Sys2Proof Sys2Proof.Machine Sys2Proof.Safety

/-! ### The queue and the cascade -/

/-- A step takes the front command with the queue's rest left waiting; an empty queue idles (log entry 1). -/
def Obligations.StepTakesFrontCommand : Prop :=
  (∀ (c : Instr) (rest : List Instr) (s : State),
    step { s with pending := c :: rest } = exec c { s with pending := rest }) ∧
  ∀ s : State, s.pending = [] → step s = .next s

/-- Taking the announcements of a command never reaches the requests' parts, the line and round of the link, the clock's account of the
head, the readings and the inputs. The plan and the frames built for an order follow the book (R160), and are not among them. -/
def Obligations.CascadeKeepsParts : Prop :=
  ∀ u : State, AwayFromRequests u (finish u) ∧ AwayFromLink u (finish u) ∧ SameReadings u (finish u) ∧
    (finish u).inputs = u.inputs

/-! ### Reset -/

/-- State.reset is what RESET leaves on a part with a good factory image and every field input inactive, the free order drawn at the end
of the command set apart, with the crystal's instant and the absent last result it keeps (log entries 2, 3, 29, 30 and 32); and it meets
every law that steps keep. -/
def Obligations.ResetStateIsLawful : Prop :=
  (∃ t, exec (.reset ⟨Trio.all false, Trio.all false, false, false, false, Octo.all false, false⟩) State.reset = .next t ∧
    { t with choice := 0, freeCount := 0 } = State.reset) ∧
  GuardStopsPumps State.reset ∧ PumpsFit State.reset ∧ ValveFits State.reset ∧ LevelFits State.reset ∧ BookFits State.reset ∧
    ClaimsMatch State.reset ∧ AssignmentsFit State.reset ∧ LockFits State.reset ∧ PortFits State.reset

/-- RESET loads the guard image or the factory values, gives every block its reset value, and reads each pump's inputs and the valve's
limits, with the welds and a lifted float reported to the guard (R91, R92, R94, R108, R127, R198). Both limits active at reset give FAULT
with direction CLOSE, the last travel after reset by R94 (log entry 31). -/
def Obligations.ResetSetsTheBlocks : Prop :=
  ∀ (pins : Pins) (s : State),
    let u := resetNow pins s
    exec (.reset pins) s = .next (finish u) ∧
    u.gs = (if imageGood s.store.image then s.store.image.guardSet else factoryGuardSet) ∧
    u.store.calendar = (if imageGood s.store.image then s.store.image.calendar else factoryCalendar) ∧
    u.store.commit = !imageGood s.store.image ∧
    u.book = { records := [], lastAssigned := 0, outcomes := ⟨0, 0, 0, 0, 0, 0, 0⟩ } ∧
    u.clock = { day := 0, minute := 0, second := 0, ms := 0, lastMinute := 0, trust := .free, rank := 7,
                roundPeriod := 60000, lastOpener := none, holdover := 0, band := .day, tally := 0,
                reachedToday := decide (u.gs.allowance = 0) } ∧
    u.fill = Trio.all { holder := none, lastHolder := none, lastCause := none, noFlow := none } ∧
    u.arbiter.waiting = [] ∧ u.arbiter.reclaim = none ∧
    u.level = { window := [], timer := none, rejected := 0, newSample := none, oldSample := none, trend := none } ∧
    u.guard.state = .blind ∧ u.guard.held = Trio.all false ∧ u.guard.reserve = false ∧
    u.guard.ceiling = (if u.frost.pipe.isSome then u.gs.ceiling - u.gs.coldMargin else u.gs.ceiling) ∧
    u.frost.probes = Octo.all { condition := .awaiting, reading := none, silence := some 30 } ∧
    (∀ c : Fin 8, (u.frost.circuits.get c).state = .off ∧ (u.frost.circuits.get c).timer = none ∧
      SetpointIs u c (u.frost.circuits.get c).setpoint) ∧
    ((∃ c : Fin 8, u.gs.role.get c = .overflowPipe) → u.frost.pipe = some .noReading) ∧
    ((∀ c : Fin 8, u.gs.role.get c ≠ .overflowPipe) → u.frost.pipe = none) ∧
    u.frost.stagnation = 0 ∧ u.frost.fallback = false ∧
    u.link = { line := .quiet, assembly := [], round := none, plan := [], answerSlot := none, frameDue := none,
               sending := none, sequence := 0 } ∧
    u.remote = { answer := none, unlocked := false, unlockLeft := 0, refusalLeft := 0 } ∧
    u.cabinet = { state := .idle, held := none, clocked := none, inFlight := none } ∧
    u.enables = BitVec.allOnes 17 ∧ eventIsSet .powerUp u = true ∧
    eventIsSet .defaulted u = !imageGood s.store.image ∧
    (Note.guardJudge ∈ u.agenda ↔ pins.float = true) ∧
    (pins.openLimit = true → pins.closedLimit = false → u.valve.state = .isOpen ∧ u.valve.travel = none) ∧
    (pins.openLimit = false → u.valve.state = .opening ∧ u.valve.travel = some u.gs.travelLimit) ∧
    (pins.openLimit = true → pins.closedLimit = true →
      u.valve.state = .fault ∧ u.valve.faultDirection = some .toClose ∧ eventIsSet .valveFault u = true) ∧
    ∀ p : Fin 3,
      let q := u.pumps.get p
      (pins.feedback.get p = false → pins.overload.get p = false →
        q.state = .lockout ∧ q.lockout = some u.gs.lockoutTime ∧ q.cause = none) ∧
      (pins.feedback.get p = false → pins.overload.get p = true →
        q.state = .faulted ∧ q.cause = some .overload ∧ eventIsSet .pumpFault u = true) ∧
      (pins.feedback.get p = true →
        q.state = .faulted ∧ q.cause = some .welded ∧ eventIsSet .pumpFault u = true ∧
        ∃ c ∈ u.arbiter.granted, c.claimant = .pump p ∧ c.units = u.gs.rating.get p ∧ c.cls = .reserve ∧
          c.reclaiming = false) ∧
      (Note.weld p ∈ u.agenda ↔ pins.feedback.get p = true) ∧
      q.attempts = 0 ∧ q.pendingStart = none ∧ q.stopCause = .none ∧ q.dwell = none ∧ q.confirm = none ∧
      q.stopTimer = none ∧ q.judged = pins.feedback.get p ∧ q.overload = pins.overload.get p

/-! ### The order book -/

/-- PLACE, AMEND and RETIRE are refused by the first of their checks that fails, and then change nothing else
(R3, R5, R15, R17, R21). -/
def Obligations.OrderRequestsRefused : Prop :=
  (∀ (port : Port) (order : PlaceFields) (s : State),
    let refused := fun (c : ResultCode) =>
      exec (.place port order) s =
        .next (finish (noteFormed port (.place order) (plain c) { s with lastResult := some (plain c) }))
    (30 ≤ externalCount s → refused .full) ∧
    (externalCount s < 30 →
      (match order with
       | .fill f => ¬ FillValid f
       | .heat h => ¬ HeatValid s.gs h
       | .report r => ¬ ReportValid r) → refused .invalid) ∧
    (externalCount s < 30 →
      ∀ r, order = .report r → ReportValid r → SlotTaken s (allocate s) r.slot r.k r.r → refused .conflict)) ∧
  ∀ (port : Port) (n : Nat) (e : Option Nat) (a : AmendFields) (s : State),
    let amendGives := fun (c : ResultCode) =>
      exec (.amend port n e a) s =
        .next (finish (noteFormed port (.amend n e a) (plain c) { s with lastResult := some (plain c) }))
    let retireGives := fun (c : ResultCode) =>
      exec (.retire port n e) s =
        .next (finish (noteFormed port (.retire n e) (plain c) { s with lastResult := some (plain c) }))
    (n = 0 ∨ 242 ≤ n → amendGives .invalid ∧ retireGives .invalid) ∧
    (1 ≤ n → n ≤ 241 → findRecord n s = none → amendGives .noOrder ∧ retireGives .noOrder) ∧
    (∀ r, findRecord n s = some r → n = 240 ∨ n = 241 → amendGives .system ∧ retireGives .system) ∧
    (∀ r, findRecord n s = some r → 1 ≤ n → n ≤ 239 →
      (∀ x, e = some x → x ≠ r.revision → amendGives .stale ∧ retireGives .stale) ∧
      (e = none ∨ e = some r.revision →
        (∀ f, r.body = .fill f → f.state = .retiring → amendGives .retiring ∧ retireGives .retiring) ∧
        (∀ f, r.body = .fill f → f.state ≠ .retiring → f.staged.isSome = true → amendGives .stagedBusy)))

/-- An accepted PLACE enters its record with the allocator's number, the port's origin and revision 0: a FILL order PENDING, or DUE when
its window is open; a HEAT order PENDING, or ACTIVE; a REPORT order LIVE with its contents in canonical order. The allocator gives the
lowest number above last assigned that is not live, and wraps to 1 when there is none; over the link REMOTE is set (R2, R7, R9, R12, R15,
R16, R176). -/
def Obligations.PlaceEnters : Prop :=
  (∀ (port : Port) (s : State), externalCount s < 30 → isLive (allocate s) s = false →
    let n := allocate s
    let enters := fun (order : PlaceFields) (b : Body) =>
      exec (.place port order) s = .next (finish (takeRequest port (.place order) s)) ∧
      (finish (takeRequest port (.place order) s)).lastResult = some (doneWith [BitVec.ofNat 8 n]) ∧
      (finish (takeRequest port (.place order) s)).book.lastAssigned = n ∧
      (port = .district → eventIsSet .remote (takeRequest port (.place order) s) = true) ∧
      findRecord n (takeRequest port (.place order) s) =
        some { number := n, origin := originOf port, revision := 0, body := b }
    let opens := fun (start stop : Nat) (recur : RecurrenceField) =>
      recurs (boundRecurrence s stop recur) s.clock.day = true ∧ start ≤ s.clock.minute ∧ s.clock.minute < stop
    (∀ (f : FillFields) (p : Fin 3), FillValid f → p.val = f.pump →
      (∀ st : FillState, (opens f.start f.stop f.recur → st = .due) → (¬ opens f.start f.stop f.recur → st = .pending) →
        enters (.fill f)
          (.fill
            { pump := p, target := f.target,
              window := some { start := f.start, stop := f.stop, recur := boundRecurrence s f.stop f.recur },
              band := f.band, priority := f.priority, state := st, hold := none, context := none, outcome := none,
              servedDay := none, staged := none }))) ∧
    (∀ (h : HeatFields) (c : Fin 8), HeatValid s.gs h → c.val = h.circuit →
      (∀ st : HeatState, (opens h.start h.stop h.recur → st = .active) → (¬ opens h.start h.stop h.recur → st = .pending) →
        enters (.heat h)
          (.heat
            { circuit := c, hold := h.hold,
              window := { start := h.start, stop := h.stop, recur := boundRecurrence s h.stop h.recur }, state := st,
              servedDay := none }))) ∧
    (∀ r : ReportFields, ReportValid r → ¬ SlotTaken s n r.slot r.k r.r →
      enters (.report r)
        (.report { slot := r.slot, k := r.k, r := r.r, contents := inOrder r.contents, lastSent := none }))) ∧
  ∀ (s : State) (n : Nat), isLive n s = false → 1 ≤ n → n ≤ 239 →
    (s.book.lastAssigned < n → (∀ m, s.book.lastAssigned < m → m < n → isLive m s = true) → allocate s = n) ∧
    ((∀ m, s.book.lastAssigned < m → m ≤ 239 → isLive m s = true) → (∀ m, 1 ≤ m → m < n → isLive m s = true) →
      allocate s = n)

/-- AMEND of a FILL order past the common checks: INVALID for a set that is empty, out of range or gives ONCE to a SERVED order; else the
revision rises by one, and the change is staged in STARTING and RUNNING, or in force at once and judged by the table of R16, and over the
link REMOTE is set (R5, R7, R16, R17, R18, R19, R176). A ONCE without a day is bound by the end mark as the order would stand (log entry
42). -/
def Obligations.AmendFillJudged : Prop :=
  ∀ (port : Port) (n : Nat) (e : Option Nat) (a : FillAmend) (o : Origin) (k : Nat) (f : FillRecord) (w : Window) (s : State),
    1 ≤ n → n ≤ 239 → findRecord n s = some { number := n, origin := o, revision := k, body := .fill f } →
    e = none ∨ e = some k → f.state ≠ .retiring → f.staged = none → f.window = some w →
    let u := takeRequest port (.amend n e (.fill a)) s
    (¬ FillAmendValid a f w →
      exec (.amend port n e (.fill a)) s =
        .next (finish (noteFormed port (.amend n e (.fill a)) (plain .invalid)
          { s with lastResult := some (plain .invalid) }))) ∧
    (FillAmendValid a f w →
      exec (.amend port n e (.fill a)) s = .next (finish u) ∧ (port = .district → eventIsSet .remote u = true) ∧
      ∃ c, ChangeAsked a w s c ∧
        (inRun f = true →
          (finish u).lastResult = some (plain .staged) ∧
          findRecord n u = some
            { number := n, origin := o, revision := (k + 1) % 256, body := .fill { f with staged := some c } }) ∧
        (inRun f = false →
          (finish u).lastResult = some (plain .done) ∧
          findRecord n u =
            rejudged s.clock.day s.clock.minute
              { number := n, origin := o, revision := (k + 1) % 256, body := .fill f } (changed c w f)))

/-- AMEND of a HEAT or a REPORT order past the common checks: INVALID where the order as it would stand is not valid; else the fields
named are replaced, the revision rises by one, and a HEAT order opens or closes with its window at the minute, while a REPORT order whose
new slot or code collides is CONFLICT; an accepted one over the link sets REMOTE (R5, R7, R9, R10, R16, R17, R18, R137, R176). A HEAT order
in ACTIVE past its end mark and not due today returns to PENDING (log entry 38), and a ONCE without a day is bound by the end mark as the
order would stand (log entry 42). -/
def Obligations.AmendHeatAndReportJudged : Prop :=
  ∀ (port : Port) (n : Nat) (e : Option Nat) (o : Origin) (k : Nat) (s : State),
    1 ≤ n → n ≤ 239 → e = none ∨ e = some k →
    let refused := fun (a : AmendFields) (c : ResultCode) =>
      exec (.amend port n e a) s =
        .next (finish (noteFormed port (.amend n e a) (plain c) { s with lastResult := some (plain c) }))
    let accepted := fun (a : AmendFields) =>
      exec (.amend port n e a) s = .next (finish (takeRequest port (.amend n e a) s)) ∧
      (finish (takeRequest port (.amend n e a) s)).lastResult = some (plain .done) ∧
      (port = .district → eventIsSet .remote (takeRequest port (.amend n e a) s) = true)
    (∀ (a : HeatAmend) (h : HeatRecord),
      findRecord n s = some { number := n, origin := o, revision := k, body := .heat h } →
      ((∀ c : Fin 8, ¬ HeatAmendValid s.gs a h c) → refused (.heat a) .invalid) ∧
      ∀ c : Fin 8, HeatAmendValid s.gs a h c →
        let stop := a.stop.getD h.window.stop
        accepted (.heat a) ∧
        findRecord n (takeRequest port (.amend n e (.heat a)) s) =
          heatJudged true s.clock.day s.clock.minute
            { number := n, origin := o, revision := (k + 1) % 256, body := .heat h }
            { h with
              circuit := c
              hold := a.hold.getD h.hold
              window := { start := a.start.getD h.window.start, stop := stop,
                          recur := (a.recur.map (boundRecurrence s stop)).getD h.window.recur } }) ∧
    (∀ (a : ReportAmend) (q : ReportRecord),
      findRecord n s = some { number := n, origin := o, revision := k, body := .report q } →
      let q1 : ReportRecord :=
        { slot := a.slot.getD q.slot, k := (a.code.getD (q.k, q.r)).1, r := (a.code.getD (q.k, q.r)).2,
          contents := inOrder (a.contents.getD q.contents), lastSent := q.lastSent }
      let collides := (a.slot.isSome = true ∨ a.code.isSome = true) ∧ SlotTaken s n q1.slot q1.k q1.r
      (¬ ReportAmendValid a q → refused (.report a) .invalid) ∧
      (ReportAmendValid a q → collides → refused (.report a) .conflict) ∧
      (ReportAmendValid a q → ¬ collides →
        accepted (.report a) ∧
        findRecord n (takeRequest port (.amend n e (.report a)) s) =
          some { number := n, origin := o, revision := (k + 1) % 256, body := .report q1 }))

/-- An accepted RETIRE removes the record at once, or, in STARTING and RUNNING, puts the order into RETIRING with the staged amendment
discarded and its pump commanded to stop; over the link REMOTE is set (R21, R22, R176). -/
def Obligations.RetireAccepted : Prop :=
  ∀ (port : Port) (n : Nat) (e : Option Nat) (r : Record) (s : State),
    1 ≤ n → n ≤ 239 → findRecord n s = some r → e = none ∨ e = some r.revision → isRetiring r.body = false →
    let u := takeRequest port (.retire n e) s
    exec (.retire port n e) s = .next (finish u) ∧ (finish u).lastResult = some (plain .done) ∧
    (port = .district → eventIsSet .remote u = true) ∧
    ((∀ f, r.body = .fill f → inRun f = false) →
      findRecord n u = none ∧ ∀ m, m ≠ n → findRecord m u = findRecord m s) ∧
    (∀ f, r.body = .fill f → inRun f = true →
      findRecord n u = some { r with body := .fill { f with state := .retiring, hold := none, staged := none } } ∧
      u.pumps =
        (stopCommand f.pump false
          (setAssign f.pump { s.fill.get f.pump with noFlow := none }
            (putFill n { f with state := .retiring, hold := none, staged := none } s))).pumps ∧
      pumpsFluid (u.pumps.get f.pump).state = false ∧ (u.fill.get f.pump).noFlow = none)

/-- LOOK returns the record's image and changes nothing; its refusals likewise (R3, R24). The image is the common part with its presence
byte, the field block and the optional parts of chapter 12.3, byte by byte: 41, 20 or 15 bytes by kind; an absent optional part is zeros
(R200). A field that a staged amendment does not name is zeros too, and the absent recurrence of a system order is mode 3 and zeros (log
entry 18). -/
def Obligations.LookReturnsRecord : Prop :=
  (∀ (port : Port) (n : Nat) (s : State),
    let gives := fun (r : Response) =>
      exec (.look port n) s = .next (noteFormed port (.look n) r { s with lastResult := some r })
    (n = 0 ∨ 242 ≤ n → gives (plain .invalid)) ∧
    (1 ≤ n → n ≤ 241 → findRecord n s = none → gives (plain .noOrder)) ∧
    (1 ≤ n → n ≤ 241 → ∀ r, findRecord n s = some r →
      gives (doneWith (recordImage r)) ∧
      (recordImage r).length = (match r.body with | .fill _ => 41 | .heat _ => 20 | .report _ => 15))) ∧
  (∀ (n : Nat) (o : Origin) (k : Nat),
    let byte := fun (x : Nat) => ([BitVec.ofNat 8 x] : List Byte)
    let two := fun (x : Nat) => ([BitVec.ofNat 8 (x / 256), BitVec.ofNat 8 x] : List Byte)
    let bit := fun (b : Bool) (i : Nat) => if b then 2 ^ i else 0
    let part := fun (width : Nat) (x : Option (List Byte)) => x.getD (List.replicate width 0)
    let recurrence := fun (x : Recurrence) => match x with
      | .once d => byte 0 ++ two d
      | .every p q => byte 2 ++ byte p ++ byte q
    let window := fun (x : Option Window) => match x with
      | some w => two w.start ++ two w.stop ++ recurrence w.recur
      | none => ([0xFF, 0xFF, 0xFF, 0xFF, 3, 0, 0] : List Byte)
    let common := fun (kind state presence : Nat) (outcome : Option Served) (day : Option Nat) (hold : Option Hold) =>
      byte n ++ byte kind ++ byte (originCode o) ++ byte k ++ byte state ++ byte presence ++
        part 1 (outcome.map (fun x => byte (servedCode x))) ++ part 2 (day.map two) ++
        part 1 (hold.map (fun x => byte (holdCode x)))
    (∀ f : FillRecord,
      recordImage { number := n, origin := o, revision := k, body := .fill f } =
        common 0 (fillStateCode f.state)
            (bit f.outcome.isSome 0 + bit f.servedDay.isSome 1 + bit f.hold.isSome 2 + bit f.staged.isSome 3 +
              bit f.context.isSome 4) f.outcome f.servedDay f.hold ++
          (byte f.pump.val ++ two f.target ++ window f.window ++ byte (permissionCode f.band) ++ byte f.priority) ++
          part 13 (f.staged.map (fun c =>
            byte (bit c.pump.isSome 0 + bit c.target.isSome 1 + bit c.start.isSome 2 + bit c.stop.isSome 3 +
                bit c.recur.isSome 4 + bit c.band.isSome 5 + bit c.priority.isSome 6) ++
              part 1 (c.pump.map (fun p => byte p.val)) ++ part 2 (c.target.map two) ++ part 2 (c.start.map two) ++
              part 2 (c.stop.map two) ++ part 3 (c.recur.map recurrence) ++
              part 1 (c.band.map (fun b => byte (permissionCode b))) ++ part 1 (c.priority.map byte))) ++
          part 6 (f.context.map (fun c => byte (c.litres / 65536) ++ two c.litres ++ two c.first ++ byte c.interruptions))) ∧
    (∀ h : HeatRecord,
      recordImage { number := n, origin := o, revision := k, body := .heat h } =
        common 1 (heatStateCode h.state) (bit h.servedDay.isSome 1) none h.servedDay none ++
          byte h.circuit.val ++ two (BitVec.ofInt 16 h.hold).toNat ++ window (some h.window)) ∧
    ∀ q : ReportRecord,
      recordImage { number := n, origin := o, revision := k, body := .report q } =
        common 2 0 (bit q.lastSent.isSome 5) none none none ++
          byte q.slot ++ byte q.k ++ byte q.r ++ byte (((inOrder q.contents).map (fun x => 2 ^ selectorBit x)).sum) ++
          part 1 (q.lastSent.map byte)) ∧
  [Origin.cabinet, .district, .system].map originCode = [0, 1, 2] ∧
  [FillState.pending, .due, .starting, .running, .suspended, .served, .retiring].map fillStateCode = [0, 1, 2, 3, 4, 5, 6] ∧
  [HeatState.pending, .active, .served].map heatStateCode = [0, 1, 2] ∧
  [Hold.band, .allowance, .guard, .level, .pump, .supply, .valve, .time].map holdCode = [0, 1, 2, 3, 4, 5, 6, 7] ∧
  [Served.reached, .windowClosed, .missed, .cut, .noFlow, .pumpFault, .interrupted].map servedCode = [0, 1, 2, 3, 4, 5, 6] ∧
  [BandPermission.nightOnly, .nightShoulder, .any].map permissionCode = [0, 1, 2] ∧
  [Selector.level, .guard, .pumps, .frost, .orders, .tally, .events].map selectorBit = [0, 1, 2, 3, 4, 5, 6]

/-- LIST returns the lowest live number above its starting value with that record's kind and state, or NONE, and changes nothing
(R25). The book's numbers rise, which every step keeps (BookKept). -/
def Obligations.ListReturnsNext : Prop :=
  ∀ (port : Port) (n : Nat) (s : State), BookFits s →
    let gives := fun (r : Response) =>
      exec (.list port n) s = .next (noteFormed port (.list n) r { s with lastResult := some r })
    ((∀ x ∈ s.book.records, x.number ≤ n) → gives { code := .none, body := [], masked := [] }) ∧
    (∀ r ∈ s.book.records, n < r.number → (∀ x ∈ s.book.records, n < x.number → r.number ≤ x.number) →
      gives (doneWith [BitVec.ofNat 8 r.number, BitVec.ofNat 8 (kindCode r.body), BitVec.ofNat 8 (recordState r)]))

/-- The rollover: the book first serves what the day being left has open, a run with its staged amendment applied and its pump stopped
(R20, R27), then makes every record ready for the new day (R28); the day outcome counts are then 0, and the outcomes of lapsed ONCE orders
belong to the day left (R27, R167; log entry 13). The tally starts at 0 and the allowance is judged afresh (R33, R48). The rollover is
announced last, and its announcement has the frost controller judge as at a judgement of R149 (log entry 52). -/
def Obligations.RolloverClosesAndReadies : Prop :=
  ∀ (old new : Nat) (s : State), BookFits s →
    let closed := closeDay old s
    let u := rollover old new s
    (∀ n r, findRecord n s = some r →
      findRecord n closed = closedRecord old r ∧ findRecord n (newDay old new s) = readiedRecord old new r ∧
      findRecord n u = (closedRecord old r).bind (readiedRecord old new) ∧
      ∀ f, r.body = .fill f → r.origin ≠ .system →
        (f.state = .due ∨ f.state = .suspended ∨ inRun f = true → eventIsSet .outcome closed = true) ∧
        (inRun f = true → pumpsFluid (closed.pumps.get f.pump).state = false ∧ (closed.fill.get f.pump).holder = none ∧
          (closed.fill.get f.pump).noFlow = none)) ∧
    (∀ n, findRecord n s = none → findRecord n u = none) ∧
    u.book.outcomes = ⟨0, 0, 0, 0, 0, 0, 0⟩ ∧ u.book.lastAssigned = s.book.lastAssigned ∧
    u.clock = { s.clock with tally := 0, reachedToday := decide (s.gs.allowance = 0) } ∧
    (s.gs.allowance = 0 → eventIsSet .allowance u = true) ∧
    ∃ xs, u.agenda = s.agenda ++ xs ++ [.evalFill, .frostJudge]

/-! ### Reading the tower and the guard store -/

/-- READ TOWER returns one part, byte by byte in the order of R187's table with the widths of chapter 12.3, and changes nothing but the
sampled pins. Over a locked link the result is formed with the two guard-set values as 0 (log entry 40), and the result as an ANSWER frame
built while LOCKED carries it has them as 0 in every case (R177). A granted claim's state, an absent reclaim, an absent answer and a
stopped timer are carried as log entry 18 says, a yes is 1 (log entry 49), an absent one-byte number is FFh (log entry 50). -/
def Obligations.ReadTowerReturnsPart : Prop :=
  (∀ (port : Port) (x : Sample) (part : Nat) (s : State),
    let gives := fun (r : Response) =>
      exec (.readTower port x part) s =
        .next (noteFormed port (.readTower part) r { takeSample x s with lastResult := some r })
    let byte := fun (n : Nat) => ([BitVec.ofNat 8 n] : List Byte)
    let two := fun (n : Nat) => ([BitVec.ofNat 8 (n / 256), BitVec.ofNat 8 n] : List Byte)
    let three := fun (e : BitVec 17) => byte (e.toNat / 65536) ++ two e.toNat
    let yes := fun (b : Bool) => byte (if b then 1 else 0)
    let bit := fun (b : Bool) (i : Nat) => if b then 2 ^ i else 0
    let code := fun (v : Option Nat) => match v with
      | none => ([0xFF] : List Byte)
      | some n => byte n
    let wide := fun (v : Option Nat) => match v with
      | none => ([0xFF, 0xFF] : List Byte)
      | some n => two n
    let signed := fun (v : Option Int) => match v with
      | none => ([0x80, 0x00] : List Byte)
      | some t => two (BitVec.ofInt 16 t).toNat
    let c := s.clock
    let a := s.arbiter
    let l := s.link
    let claim := fun (k : Claim) => byte (claimantCode k.claimant) ++ byte k.units ++ byte (classRank k.cls) ++ two k.seq
    let frozen := fun (b : Bool) => byte (if b then 0 else 1)
    let time := fun (allowance : Nat) =>
      two c.day ++ two c.minute ++ byte c.second ++ two ((c.minute + s.gs.dayStart) % 1440) ++ byte (trustCode c.trust) ++
        byte c.rank ++ byte c.holdover ++ byte (bandCode c.band) ++ two c.tally ++ two allowance ++ yes c.reachedToday
    let pumps :=
      ([0, 1, 2] : List (Fin 3)).flatMap (fun p =>
        let q := s.pumps.get p
        byte (pumpStateCode q.state) ++ code (q.cause.map causeCode) ++ byte q.attempts ++ two (q.lockout.getD 0) ++
          byte (bit (s.inputs.feedback.get p) 0 + bit (x.overload.get p) 1 + bit (q.state ≠ .outOfService) 2) ++
          code (s.fill.get p).holder) ++
        byte (valveStateCode s.valve.state) ++ code (s.valve.faultDirection.map directionCode) ++
        byte (bit s.inputs.openLimit 0 + bit s.inputs.closedLimit 1)
    let supply := fun (limit : Nat) =>
      byte limit ++ byte (unitSum (a.granted.filter (fun k => !k.reclaiming))) ++
        byte (unitSum (a.granted.filter (fun k => k.reclaiming))) ++ byte (s.gs.supplyLimit - unitSum a.granted) ++
        byte a.waiting.length ++ a.waiting.flatMap claim ++
        byte a.granted.length ++ a.granted.flatMap (fun k => claim k ++ byte (if k.reclaiming then 2 else 1)) ++
        (match a.reclaim with
         | none => [0, 0xFF, 0, 0]
         | some r => byte 1 ++ byte (claimantCode r.serves) ++ byte r.need ++ byte r.victims.length ++
             r.victims.flatMap (fun v => byte (claimantCode v)))
    let guarding :=
      wide (filtered s) ++ signed s.level.trend ++ byte s.level.window.length ++ two s.level.rejected ++
        byte (guardStateCode s.guard.state) ++ two s.guard.ceiling ++ frozen s.guard.frozenPipe ++ yes s.inputs.float ++
        byte (bit (s.guard.held.get 0) 0 + bit (s.guard.held.get 1) 1 + bit (s.guard.held.get 2) 2) ++ yes s.guard.reserve
    let frost :=
      ([0, 1, 2, 3, 4, 5, 6, 7] : List (Fin 8)).flatMap (fun i =>
          byte (conditionCode (s.frost.probes.get i).condition) ++ signed (s.frost.probes.get i).reading) ++
        ([0, 1, 2, 3, 4, 5, 6, 7] : List (Fin 8)).flatMap (fun i =>
          byte (circuitStateCode (s.frost.circuits.get i).state) ++ signed (s.frost.circuits.get i).setpoint ++
            yes (s.inputs.current.get i) ++ byte ((s.frost.circuits.get i).timer.getD 0)) ++
        frozen s.frost.pipe.isSome ++ code (s.frost.pipe.map reasonCode) ++ code ((pipeProbe s).map Fin.val) ++
        two s.frost.stagnation ++ yes s.frost.fallback
    let linked :=
      byte (lineCode l.line) ++ code (l.round.map (·.count)) ++ wide (l.round.map (·.slotLength)) ++
        byte l.plan.length ++ l.plan.flatMap (fun e => byte e.1 ++ byte e.2) ++ code l.answerSlot ++ byte l.sequence ++
        yes s.remote.unlocked ++ byte s.remote.unlockLeft ++ byte s.remote.refusalLeft ++
        (match s.remote.answer with
         | none => [0, 0, 0, 0xFF, 0, 0]
         | some r => [1, r.seq, r.code] ++ byte (resultCode r.response.code) ++
             (match r.refused with
              | none => [0, 0]
              | some b => [1, b]))
    let book := section_ s .orders ++ three s.events ++ three s.enables ++ yes x.key ++ byte (portCode s.cabinet.state)
    let bytes := fun (allowance limit : Nat) => match part with
      | 1 => time allowance
      | 2 => pumps
      | 3 => supply limit
      | 4 => guarding
      | 5 => frost
      | 6 => linked
      | _ => book
    (part = 0 ∨ 8 ≤ part → gives (plain .invalid)) ∧
    (1 ≤ part → part ≤ 7 → ∃ r, gives r ∧ r.code = .done ∧
      r.body.length =
        (match part with
         | 1 => 16
         | 2 => 24
         | 3 => 6 + 5 * s.arbiter.waiting.length + 6 * s.arbiter.granted.length + 4
                  + (match s.arbiter.reclaim with | none => 0 | some c => c.victims.length)
         | 4 => 14
         | 5 => 70
         | 6 => 16 + 2 * s.link.plan.length
         | _ => 48) ∧
      r.masked.length = r.body.length ∧ r.masked = bytes 0 0 ∧
      (port = .cabinet ∨ s.remote.unlocked = true → r.body = bytes s.gs.allowance s.gs.supplyLimit) ∧
      (port = .district → s.remote.unlocked = false → r.body = r.masked))) ∧
  [Trust.free, .synced, .holdover, .local].map trustCode = [0, 1, 2, 3] ∧
  [Band.night, .shoulder, .day].map bandCode = [0, 1, 2] ∧
  [PumpState.stopped, .claiming, .starting, .running, .stopping, .lockout, .faulted, .outOfService].map pumpStateCode =
    [0, 1, 2, 3, 4, 5, 6, 7] ∧
  [FaultCause.overload, .noStart, .noFlow, .welded].map causeCode = [0, 1, 2, 3] ∧
  [ValveState.isOpen, .closing, .closed, .opening, .fault].map valveStateCode = [0, 1, 2, 3, 4] ∧
  [Direction.toOpen, .toClose].map directionCode = [0, 1] ∧
  [ClaimClass.reserve, .critical, .turnover, .fill, .frost].map classRank = [0, 1, 2, 3, 4] ∧
  (∀ p : Fin 3, claimantCode (.pump p) = p.val) ∧ (∀ i : Fin 8, claimantCode (.circuit i) = 16 + i.val) ∧
  [GuardState.normal, .near, .blind, .tripped, .latched, .containment].map guardStateCode = [0, 1, 2, 3, 4, 5] ∧
  [ProbeCondition.awaiting, .valid, .invalid].map conditionCode = [0, 1, 2] ∧
  [CircuitState.off, .calling, .heating, .shed, .fault].map circuitStateCode = [0, 1, 2, 3, 4] ∧
  [PipeReason.cold, .noReading].map reasonCode = [0, 1] ∧ [LineState.quiet, .receiving, .sending].map lineCode = [0, 1, 2] ∧
  [PortState.idle, .working, .held].map portCode = [0, 1, 2] ∧
  [ResultCode.done, .staged, .busy, .full, .noOrder, .stale, .stagedBusy, .retiring, .system, .invalid, .conflict, .locked,
      .inUse, .conditions, .timeSynced, .notHere, .unknown, .frameError, .none].map resultCode = List.range 19

/-- READ GUARD returns each named field and the commit mark and changes nothing: true values on the cabinet port, every value 0 over a
locked link, the access code 0 over the link always; and every value is 0 in the result as an ANSWER frame built while LOCKED carries it
(R177, R196). The mark is 1 while a commit is in flight and 0 otherwise, a coding of the model's (log entry 49). -/
def Obligations.ReadGuardReturnsValues : Prop :=
  ∀ (port : Port) (ids : List Byte) (s : State),
    (¬ (1 ≤ ids.length ∧ ids.length ≤ 16 ∧ ids.Nodup ∧ ∀ i ∈ ids, (guardFieldOfId i).isSome = true) →
      exec (.readGuard port ids) s =
        .next (noteFormed port (.readGuard ids) (plain .invalid) { s with lastResult := some (plain .invalid) })) ∧
    (1 ≤ ids.length → ids.length ≤ 16 → ids.Nodup → (∀ i ∈ ids, (guardFieldOfId i).isSome = true) →
      ∃ r, exec (.readGuard port ids) s = .next (noteFormed port (.readGuard ids) r { s with lastResult := some r }) ∧
        r.code = .done ∧
        r.body =
          ids.flatMap (fun i => i ::
            (match guardFieldOfId i with
             | none => [0, 0, 0, 0]
             | some f =>
               if port = .cabinet ∨ (s.remote.unlocked = true ∧ f ≠ .accessCode) then guardBytes s.gs f
               else [0, 0, 0, 0])) ++ [if s.store.commit then 1 else 0] ∧
        r.masked = ids.flatMap (fun i => [i, 0, 0, 0, 0]) ++ [if s.store.commit then 1 else 0])

/-- WRITE GUARD: the first failing check of R195 gives the result and nothing else changes but the sampled pins; an accepted write
replaces the field in the working copy, begins a commit that marks the image incomplete, makes the owning block act at once, and sets
REMOTE over the link (R36, R48, R107, R129, R144, R147, R149, R176, R195, R197). Where several circuits are judged, they are in ascending
number (log entry 46), and before the pipe and the stagnation judgement (log entry 56). -/
def Obligations.WriteGuardJudged : Prop :=
  ∀ (port : Port) (x : Sample) (id : Byte) (v : BitVec 32) (s : State),
    let refused := fun (c : ResultCode) =>
      exec (.writeGuard port x id v) s =
        .next (finish (noteFormed port (.writeGuard id v) (plain c) { takeSample x s with lastResult := some (plain c) }))
    let allowed := match port with
      | .cabinet => x.key = true
      | .district => s.remote.unlocked = true ∧ id ≠ 0x7F
    (¬ allowed → refused .locked) ∧
    (allowed → s.store.commit = true → refused .busy) ∧
    (allowed → s.store.commit = false → guardFieldOfId id = none → refused .invalid) ∧
    (∀ f, allowed → s.store.commit = false → guardFieldOfId id = some f →
      let g := putGuardValue s.gs f (guardOperand f v)
      let ok := guardInRange f (guardOperand f v) = true ∧ guardRelations g = true
      (¬ ok → refused .invalid) ∧
      (ok → writeInUse f g s = true → refused .inUse) ∧
      (ok → writeInUse f g s = false →
        let store : Store := { s.store with commit := true, image := { s.store.image with incomplete := true } }
        let u := takeRequest port (.writeGuard id v) (takeSample x s)
        exec (.writeGuard port x id v) s = .next (finish u) ∧ (finish u).lastResult = some (plain .done) ∧
        (finish u).gs = g ∧ (finish u).store = store ∧ (port = .district → eventIsSet .remote u = true) ∧
        FieldActs f s.gs { takeSample x s with gs := g, store := store } u))

/-- SET TARIFF is BUSY while a commit is in flight, INVALID for a list that is no calendar, and else replaces the calendar, re-evaluates
the band at once, begins a commit and sets REMOTE over the link (R43, R44, R176); READ TARIFF returns the calendar; COMMIT_END writes the
working copy with its check and ends the commit (R42, R44, R45, R194, R197). That BUSY comes before an unknown band, the byte form under
the check, and COMMIT_END without a commit leaving the state are the model's choices (log entries 35, 17 and 27). -/
def Obligations.TariffAndCommit : Prop :=
  ∀ (port : Port) (es : List TariffField) (s : State),
    let refused := fun (c : ResultCode) =>
      exec (.setTariff port es) s =
        .next (finish (noteFormed port (.setTariff es) (plain c) { s with lastResult := some (plain c) }))
    let lawful := 1 ≤ es.length ∧ es.length ≤ 8 ∧ (es.map (·.start)).head? = some 0 ∧ ascending (es.map (·.start)) ∧
      ∀ e ∈ es, e.start ≤ 1439 ∧ e.band ≤ 2
    (s.store.commit = true → refused .busy) ∧
    (s.store.commit = false → ¬ lawful → refused .invalid) ∧
    (s.store.commit = false → lawful →
      let u := takeRequest port (.setTariff es) s
      let t := finish u
      let b := if s.clock.trust = .free then Band.day else calendarBand s.clock.minute u.store.calendar
      exec (.setTariff port es) s = .next t ∧ t.lastResult = some (plain .done) ∧ t.store.commit = true ∧
        t.store.image = { s.store.image with incomplete := true } ∧
        t.store.calendar.map (fun e => (e.start, bandCode e.band)) = es.map (fun e => (e.start, e.band)) ∧
        u.clock = { s.clock with band := b } ∧ u.agenda = s.agenda ++ (if b = s.clock.band then [] else [.evalFill]) ∧
        (port = .district → eventIsSet .remote u = true)) ∧
    (∃ r, exec (.readTariff port) s = .next (noteFormed port .readTariff r { s with lastResult := some r }) ∧
      r.code = .done ∧
      r.body = BitVec.ofNat 8 s.store.calendar.length ::
        s.store.calendar.flatMap (fun e =>
          [BitVec.ofNat 8 (e.start / 256), BitVec.ofNat 8 e.start, BitVec.ofNat 8 (bandCode e.band)])) ∧
    exec .commitEnd s = .next
      (if s.store.commit then
        { s with store :=
          { calendar := s.store.calendar, commit := false,
            image := { incomplete := false, guardSet := s.gs, calendar := s.store.calendar,
                       check := imageCheck s.gs s.store.calendar } } }
       else s)

/-! ### The clock -/

/-- SET CLOCK is refused over the link, in SYNCED and out of range, and else moves trust to LOCAL with DONE and adopts the time given as
an opener's would be, with the time-set flag clear; the rank, round period, last opener and holdover count stand (R34, R38, R41). The
change of trust is announced after what the adopted time brings (log entry 39). -/
def Obligations.SetClockTaken : Prop :=
  ∀ (d m x : Nat) (s : State),
    let refused := fun (port : Port) (c : ResultCode) =>
      exec (.setClock port d m x) s =
        .next (finish (noteFormed port (.setClock d m x) (plain c) { s with lastResult := some (plain c) }))
    let c := s.clock
    let inRange := d ≤ 65535 ∧ m ≤ 1439 ∧ x ≤ 59
    let u := takeRequest .cabinet (.setClock d m x) s
    refused .district .notHere ∧
    (c.trust = .synced → refused .cabinet .timeSynced) ∧
    (c.trust ≠ .synced → ¬ inRange → refused .cabinet .invalid) ∧
    (c.trust ≠ .synced → inRange →
      exec (.setClock .cabinet d m x) s = .next (finish u) ∧ (finish u).lastResult = some (plain .done) ∧
      (finish u).clock.trust = .local ∧ (finish u).clock.rank = c.rank ∧ (finish u).clock.roundPeriod = c.roundPeriod ∧
      (finish u).clock.lastOpener = c.lastOpener ∧ (finish u).clock.holdover = c.holdover ∧
      (c.trust ≠ .local → eventIsSet .time u = true) ∧
      let before := { s with
        clock := { c with trust := .local, band := if c.trust = .free then calendarBand c.minute s.store.calendar else c.band }
        events := if c.trust = .local then s.events else s.events ||| flagMask .time }
      let v := adoptTime d m x false before
      u.clock = v.clock ∧ u.book = v.book ∧ u.events = v.events ∧
      u.agenda = v.agenda ++ (if c.trust = .local then [] else [.evalFill]))

/-- Time adopted from an opener or SET CLOCK: an adjustment when the time-set flag is clear and the difference on the cycle of 65536 days
is at most 60 s either way and does not carry the day back, else a discontinuity (R38). An adjustment brings the minute event past last
minute served, the day's end past 1439, and only the band's re-evaluation otherwise, and sets no event (R39, R43); a discontinuity sets
DISCONTINUITY, rolls over when the day changes, announces itself and re-evaluates the band, and no minute is charged (R40). The clock
stands at minute 1440 while the end marks of 1440 are judged (log entry 10). -/
def Obligations.TimeAdopted : Prop :=
  ∀ (d m x : Nat) (timeSet : Bool) (s : State),
    let c := s.clock
    let u := adoptTime d m x timeSet s
    (∀ δ : Int, -2831155200 ≤ δ → δ ≤ 2831155199 →
      (5662310400 : Int) ∣
        ((d : Int) * 86400 + m * 60 + x) - ((c.day : Int) * 86400 + c.minute * 60 + c.second) - δ →
      (isAdjustment s d m x timeSet = true ↔ timeSet = false ∧ -60 ≤ δ ∧ δ ≤ 60 ∧ ¬ (δ < 0 ∧ d ≠ c.day))) ∧
    (isAdjustment s d m x timeSet = true →
      u.events = s.events ∧
      (d = c.day → m = c.minute → u = { s with clock := { c with second := x, ms := 0 } }) ∧
      (d = c.day → m ≠ c.minute → m ≤ c.lastMinute →
        u = { s with clock := { c with minute := m, second := x, ms := 0 }, agenda := s.agenda ++ [.reband] }) ∧
      (d = c.day → m ≠ c.minute → c.lastMinute < m →
        u.clock = { c with minute := m, second := x, ms := 0, lastMinute := m } ∧
        ∃ xs : List Note, xs.Perm [.fillWindows m, .heatMinute m] ∧
          u.agenda = s.agenda ++ [.charge, .reband] ++ xs ++ [.sample]) ∧
      (d ≠ c.day →
        u.clock = { c with minute := 1440, second := 0, ms := 0 } ∧
        ∃ xs : List Note, xs.Perm [.fillWindows 1440, .heatWindows 1440] ∧
          u.agenda = s.agenda ++ [.charge] ++ xs ++ [.rollTo d x])) ∧
    (isAdjustment s d m x timeSet = false →
      let s1 := setEvent .discontinuity { s with clock := { c with day := d, minute := m, second := x, ms := 0 } }
      u.clock.day = d ∧ u.clock.minute = m ∧ u.clock.second = x ∧ u.clock.ms = 0 ∧ u.clock.lastMinute = m ∧
      eventIsSet .discontinuity u = true ∧
      (d = c.day → u.book = s.book ∧ u.agenda = s.agenda ++ [.discontinuity, .reband]) ∧
      (d ≠ c.day → u.book = (rollover c.day d s1).book ∧ u.clock.tally = 0 ∧
        u.agenda = (rollover c.day d s1).agenda ++ [.discontinuity, .reband]))

/-- SECOND_ADVANCE and MINUTE_EVENT always complete. The crystal counts a second or the rest of a minute: schedule time advances, and
every timer in seconds that runs, of the pumps, their flow, the valve, the level, the probes and the circuits, is less by the seconds
counted, to 0 at the least, while nothing else of those blocks changes before the announcements are taken. A minute past last minute
served brings its announcements in their order, while one that is not brings none (R30, R31); past 1439 the day-end event is followed by
the rollover and the minute event of minute 0 (R32), the clock standing at minute 1440 of the old day between them, which is the model's
choice (log entry 10). MINUTE_EVENT counts the rest of the minute's seconds, and SECOND_ADVANCE the rest of the second's milliseconds (log
entry 8). -/
def Obligations.CrystalCounts : Prop :=
  ∀ s : State,
    let c := s.clock
    let passed := fun (n : Nat) (u : State) =>
      (∀ p : Fin 3,
        let q := s.pumps.get p
        let a := s.fill.get p
        u.pumps.get p =
          { q with dwell := q.dwell.map (· - n), confirm := q.confirm.map (· - n), stopTimer := q.stopTimer.map (· - n),
                   lockout := q.lockout.map (· - n) } ∧
        u.fill.get p = { a with noFlow := a.noFlow.map (· - n) }) ∧
      u.valve = { s.valve with travel := s.valve.travel.map (· - n) } ∧
      u.level = { s.level with timer := s.level.timer.map (· - n) } ∧
      u.frost = { s.frost with probes := u.frost.probes, circuits := u.frost.circuits } ∧
      ∀ k : Fin 8,
        let b := s.frost.probes.get k
        let h := s.frost.circuits.get k
        u.frost.probes.get k = { b with silence := b.silence.map (· - n) } ∧
        u.frost.circuits.get k = { h with timer := h.timer.map (· - n) }
    exec .secondAdvance s = .next (finish (advanceSecond s)) ∧ exec .minuteEvent s = .next (finish (advanceToMinute s)) ∧
    passed 1 (advanceSecond s) ∧ (advanceSecond s).crystal = s.crystal + (1000 - c.ms) ∧
    passed (60 - c.second) (advanceToMinute s) ∧
    (advanceToMinute s).crystal = s.crystal + ((60 - c.second) * 1000 - c.ms) ∧
    (c.second < 59 →
      let u := advanceSecond s
      u.clock = { c with second := c.second + 1, ms := 0 } ∧ u.agenda = s.agenda) ∧
    (∀ (i : Instr) (u : State), (i = .minuteEvent ∧ u = advanceToMinute s) ∨
        (i = .secondAdvance ∧ 59 ≤ c.second ∧ u = advanceSecond s) →
      exec i s = .next (finish u) ∧
      (c.minute < 1439 →
        let m := c.minute + 1
        (c.lastMinute < m →
          u.clock = { c with minute := m, second := 0, ms := 0, lastMinute := m } ∧
          ∃ xs : List Note, xs.Perm [.fillWindows m, .heatMinute m] ∧
            u.agenda = s.agenda ++ [.charge, .reband] ++ xs ++ [.sample]) ∧
        (m ≤ c.lastMinute → u.clock = { c with minute := m, second := 0, ms := 0 } ∧ u.agenda = s.agenda)) ∧
      (1439 ≤ c.minute →
        u.clock = { c with minute := 1440, second := 0, ms := 0 } ∧
        ∃ xs : List Note, xs.Perm [.fillWindows 1440, .heatWindows 1440] ∧
          u.agenda = s.agenda ++ [.charge] ++ xs ++ [.rollTo ((c.day + 1) % 65536) 0])) ∧
    ∀ d x : Nat,
      let s1 := { s with clock := { c with day := d, minute := 0, second := x, ms := 0, lastMinute := 0 } }
      let v := handle (.rollTo d x) s
      v.clock = { s1.clock with tally := 0, reachedToday := decide (s.gs.allowance = 0) } ∧
      v.book = (rollover c.day d s1).book ∧
      ∃ xs : List Note, xs.Perm [.fillWindows 0, .heatMinute 0] ∧
        v.agenda = (rollover c.day d s1).agenda ++ [.reband] ++ xs ++ [.sample]

/-- Two silent round periods move SYNCED to HOLDOVER with the count 0, the answer discarded with the frame built from it and the link
locked, and an opener taken first keeps SYNCED; each further period counts, and at the limit trust enters FREE (R34, R35, R36, R162, R175,
R179). The watch may expire at any instant before the crystal's next whole second, and its expiry moves the crystal to that instant (log
entry 9); SYNCED without a last opener takes it at once (log entry 51). HOLDOVER_ENTRY outside SYNCED and HOLDOVER_ROUND outside HOLDOVER
change nothing (log entry 27). -/
def Obligations.HoldoverCounts : Prop :=
  ∀ s : State,
    let c := s.clock
    let ended := match c.lastOpener with
      | some t => t + 2 * c.roundPeriod
      | none => s.crystal
    let expires := ended < s.crystal + (1000 - c.ms)
    (c.trust = .synced → expires →
      let u := enterHoldover s
      exec .holdoverEntry s = .next (finish u) ∧ (finish u).clock.trust = .holdover ∧
      (finish u).clock.holdover = 0 ∧ (finish u).crystal = max s.crystal ended ∧
      (finish u).remote = { s.remote with answer := none, unlocked := false, unlockLeft := 0 } ∧
      (s.link.line = .sending → (finish u).link.line = .quiet ∧ u.link.sending = none) ∧
      (∀ d, u.link.frameDue = some d → d.content ≠ .answer) ∧
      (∀ d, s.link.frameDue = some d → d.content ≠ .answer → u.link.frameDue = some d) ∧ eventIsSet .time u = true) ∧
    (c.trust ≠ .synced ∨ ¬ expires → exec .holdoverEntry s = .next (finish s)) ∧
    (c.trust = .holdover →
      let n := min 255 (c.holdover + 1)
      ∃ t, exec .holdoverRound s = .next t ∧ t.clock.holdover = n ∧
        (n < s.gs.holdoverLimit → t.clock.trust = .holdover) ∧ (s.gs.holdoverLimit ≤ n → t.clock.trust = .free)) ∧
    (c.trust ≠ .holdover → exec .holdoverRound s = .next (finish s))

/-- The tally is charged for each pump in RUNNING at its rating times the weight of the current band, saturating, and a change is judged
against the allowance and announced; the band is DAY in FREE and else that of the last calendar entry at or before the minute, and a
change is announced (R43, R47, R48). -/
def Obligations.TallyAndBand : Prop :=
  ∀ s : State,
    let c := s.clock
    let weight := match c.band with
      | .night => s.gs.weightNight
      | .shoulder => s.gs.weightShoulder
      | .day => s.gs.weightDay
    let charge := fun (p : Fin 3) => if (s.pumps.get p).state = .running then s.gs.rating.get p * weight else 0
    let t := min 65535 (c.tally + (charge 0 + charge 1 + charge 2))
    let reached := t ≠ c.tally ∧ s.gs.allowance ≤ t ∧ c.reachedToday = false
    (t = c.tally → handle .charge s = s) ∧
    (t ≠ c.tally →
      handle .charge s =
        { s with
          clock := { c with tally := t, reachedToday := c.reachedToday || decide (s.gs.allowance ≤ t) }
          events := if reached then s.events ||| flagMask .allowance else s.events
          agenda := s.agenda ++ [.evalFill] }) ∧
    (let b := bandNow s
     handle .reband s =
       { s with clock := { c with band := b }, agenda := s.agenda ++ (if b = c.band then [] else [.evalFill]) }) ∧
    (c.trust = .free → bandNow s = .day) ∧
    (c.trust ≠ .free → ascending (s.store.calendar.map (·.start)) → ∀ e ∈ s.store.calendar, e.start ≤ c.minute →
      (∀ x ∈ s.store.calendar, x.start ≤ c.minute → x.start ≤ e.start) → bandNow s = e.band)

/-! ### Locks, service, acknowledgement and events -/

/-- UNLOCK: the first case of the table of R178 decides; on the cabinet port it is NOT_HERE, and a cabinet write of the access code
leaves the lock as it stands. LOCK locks the link from either port with DONE, leaves the refusal rounds, and sets REMOTE only over the
link when it finds the link unlocked (R176, R179). -/
def Obligations.UnlockAndLockJudged : Prop :=
  (∀ (code : BitVec 32) (s : State),
    let gives := fun (t : State) => exec (.unlock .district code) s = .next t
    (exec (.unlock .cabinet code) s =
      .next (noteFormed .cabinet (.unlock code) (plain .notHere) { s with lastResult := some (plain .notHere) })) ∧
    (0 < s.remote.refusalLeft → gives { s with lastResult := some (plain .locked) }) ∧
    (s.remote.refusalLeft = 0 → s.gs.accessCode = 0 → gives { s with lastResult := some (plain .locked) }) ∧
    (s.remote.refusalLeft = 0 → s.gs.accessCode ≠ 0 → code = s.gs.accessCode →
      gives { s with
        remote := { s.remote with unlocked := true, unlockLeft := 16 }
        events := s.events ||| flagMask .remote
        lastResult := some (plain .done) }) ∧
    (s.remote.refusalLeft = 0 → s.gs.accessCode ≠ 0 → code ≠ s.gs.accessCode →
      gives { s with
        remote := { s.remote with unlocked := false, unlockLeft := 0, refusalLeft := 16 }
        lastResult := some (plain .locked) }) ∧
    (∀ (x : Sample) (v : BitVec 32), ∃ t, exec (.writeGuard .cabinet x 0x7F v) s = .next t ∧
      t.remote.unlocked = s.remote.unlocked ∧ t.remote.unlockLeft = s.remote.unlockLeft)) ∧
  ∀ (port : Port) (s : State),
    ∃ t, exec (.lock port) s = .next t ∧ t.lastResult = some (plain .done) ∧
      t.remote = { s.remote with unlocked := false, unlockLeft := 0 } ∧
      t.events = (if port = .district ∧ s.remote.unlocked = true then s.events ||| flagMask .remote else s.events) ∧
      t = { s with remote := t.remote, events := t.events, lastResult := t.lastResult, cabinet := t.cabinet }

/-- PUMP SERVICE: LOCKED over a locked link, INVALID for an unknown pump, and else the table of R90, with REMOTE set over the link (R176).
An accepted request leaves the inputs it read in the channel's items, and a refused one leaves the channel's items as they stood (log
entry 24). -/
def Obligations.PumpServiceTakes : Prop :=
  ∀ (port : Port) (x : Sample) (n : Nat) (s : State),
    let i : Bool → Instr := fun out => if out then .pumpServiceOut port x n else .pumpServiceReturn port x n
    let q : Bool → Request := fun out => .pumpService n (if out then 0 else 1)
    let refused := fun (out : Bool) (c : ResultCode) =>
      exec (i out) s =
        .next (finish (noteFormed port (q out) (plain c) { takeSample x s with lastResult := some (plain c) }))
    let free := port = .cabinet ∨ s.remote.unlocked = true
    (∀ out, ¬ free → refused out .locked) ∧
    (∀ out, free → 3 ≤ n → refused out .invalid) ∧
    (∀ p : Fin 3, free → p.val = n →
      let b := s.pumps.get p
      let fits := fun (out : Bool) (after : Pump) =>
        let u := takeRequest port (q out) (takeSample x s)
        exec (i out) s = .next (finish u) ∧ (finish u).lastResult = some (plain .done) ∧ u.pumps.get p = after ∧
          (port = .district → eventIsSet .remote u = true) ∧
          ∀ p' : Fin 3, p' ≠ p → u.pumps.get p' = s.pumps.get p'
      let outOk := b.state = .stopped ∨ (b.state = .lockout ∧ b.pendingStart = none) ∨
        (b.state = .faulted ∧ s.inputs.feedback.get p = false)
      let backOk := (b.state = .faulted ∨ b.state = .outOfService) ∧ s.inputs.feedback.get p = false ∧
        x.overload.get p = false
      (outOk → fits true
        { b with state := .outOfService, cause := none, lockout := none, judged := s.inputs.feedback.get p,
                 overload := x.overload.get p }) ∧
      (¬ outOk → refused true .inUse) ∧
      (backOk → fits false
        { b with state := .lockout, cause := none, attempts := 0, lockout := some s.gs.lockoutTime, judged := false,
                 overload := false }) ∧
      (¬ backOk → refused false .inUse))

/-- CIRCUIT RESET: LOCKED over a locked link, INVALID above 7, IN_USE outside FAULT; a circuit in FAULT enters OFF with DONE and is
judged at once, and REMOTE is set over the link (R143). -/
def Obligations.CircuitResetTakes : Prop :=
  ∀ (port : Port) (n : Nat) (s : State),
    let refused := fun (c : ResultCode) =>
      exec (.circuitReset port n) s =
        .next (finish (noteFormed port (.circuitReset n) (plain c) { s with lastResult := some (plain c) }))
    let free := port = .cabinet ∨ s.remote.unlocked = true
    let u := takeRequest port (.circuitReset n) s
    (¬ free → refused .locked) ∧
    (free → 8 ≤ n → refused .invalid) ∧
    (∀ c : Fin 8, free → c.val = n →
      let b := s.frost.circuits.get c
      (b.state ≠ .fault → refused .inUse) ∧
      (b.state = .fault →
        exec (.circuitReset port n) s = .next (finish u) ∧ (finish u).lastResult = some (plain .done) ∧
        (port = .district → eventIsSet .remote u = true) ∧
        u.frost = (judgeCircuit c (setCircuit c { b with state := .off, timer := none } s)).frost ∧
        (u.frost.circuits.get c).state ≠ .fault))

/-- ACKNOWLEDGE is NOT_HERE over the link, with an empty body (log entry 44), and CONDITIONS with KEY off; in LATCHED with the float
inactive and the level fallen it enters NORMAL; in CONTAINMENT with every feedback input open it is judged as from NORMAL and the valve is
commanded to open; with the valve in FAULT it retries the valve, and the guard state is left as it stands. Each accepted one judges the
reserve condition (R116, R124, R125, R126, R128). Its response carries the guard state. Both limits still active fault the retried valve
again (log entry 19). -/
def Obligations.AcknowledgeJudged : Prop :=
  ∀ (x : Sample) (s : State),
    let s0 := takeSample x s
    let carries := fun (c : ResultCode) (g : GuardState) =>
      ({ code := c, body := [BitVec.ofNat 8 (guardStateCode g)], masked := [BitVec.ofNat 8 (guardStateCode g)] } : Response)
    let refused := exec (.acknowledge .cabinet x) s =
      .next (finish (noteFormed .cabinet .acknowledge (carries .conditions s.guard.state)
        { s0 with lastResult := some (carries .conditions s.guard.state) }))
    let u := takeRequest .cabinet .acknowledge s0
    let accepted := fun (g : GuardState) =>
      exec (.acknowledge .cabinet x) s = .next (finish u) ∧ u.guard.state = g ∧ u.guard.reserve = reserveHolds u ∧
      (u.guard.reserve = true → .reserveRequest ∈ u.agenda) ∧ (finish u).lastResult = some (carries .done g)
    let latchedOk := s.inputs.float = false ∧
      ∃ l, filtered s = some l ∧ l ≤ s.gs.rearm ∧ l < s.guard.ceiling - s.gs.approachBand
    exec (.acknowledge .district x) s = .next (finish { s0 with lastResult := some (plain .notHere) }) ∧
    (x.key = false → refused) ∧
    (x.key = true → s.guard.state = .latched → (latchedOk → accepted .normal) ∧ (¬ latchedOk → refused)) ∧
    (x.key = true → s.guard.state = .containment →
      ((∀ p : Fin 3, s.inputs.feedback.get p = false) → accepted (judgeFromNormal s) ∧ u.valve = (openCommand s).valve) ∧
      ((∃ p : Fin 3, s.inputs.feedback.get p = true) → refused)) ∧
    (x.key = true → s.guard.state ≠ .latched → s.guard.state ≠ .containment →
      (s.valve.state = .fault → accepted s.guard.state ∧ u.valve = (openCommand s).valve ∧
        (¬ (s.inputs.openLimit = true ∧ s.inputs.closedLimit = true) →
          u.valve.state = .opening ∧ u.valve.travel = some s.gs.travelLimit ∧ u.valve.faultDirection = none)) ∧
      (s.valve.state ≠ .fault → refused))

/-- CLEAR EVENTS clears each named flag, leaves the others, and returns the whole set; SET EVENT ENABLES replaces every enable at once and
returns them; over the link both are NOT_HERE; a reset turns every enable on (R190, R191). ALERT stands while a flag of its line is set and
enabled, and NOTICE while one of the other flags is; setting a flag leaves every other flag and every enable (R188, R189). -/
def Obligations.EventsAndEnables : Prop :=
  (∀ (flags : BitVec 17) (s : State),
    let e := s.events &&& ~~~flags
    let r := doneWith [BitVec.ofNat 8 (e.toNat / 65536), BitVec.ofNat 8 (e.toNat / 256), BitVec.ofNat 8 e.toNat]
    exec (.clearEvents .cabinet flags) s =
      .next (noteFormed .cabinet (.clearEvents flags) r { s with events := e, lastResult := some r }) ∧
    exec (.clearEvents .district flags) s = .next { s with lastResult := some (plain .notHere) }) ∧
  (∀ (flags : BitVec 17) (s : State),
    let r := doneWith
      [BitVec.ofNat 8 (flags.toNat / 65536), BitVec.ofNat 8 (flags.toNat / 256), BitVec.ofNat 8 flags.toNat]
    exec (.setEventEnables .cabinet flags) s =
      .next (noteFormed .cabinet (.setEventEnables flags) r { s with enables := flags, lastResult := some r }) ∧
    exec (.setEventEnables .district flags) s = .next { s with lastResult := some (plain .notHere) }) ∧
  (∀ (pins : Pins) (s : State), ∃ v, exec (.reset pins) s = .next v ∧ v.enables = BitVec.allOnes 17) ∧
  ∀ s : State,
    (alertLine s = true ↔ ∃ f : EventFlag, f ∈ [EventFlag.trip, .latch, .contain, .pumpFault, .valveFault, .defaulted] ∧
      s.events.getLsbD (flagBit f) = true ∧ s.enables.getLsbD (flagBit f) = true) ∧
    (noticeLine s = true ↔ ∃ f : EventFlag, f ∉ [EventFlag.trip, .latch, .contain, .pumpFault, .valveFault, .defaulted] ∧
      s.events.getLsbD (flagBit f) = true ∧ s.enables.getLsbD (flagBit f) = true) ∧
    ∀ f g : EventFlag,
      (setEvent f s).events.getLsbD (flagBit g) = (decide (f = g) || s.events.getLsbD (flagBit g)) ∧
      (setEvent f s).enables = s.enables

/-! ### The cabinet port -/

/-- A cabinet frame begins with the status byte of the port state, and with the held response and its sum check in HELD, every byte past
them being filler (R184); the owner's result becomes the held response and the port leaves WORKING for HELD (R186). A request not carried
out before is carried out at that moment (log entry 7). -/
def Obligations.CabinetShowsItsResponse : Prop :=
  (∀ s : State,
    ∃ sdo, exec .cabinetFrameBegin s =
        .next { s with cabinet := { s.cabinet with clocked := some { atBegin := s.cabinet.state, sdo := sdo } } } ∧
      (s.cabinet.state = .idle → sdo = [0x5A]) ∧ (s.cabinet.state = .working → sdo = [0x5B]) ∧
      (∀ r, s.cabinet.state = .held → s.cabinet.held = some r →
        let b := BitVec.ofNat 8 (resultCode r.code) :: BitVec.ofNat 8 r.body.length :: r.body
        sdo = 0x5C :: (b ++ [b.foldl (· + ·) 0]))) ∧
  (∀ (c : Clocked) (n i : Nat), i < n →
    (clockedOut c n)[i]? = some (if i < c.sdo.length then (c.sdo[i]?).getD 0 else 0x00)) ∧
  ∀ (x : Sample) (f : InFlight) (s : State), s.cabinet.state = .working → s.cabinet.inFlight = some f →
    let s0 := takeSample x s
    (∀ r, f.formed = some r →
      exec (.ownerFormsResult x) s =
        .next (finish { s0 with cabinet := { s.cabinet with state := .held, held := some r, inFlight := none } })) ∧
    (f.formed = none →
      let u := takeRequest .cabinet f.request s0
      exec (.ownerFormsResult x) s =
        .next (finish { u with
          cabinet := { u.cabinet with
            state := .held, held := some (carryOut .cabinet f.request s0).2, inFlight := none } }))

/-- A cabinet frame ends: in WORKING and with a response not collected its request is not taken; else R185's first case decides. A request
is read from its code, header and body as the tables of chapter 12 give it and R199 judges their form: a body of another form is none (the
bytes after recurrence mode 1 and the kind an AMEND's body is read by: log entries 34 and 15). -/
def Obligations.CabinetFrameEnds : Prop :=
  (∀ (x : Sample) (sdi : List Byte) (c : Clocked) (s : State), s.cabinet.clocked = some c →
    let s1 := { takeSample x s with cabinet := { s.cabinet with clocked := none } }
    let gives := fun (b : Cabinet) => exec (.cabinetFrameEnd x sdi) s = .next { s1 with cabinet := b }
    let taken := c.atBegin = .idle ∨ (c.atBegin = .held ∧ c.sdo.length ≤ sdi.length)
    let formed := fun (k : ResultCode) =>
      gives { state := .held, held := some (plain k), clocked := none, inFlight := none }
    let long := 5 ≤ sdi.length ∧ at8 sdi 4 ≤ 96 ∧ 6 + at8 sdi 4 ≤ sdi.length
    let sumOk := (sdi.take (5 + at8 sdi 4)).foldl (· + ·) 0 = (sdi[5 + at8 sdi 4]?).getD 0
    let codes : List Nat :=
      [0x01, 0x02, 0x03, 0x04, 0x05, 0x10, 0x11, 0x12, 0x13, 0x14, 0x15, 0x20, 0x21, 0x22, 0x23, 0x24, 0x30, 0x31]
    let request := parseRequest s1 (at8 sdi 0) (at8 sdi 1) (at8 sdi 2) (at8 sdi 3) ((sdi.drop 5).take (at8 sdi 4))
    (¬ taken → exec (.cabinetFrameEnd x sdi) s = .next s1) ∧
    (taken → sdi = [] ∨ at8 sdi 0 = 0 → gives { state := .idle, held := none, clocked := none, inFlight := none }) ∧
    (taken → at8 sdi 0 ≠ 0 →
      (¬ long → formed .frameError) ∧
      (long → ¬ sumOk → formed .frameError) ∧
      (long → sumOk → at8 sdi 0 ∉ codes → formed .unknown) ∧
      (long → sumOk → at8 sdi 0 = 0x20 → formed .notHere) ∧
      (long → sumOk → at8 sdi 0 ∈ codes → at8 sdi 0 ≠ 0x20 →
        (request = none → formed .invalid) ∧
        (∀ q, request = some q →
          gives { state := .working, held := none, clocked := none, inFlight := some { request := q, formed := none } })))) ∧
  ∀ (flags order expected : Nat) (s : State),
    let reads := fun (code : Nat) (b : List Byte) => parseRequest s code flags order expected b
    let two := fun (h l : Byte) => h.toNat * 256 + l.toNat
    let signed := fun (h l : Byte) => (BitVec.ofNat 16 (two h l)).toInt
    let has := fun (b : Byte) (i : Nat) => b.toNat / 2 ^ i % 2 = 1
    let e := if flags % 2 = 1 then some expected else none
    let recur := fun (m h l : Byte) => match m.toNat with
      | 0 => some (RecurrenceField.onceOn (two h l))
      | 1 => if two h l = 0 then some .once else none
      | 2 => some (.every h.toNat l.toNat)
      | _ => none
    let band := fun (b : Byte) => match b.toNat with
      | 0 => some BandPermission.nightOnly
      | 1 => some .nightShoulder
      | 2 => some .any
      | _ => none
    let contents := fun (b : Byte) => if 128 ≤ b.toNat then none else
      some ([Selector.level, .guard, .pumps, .frost, .orders, .tally, .events].filter (fun x => has b (selectorBit x)))
    let fits := fun (n : Nat) => ∀ r, findRecord order s = some r →
      (match r.body with
       | .fill _ => 13
       | .heat _ => 11
       | .report _ => 5) = n
    -- PLACE
    (∀ p t t' a a' z z' m h l g q : Byte,
      reads 0x01 [0, p, t, t', a, a', z, z', m, h, l, g, q] =
        (match recur m h l, band g with
         | some r, some k => some (.place (.fill
             { pump := p.toNat, target := two t t', start := two a a', stop := two z z', recur := r, band := k,
               priority := q.toNat }))
         | _, _ => none)) ∧
    (∀ c t t' a a' z z' m h l : Byte,
      reads 0x01 [1, c, t, t', a, a', z, z', m, h, l] =
        (recur m h l).map (fun r => .place (.heat
          { circuit := c.toNat, hold := signed t t', start := two a a', stop := two z z', recur := r }))) ∧
    (∀ n k r x : Byte,
      reads 0x01 [2, n, k, r, x] =
        (contents x).map (fun y => .place (.report { slot := n.toNat, k := k.toNat, r := r.toNat, contents := y }))) ∧
    (∀ b : List Byte,
      ¬ (b.length = 13 ∧ b.head? = some 0) → ¬ (b.length = 11 ∧ b.head? = some 1) → ¬ (b.length = 5 ∧ b.head? = some 2) →
      reads 0x01 b = none) ∧
    -- AMEND
    (fits 13 → ∀ x p t t' a a' z z' m h l g q : Byte,
      reads 0x02 [x, p, t, t', a, a', z, z', m, h, l, g, q] =
        if x = 0 ∨ 128 ≤ x.toNat ∨ (has x 4 ∧ recur m h l = none) ∨ (has x 5 ∧ band g = none) then none
        else some (.amend order e (.fill
          { pump := if has x 0 then some p.toNat else none
            target := if has x 1 then some (two t t') else none
            start := if has x 2 then some (two a a') else none
            stop := if has x 3 then some (two z z') else none
            recur := if has x 4 then recur m h l else none
            band := if has x 5 then band g else none
            priority := if has x 6 then some q.toNat else none }))) ∧
    (fits 11 → ∀ x c t t' a a' z z' m h l : Byte,
      reads 0x02 [x, c, t, t', a, a', z, z', m, h, l] =
        if x = 0 ∨ 32 ≤ x.toNat ∨ (has x 4 ∧ recur m h l = none) then none
        else some (.amend order e (.heat
          { circuit := if has x 0 then some c.toNat else none
            hold := if has x 1 then some (signed t t') else none
            start := if has x 2 then some (two a a') else none
            stop := if has x 3 then some (two z z') else none
            recur := if has x 4 then recur m h l else none }))) ∧
    (fits 5 → ∀ x n k r y : Byte,
      reads 0x02 [x, n, k, r, y] =
        if x = 0 ∨ 8 ≤ x.toNat ∨ (has x 2 ∧ contents y = none) then none
        else some (.amend order e (.report
          { slot := if has x 0 then some n.toNat else none
            code := if has x 1 then some (k.toNat, r.toNat) else none
            contents := if has x 2 then contents y else none }))) ∧
    (∀ b : List Byte, b.length ∉ [13, 11, 5] ∨ ¬ fits b.length → reads 0x02 b = none) ∧
    -- the requests without a body
    (∀ p ∈ [(0x03, Request.retire order e), (0x04, .look order), (0x05, .list order), (0x14, .readTariff), (0x21, .lock),
        (0x24, .acknowledge)],
      reads p.1 [] = some p.2 ∧ ∀ b : List Byte, b ≠ [] → reads p.1 b = none) ∧
    -- the requests with a body of one length
    (∀ n : Byte, reads 0x10 [n] = if 1 ≤ n.toNat ∧ n.toNat ≤ 7 then some (.readTower n.toNat) else none) ∧
    (∀ i a b c d : Byte, reads 0x12 [i, a, b, c, d] =
      some (.writeGuard i (BitVec.ofNat 32 (two a b * 65536 + two c d)))) ∧
    (∀ d d' m m' x : Byte, reads 0x15 [d, d', m, m', x] = some (.setClock (two d d') (two m m') x.toNat)) ∧
    (∀ a b c d : Byte, reads 0x20 [a, b, c, d] = some (.unlock (BitVec.ofNat 32 (two a b * 65536 + two c d)))) ∧
    (∀ p o : Byte, reads 0x22 [p, o] = some (.pumpService p.toNat o.toNat)) ∧
    (∀ c : Byte, reads 0x23 [c] = some (.circuitReset c.toNat)) ∧
    (∀ a b c : Byte,
      let n := a.toNat * 65536 + two b c
      reads 0x30 [a, b, c] = (if n < 131072 then some (.clearEvents (BitVec.ofNat 17 n)) else none) ∧
      reads 0x31 [a, b, c] = (if n < 131072 then some (.setEventEnables (BitVec.ofNat 17 n)) else none)) ∧
    (∀ p ∈ ([(0x10, 1), (0x12, 5), (0x15, 5), (0x20, 4), (0x22, 2), (0x23, 1), (0x30, 3), (0x31, 3)] : List (Nat × Nat)),
      ∀ b : List Byte, b.length ≠ p.2 → reads p.1 b = none) ∧
    -- READ GUARD and SET TARIFF
    (∀ b : List Byte, reads 0x11 b =
      if 1 ≤ b.length ∧ b.length ≤ 16 ∧ ∀ i ∈ b, (guardFieldOfId i).isSome = true then some (.readGuard b) else none) ∧
    (∀ (n : Byte) (es : List (Byte × Byte × Byte)),
      reads 0x13 (n :: es.flatMap (fun x => [x.1, x.2.1, x.2.2])) =
        if n.toNat = es.length ∧ ∀ x ∈ es, x.2.2.toNat ≤ 2 then
          some (.setTariff (es.map (fun x => { start := two x.1 x.2.1, band := x.2.2.toNat })))
        else none) ∧
    ∀ b : List Byte, b.length % 3 ≠ 1 → reads 0x13 b = none

/-! ### The district link -/

/-- The line: a start byte heard while hunting, an assembly cut short or timed out, and a frame that is discarded or ignored (R154, R155,
R156). The check of the nine characters is 29B1h, and every frame the part builds ends in the check of its own bytes (R155, R161). The two
rows of a frame that has no effect are judged alike by the frame they carry (log entry 21), and a start byte, a cut or a gap outside its
line state changes nothing (log entry 27). -/
def Obligations.LineHearsAndChecks : Prop :=
  (∀ (f : Frame) (s : State),
    let quieted := { s with link := { s.link with line := .quiet, assembly := [] } }
    (s.link.line = .quiet →
      exec .frameStart s = .next { s with link := { s.link with line := .receiving, assembly := [0xC5] } }) ∧
    (s.link.line ≠ .quiet → exec .frameStart s = .next s) ∧
    (s.link.line = .receiving → exec .frameCutShort s = .next quieted ∧ exec .byteGapTimeout s = .next quieted) ∧
    (s.link.line ≠ .receiving → exec .frameCutShort s = .next s ∧ exec .byteGapTimeout s = .next s) ∧
    (s.link.line = .sending → exec (.discardedFrame f) s = .next (finish s) ∧ exec (.ignoredFrame f) s = .next (finish s)) ∧
    (s.link.line ≠ .sending →
      frameCheckOk f = false ∨ (f.kind ≠ 1 ∧ f.kind ≠ 2) ∨ (f.kind = 1 ∧ (f.dest ≠ 255 ∨ f.src ≠ 0)) ∨
        (f.kind = 2 ∧ (f.dest.toNat ≠ s.gs.towerAddress ∨ f.src ≠ 0)) →
      exec (.discardedFrame f) s = .next (finish quieted) ∧ exec (.ignoredFrame f) s = .next (finish quieted))) ∧
  Wire.crc16 [0x31, 0x32, 0x33, 0x34, 0x35, 0x36, 0x37, 0x38, 0x39] = 0x29B1 ∧
  ∀ (dest src kind seq : Byte) (body : List Byte),
    let covered := [dest, src, kind, seq, BitVec.ofNat 8 body.length] ++ body
    frameBytes dest src kind seq body =
      [0xC5] ++ covered ++
        [BitVec.ofNat 8 ((Wire.crc16 covered).toNat / 256), BitVec.ofNat 8 (Wire.crc16 covered).toNat] ∧
    frameCheckOk { dest := dest, src := src, kind := kind, seq := seq, body := body, check := Wire.crc16 covered } = true

/-- An opener accepted makes trust SYNCED, takes the rank and the round period, hands its time to the clock, and opens the round: the
plan built from the book, the answer slot fixed, the unlock and refusal rounds counted down and a pending answer due (R35, R37, R38, R157,
R158, R175, R180). A frame due is dropped unsent, but for one whose instant of sending is the opener's own end, which R170's fifth row has
sent (log entry 47). One not accepted, or out of range, opens none; it has moved the crystal to its instant (log entry 9). A body that has
not 10 bytes is no opener (R199). The model's choices: a worse head's opener that ends at the very instant the round period passes is
accepted or not by a free value (log entry 53, for R170's last row), SYNCED without a last opener, which no run from reset reaches, accepts
(log entry 51), the change of trust is announced after what the adopted time brings (log entry 39), and the plan's entries stand in the
order of the book's records (log entry 48). -/
def Obligations.OpenerJudged : Prop :=
  (∀ (instant : Nat) (f : Frame) (o : OpenerFields) (s : State), s.link.line ≠ .sending → frameCheckOk f = true →
    f.kind = 1 → f.dest = 255 → f.src = 0 → openerFields f.body = some o →
    let c := s.clock
    let s0 := { reachInstant instant s with
      link := { s.link with line := .quiet, assembly := [] }
      choice := s.choice / 2 }
    let u := receiveFrame instant f (reachInstant instant s)
    let accepted := c.trust ≠ .synced ∨ o.rank ≤ c.rank ∨ c.lastOpener = none ∨
      ∃ t, c.lastOpener = some t ∧
        (c.roundPeriod < instant - t ∨ (instant - t = c.roundPeriod ∧ s.choice % 2 = 0))
    let inRange :=
      o.round ≤ 63 ∧ o.rank ≤ 7 ∧ 250 ≤ o.slotLength ∧ o.slotLength ≤ 2000 ∧ o.minute ≤ 1439 ∧ o.second ≤ 59
    (accepted → inRange →
      exec (.opener instant f) s = .next (finish u) ∧
      u.clock.trust = .synced ∧ u.clock.rank = o.rank ∧ u.clock.lastOpener = some instant ∧ u.clock.holdover = 0 ∧
      (c.trust ≠ .synced → u.clock.roundPeriod = c.roundPeriod) ∧
      (∀ t, c.trust = .synced → c.lastOpener = some t →
        u.clock.roundPeriod = min 4294967295 (max 1 (instant - t))) ∧
      (c.trust ≠ .synced ∨ o.rank ≠ c.rank → eventIsSet .time u = true) ∧
      (∃ v : State,
        v.clock =
          { s0.clock with
            trust := .synced, rank := o.rank, lastOpener := some instant, holdover := 0, roundPeriod := u.clock.roundPeriod,
            band := if c.trust = .free then calendarBand c.minute s.store.calendar else c.band } ∧
        v.book = s.book ∧ v.pumps = s.pumps ∧ v.gs = s.gs ∧ v.store = s.store ∧ v.agenda = s.agenda ∧
        v.choice = s.choice / 2 ∧
        u.clock = (adoptTime o.day o.minute o.second o.timeSet v).clock ∧
        u.book = (adoptTime o.day o.minute o.second o.timeSet v).book ∧
        u.agenda =
          (adoptTime o.day o.minute o.second o.timeSet v).agenda ++ (if c.trust = .synced then [] else [.evalFill])) ∧
      u.link.round = some { count := o.round, slotLength := o.slotLength, start := instant, begun := 1 } ∧
      u.link.answerSlot = some s.gs.answerSlot ∧ u.link.line = .quiet ∧
      (s.link.frameDue = none → u.link.frameDue = none) ∧
      (∀ d, s.link.frameDue = some d →
        (d.due ≠ instant → u.link.frameDue = none) ∧
        (d.due = instant → ∃ k, u.link.frameDue = some { d with content := k } ∧
          (k = d.content ∨ ∃ n round, d.content = .report (some n) round ∧ k = .report none round))) ∧
      u.link.plan =
        u.book.records.filterMap (fun r => match r.body with
          | .report q => if o.round % 2 ^ q.k = q.r then some (q.slot, r.number) else none
          | _ => none) ∧
      (finish u).remote =
        { answer := s.remote.answer.map (fun a => { a with heldOver := false })
          unlocked := s.remote.unlocked && decide (1 < s.remote.unlockLeft)
          unlockLeft := if s.remote.unlocked then s.remote.unlockLeft - 1 else s.remote.unlockLeft
          refusalLeft := s.remote.refusalLeft - 1 }) ∧
    (¬ (accepted ∧ inRange) → exec (.opener instant f) s = .next (finish s0))) ∧
  (∀ n d d' m m' x k g l l' : Byte,
    openerFields [n, d, d', m, m', x, k, g, l, l'] =
      some { round := n.toNat, day := d.toNat * 256 + d'.toNat, minute := m.toNat * 256 + m'.toNat, second := x.toNat,
             rank := k.toNat, timeSet := decide (g.toNat % 2 = 1), slotLength := l.toNat * 256 + l'.toNat }) ∧
  ∀ (instant : Nat) (f : Frame) (s : State), s.link.line ≠ .sending → frameCheckOk f = true → f.kind = 1 →
    f.dest = 255 → f.src = 0 → f.body.length ≠ 10 →
    exec (.opener instant f) s =
      .next (finish { reachInstant instant s with link := { s.link with line := .quiet, assembly := [] } })

/-- A REQUEST frame for the tower: outside slot 1, or not in SYNCED, it is ignored; against a pending answer its sequence becomes the
refused sequence and nothing is carried out; else it is read as CabinetFrameEnds states it, and carried out whole, its effect on the tower
and its REMOTE event included, and leaves the answer; a code not permitted over the link is NOT_HERE, and a body of fewer than four bytes
or of another form INVALID (R173, R174, R175, R176, R199). The frame's end moves the crystal (log entry 9), an empty body answers with
request code 00h (log entry 16), and the answer is held over by the slots the model counts as begun (log entry 20). -/
def Obligations.RequestFrameTaken : Prop :=
  ∀ (instant : Nat) (x : Sample) (f : Frame) (s : State), s.link.line ≠ .sending → frameCheckOk f = true → f.kind = 2 →
    f.dest.toNat = s.gs.towerAddress → f.src = 0 →
    let s0 := { takeSample x (reachInstant instant s) with link := { s.link with line := .quiet, assembly := [] } }
    let inSlot := s.clock.trust = .synced ∧
      ∃ r, s.link.round = some r ∧ r.start + r.slotLength ≤ instant ∧ instant ≤ r.start + 2 * r.slotLength
    let leaves := fun (u : State) (r : Response) =>
      exec (.requestFrame instant x f) s =
        .next (finish { u with
          remote := { u.remote with
            answer := some { seq := f.seq, code := (f.body[0]?).getD 0, response := r, refused := none,
                             heldOver := answerSlotBegun s } } })
    (¬ inSlot → exec (.requestFrame instant x f) s = .next (finish s0)) ∧
    (inSlot → ∀ a, s.remote.answer = some a →
      exec (.requestFrame instant x f) s =
        .next (finish { s0 with remote := { s.remote with answer := some { a with refused := some f.seq } } })) ∧
    (inSlot → s.remote.answer = none →
      let refused := fun (c : ResultCode) => leaves { s0 with lastResult := some (plain c) } (plain c)
      let permitted : List Nat := [0x01, 0x02, 0x03, 0x04, 0x05, 0x10, 0x11, 0x12, 0x13, 0x14, 0x20, 0x21, 0x22, 0x23]
      (f.body = [] → refused .notHere) ∧
      ∀ (k : Byte) (rest : List Byte), f.body = k :: rest →
        (k.toNat ∉ permitted → refused .notHere) ∧
        (k.toNat ∈ permitted → rest.length < 3 → refused .invalid) ∧
        ∀ (flags order expected : Byte) (b : List Byte), k.toNat ∈ permitted → rest = flags :: order :: expected :: b →
          let request := parseRequest s0 k.toNat flags.toNat order.toNat expected.toNat b
          (request = none → refused .invalid) ∧
          ∀ q, request = some q →
            leaves (takeRequest .district q s0) (carryOut .district q s0).2 ∧
            (takeRequest .district q s0).lastResult = some (carryOut .district q s0).2)

/-- A report is built at its slot's start only while its order is live, SYNCED and with the line QUIET, held 20 ms, sent under the same
two conditions, and at its end recorded with the sequence advanced; the answer is built at the answer slot under the same conditions, with
guard-set values as 0 while the link is locked, and its end empties the answer record (R160, R161, R163, R164, R175, R177). A slot begins
once (log entry 20). -/
def Obligations.SlotsSendFrames : Prop :=
  ∀ s : State,
    let free := s.clock.trust = .synced ∧ s.link.line = .quiet
    let address := BitVec.ofNat 8 s.gs.towerAddress
    (∀ (slot : Nat) (r : Round), s.link.round = some r → r.begun ≤ slot → slot ≤ 31 →
      ∃ t, exec (.slotStart slot) s = .next t ∧ t.link.round = some { r with begun := slot + 1 } ∧
        (∀ n, s.link.plan.find? (fun e => e.1 = slot) = some (slot, n) →
          (∀ x q, findRecord n s = some x → x.body = .report q → free →
            t.link.frameDue = some
              { slot := slot, due := r.start + slot * r.slotLength + 20, content := .report (some n) r.count,
                bytes := frameBytes 0 address 3 (BitVec.ofNat 8 s.link.sequence) (reportBody s n r.count q.contents) }) ∧
          (¬ free ∨ (∀ x q, findRecord n s = some x → x.body ≠ .report q) → t.link.frameDue = s.link.frameDue)) ∧
        (s.link.plan.find? (fun e => e.1 = slot) = none →
          (∀ a, s.link.answerSlot = some slot → s.remote.answer = some a → a.heldOver = false → free →
            t.link.frameDue = some
              { slot := slot, due := r.start + slot * r.slotLength + 20, content := .answer,
                bytes := frameBytes 0 address 4 a.seq
                  ([a.code, BitVec.ofNat 8 (resultCode a.response.code)] ++
                    (match a.refused with
                     | none => [0, 0]
                     | some b => [1, b]) ++
                    (if s.remote.unlocked then a.response.body else a.response.masked)) }) ∧
          (s.link.answerSlot ≠ some slot ∨ s.remote.answer = none ∨
              (∃ a, s.remote.answer = some a ∧ a.heldOver = true) ∨ ¬ free →
            t.link.frameDue = s.link.frameDue)) ∧
        t.book = s.book ∧ t.remote = s.remote ∧ t.link.sequence = s.link.sequence) ∧
    (∀ (slot : Nat), s.link.round = none ∨ 31 < slot ∨ (∃ r, s.link.round = some r ∧ slot < r.begun) →
      exec (.slotStart slot) s = .next s) ∧
    (∀ f, s.link.frameDue = some f →
      ∃ t, exec .instantOfSending s = .next t ∧ t.link.frameDue = none ∧
        (free → t.link.line = .sending ∧ t.link.sending = some f) ∧
        (¬ free → t.link.line = s.link.line ∧ t.link.sending = s.link.sending)) ∧
    (∀ f, s.link.line = .sending → s.link.sending = some f →
      ∃ t, exec .transmissionEnd s = .next t ∧ t.link.line = .quiet ∧ t.link.sending = none ∧
        (f.content = .answer → t.remote = { s.remote with answer := none } ∧ t.link.sequence = s.link.sequence ∧
          t.book = s.book) ∧
        (∀ n round, f.content = .report n round →
          t.remote = s.remote ∧ t.link.sequence = (s.link.sequence + 1) % 256 ∧
          (n = none → t.book = s.book) ∧
          ∀ k r q, n = some k → findRecord k s = some r → r.body = .report q →
            findRecord k t = some { r with body := .report { q with lastSent := some round } }))

/-- A REPORT body is the order's number, the round count, the set of its contents and one section for each selector in canonical order,
each section filled from the owning blocks with the bytes of chapter 12.2 (R165, R166, R167, R168). A yes is carried as 1 (log entry
49). -/
def Obligations.ReportCarriesSections : Prop :=
  ∀ s : State,
    let byte := fun (n : Nat) => ([BitVec.ofNat 8 n] : List Byte)
    let two := fun (n : Nat) => ([BitVec.ofNat 8 (n / 256), BitVec.ofNat 8 n] : List Byte)
    let code := fun (x : Option Nat) => match x with
      | none => ([0xFF] : List Byte)
      | some n => [BitVec.ofNat 8 n]
    let yes := fun (b : Bool) => ([if b then 1 else 0] : List Byte)
    let count := fun (p : Record → Bool) => byte (s.book.records.countP p)
    let fills := fun (st : FillState) (h : Option Hold) (r : Record) => match r.body with
      | .fill f => r.origin ≠ .system && f.state = st && (h.isNone || f.hold = h)
      | _ => false
    let holds := [Hold.band, .allowance, .guard, .level, .pump, .supply, .valve, .time]
    let system := fun (n : Nat) => match findFill n s with
      | none => ([0xFF, 0xFF] : List Byte)
      | some f => byte (fillStateCode f.state) ++ code (f.hold.map holdCode)
    let counts := s.book.outcomes
    (∀ (n round : Nat) (contents : List Selector),
      reportBody s n round contents =
        byte n ++ byte round ++
          byte (((inOrder contents).map (fun x => 2 ^ selectorBit x)).sum) ++ (inOrder contents).flatMap (section_ s)) ∧
    section_ s .level =
      (match filtered s with
       | none => [0xFF, 0xFF]
       | some l => two l) ++
      (match s.level.trend with
       | none => [0x80, 0x00]
       | some t => two (BitVec.ofInt 16 t).toNat) ∧
    section_ s .guard = byte (guardStateCode s.guard.state) ++ two s.guard.ceiling ∧
    section_ s .pumps =
      ([0, 1, 2] : List (Fin 3)).flatMap (fun p =>
        byte (pumpStateCode (s.pumps.get p).state) ++ code ((s.pumps.get p).cause.map causeCode)) ++
      byte (valveStateCode s.valve.state) ∧
    section_ s .frost =
      ([0, 1, 2, 3, 4, 5, 6, 7] : List (Fin 8)).flatMap (fun c => byte (circuitStateCode (s.frost.circuits.get c).state)) ++
      byte (if s.frost.pipe.isSome then 0 else 1) ∧
    section_ s .orders =
      [FillState.pending, .due, .starting, .running, .suspended, .served, .retiring].flatMap
          (fun st => count (fills st none)) ++
        holds.flatMap (fun h => count (fills .due (some h))) ++
        holds.flatMap (fun h => count (fills .suspended (some h))) ++
        count (fills .starting (some .supply)) ++ count (fills .starting (some .pump)) ++
        [HeatState.pending, .active, .served].flatMap (fun st => count (fun r => match r.body with
          | .heat h => h.state = st
          | _ => false)) ++
        count (fun r => match r.body with
          | .report _ => true
          | _ => false) ++
        byte counts.reached ++ byte counts.windowClosed ++ byte counts.missed ++ byte counts.cut ++ byte counts.noFlow ++
        byte counts.pumpFault ++ byte counts.interrupted ++ system 240 ++ system 241 ∧
    (section_ s .orders).length = 40 ∧
    section_ s .tally =
      two s.clock.tally ++ (if s.remote.unlocked then two s.gs.allowance else [0, 0]) ++ yes s.clock.reachedToday ++
        byte (bandCode s.clock.band) ++ byte (trustCode s.clock.trust) ∧
    section_ s .events =
      [BitVec.ofNat 8 (s.events.toNat / 65536), BitVec.ofNat 8 (s.events.toNat / 256), BitVec.ofNat 8 s.events.toNat]

/-! ### Filling -/

/-- The effective target is the lesser of the target and the effective ceiling less the approach band, and the level reaches it while
valid (R52). An order's hold is the first condition of R53 that applies, and an evaluation with nothing to change writes it: with none
before PUMP, the last holder keeps the cause its run ended with while its pump finishes, and any other shows PUMP; an order in STARTING
shows SUPPLY in CLAIMING and PUMP between two attempts (R53, R54). LEVEL holds in BLIND too (log entry 33), and TIME reads the marks alone
(log entry 37). -/
def Obligations.HoldsAndTargets : Prop :=
  ∀ s : State,
    let g := s.guard.state
    let m := s.clock.minute
    (∀ (n : Nat) (f : FillRecord),
      let guardHolds := g = .near ∨ g = .tripped ∨ g = .latched ∨ g = .containment
      let levelHolds := filtered s = none ∨ g = .blind
      let valveHolds := s.valve.state ≠ .isOpen
      let timeHolds := (f.band ≠ .any ∧ s.clock.trust = .free) ∨ ∃ w, f.window = some w ∧ (m < w.start ∨ w.stop ≤ m)
      let bandHolds := (f.band = .nightOnly ∧ s.clock.band ≠ .night) ∨ (f.band = .nightShoulder ∧ s.clock.band = .day)
      let allowanceHolds := s.clock.band ≠ .night ∧ n ≠ 240 ∧ s.gs.allowance ≤ s.clock.tally
      effectiveTarget s f = min f.target (s.guard.ceiling - s.gs.approachBand) ∧
      (targetReached s f = true ↔ ∃ l, filtered s = some l ∧ effectiveTarget s f ≤ l) ∧
      (guardHolds → firstHold s n f = some .guard) ∧
      (¬ guardHolds → levelHolds → firstHold s n f = some .level) ∧
      (¬ guardHolds → ¬ levelHolds → valveHolds → firstHold s n f = some .valve) ∧
      (¬ guardHolds → ¬ levelHolds → ¬ valveHolds → timeHolds → firstHold s n f = some .time) ∧
      (¬ guardHolds → ¬ levelHolds → ¬ valveHolds → ¬ timeHolds → bandHolds → firstHold s n f = some .band) ∧
      (¬ guardHolds → ¬ levelHolds → ¬ valveHolds → ¬ timeHolds → ¬ bandHolds → allowanceHolds →
        firstHold s n f = some .allowance) ∧
      (¬ guardHolds → ¬ levelHolds → ¬ valveHolds → ¬ timeHolds → ¬ bandHolds → ¬ allowanceHolds →
        firstHold s n f = none)) ∧
    (BookFits s → (∀ r ∈ s.book.records, recordAction s r = none) →
      (∀ (p : Fin 3) (n : Nat) (f : FillRecord), pumpIdle s p = true → ¬ ReadyFor s p n f) →
      let v := handle .evalFill s
      v = { s with book := { s.book with records := v.book.records }, agenda := v.agenda } ∧
      (∀ n, findRecord n s = none → findRecord n v = none) ∧
      ∀ n r, findRecord n s = some r →
        ((∀ f, r.body ≠ .fill f) → findRecord n v = some r) ∧
        ∀ f, r.body = .fill f →
          let holding := fun (h : Option Hold) => findRecord n v = some { r with body := .fill { f with hold := h } }
          let q := (s.pumps.get f.pump).state
          let a := s.fill.get f.pump
          let finishing := a.lastHolder = some n ∧ (q = .stopping ∨ q = .lockout)
          (f.state = .due ∨ f.state = .suspended →
            (∀ h, firstHold s n f = some h → holding (some h)) ∧
            (firstHold s n f = none → finishing → holding (some (a.lastCause.getD .pump))) ∧
            (firstHold s n f = none → ¬ finishing → holding (some .pump))) ∧
          (f.state = .starting →
            (q = .claiming → holding (some .supply)) ∧ (q = .stopping ∨ q = .lockout → holding (some .pump)) ∧
            (q ≠ .claiming → q ≠ .stopping → q ≠ .lockout → holding none)) ∧
          (f.state ≠ .due → f.state ≠ .suspended → f.state ≠ .starting → findRecord n v = some r))

/-- An idle pump is handed to the ready order that the comparisons of R55 put before every other, which are never at a tie; the order
enters STARTING as the pump's holder, and the pump claims its rating in the order's class (R55, R56). Pumps are handed in ascending number,
one an evaluation (log entry 25). -/
def Obligations.PumpHanded : Prop :=
  (∀ (n k : Nat) (f g : FillRecord), n ≠ k →
    (RanksBefore n f k g ∨ RanksBefore k g n f) ∧ ¬ (RanksBefore n f k g ∧ RanksBefore k g n f)) ∧
  ∀ (s : State) (p : Fin 3) (n : Nat) (f : FillRecord), BookFits s →
    (∀ r ∈ s.book.records, recordAction s r = none) → pumpIdle s p = true → ReadyFor s p n f →
    (∀ (k : Nat) (g : FillRecord), ReadyFor s p k g → k ≠ n → RanksBefore n f k g) →
    (∀ (q : Fin 3) (k : Nat) (g : FillRecord), q < p → pumpIdle s q = true → ¬ ReadyFor s q k g) →
    let cls : ClaimClass := if n = 240 then .reserve else if n = 241 then .turnover else .fill
    let v := handle .evalFill s
    let q := v.pumps.get p
    findFill n v = some { f with state := .starting, hold := some .supply } ∧
    (∀ k, k ≠ n → findRecord k v = findRecord k s) ∧
    v.fill = s.fill.set p { holder := some n, lastHolder := none, lastCause := none, noFlow := none } ∧
    pumpsFluid q.state = true ∧ (q.state ≠ .running → q.pendingStart = some cls) ∧
    (hasClaim (.pump p) s = false → ∃ c ∈ v.arbiter.waiting ++ v.arbiter.granted,
      c.claimant = .pump p ∧ c.units = s.gs.rating.get p ∧ c.cls = cls)

/-- What an evaluation finds to do to one order: the end of a run by the first line of R61 that applies, or a run its channel no longer
pursues (R57); REACHED before any hold for a waiting order (R52), a system order cut in any state (R66) and moved off a failed pump (R71).
It acts on the first order in ascending number (log entry 25). An order resting from a supply reclaim is cut too (log entry 12), REACHED is
judged before the move (log entry 14), and a run no longer pursued is suspended with PUMP (log entry 23). -/
def Obligations.RunsJudged : Prop :=
  ∀ s : State,
    let m := s.clock.minute
    let cut := s.guard.state = .tripped ∨ s.guard.state = .latched ∨ s.guard.state = .containment
    let away := fun (p : Fin 3) => (s.pumps.get p).state = .faulted ∨ (s.pumps.get p).state = .outOfService
    (∀ (r : Record) (f : FillRecord), r.body = .fill f →
      let a := recordAction s r
      let q := s.pumps.get f.pump
      let failed := q.state = .faulted ∨
        (q.state = .stopping ∧ (q.stopCause = .overload ∨ (f.state = .starting ∧ q.stopCause = .noStart)))
      let out := q.state = .outOfService
      let reached := targetReached s f = true
      let ended := r.origin ≠ .system ∧ ∃ w, f.window = some w ∧ w.stop ≤ m
      let early := r.origin ≠ .system ∧ ∃ w, f.window = some w ∧ m < w.start
      let lost := q.state = .stopped ∨ (q.state = .lockout ∧ q.pendingStart = none) ∨
        (q.state = .stopping ∧ q.stopCause ≠ .retry)
      let cutWaiting := cut ∧ (r.origin = .system ∨
        (f.state = .suspended ∧ restingAsLast s r.number f = true ∧ (s.fill.get f.pump).lastCause = some .supply))
      (f.state = .starting ∨ f.state = .running →
        (cut → a = some (.serve .cut)) ∧
        (¬ cut → failed → a = some .pumpFault) ∧
        (¬ cut → ¬ failed → out → a = some .endStart) ∧
        (¬ cut → ¬ failed → ¬ out → reached → a = some (.serve .reached)) ∧
        (¬ cut → ¬ failed → ¬ out → ¬ reached → ended → a = some (.serve (closingOutcome f))) ∧
        (¬ cut → ¬ failed → ¬ out → ¬ reached → ¬ ended → early → a = some (.suspend .time)) ∧
        (¬ cut → ¬ failed → ¬ out → ¬ reached → ¬ ended → ¬ early →
          (∀ h, firstHold s r.number f = some h → a = some (.suspend h)) ∧
          (firstHold s r.number f = none → lost → a = some (.suspend .pump)) ∧
          (firstHold s r.number f = none → ¬ lost → a = none))) ∧
      (f.state = .due ∨ f.state = .suspended →
        (cutWaiting → a = some (.serve .cut)) ∧
        (¬ cutWaiting → reached → a = some (.serve .reached)) ∧
        (¬ cutWaiting → ¬ reached → r.origin = .system → away f.pump →
          (∀ p : Fin 3, ¬ away p → (∀ x : Fin 3, x < p → away x) → a = some (.movePump p)) ∧
          ((∀ p : Fin 3, away p) → a = none)) ∧
        (¬ cutWaiting → ¬ reached → r.origin ≠ .system ∨ ¬ away f.pump → a = none)) ∧
      (f.state = .pending ∨ f.state = .served ∨ f.state = .retiring → a = none)) ∧
    (∀ r : Record, (∀ f, r.body ≠ .fill f) → recordAction s r = none) ∧
    ∀ (pre post : List Record) (r : Record) (a : FillAction), s.book.records = pre ++ r :: post →
      (∀ x ∈ pre, recordAction s x = none) → recordAction s r = some a → handle .evalFill s = actOn r a s

/-- What a service, a suspension and a start that ends do: the record served, suspended or returned, with the staged amendment applied and
judged (R20, R62, R67); the outcome counted and OUTCOME set (R26); the pump stopped and its holder gone, the order the last holder while
the channel finishes (R49), with the cause of a run that ended in SUSPENDED or DUE (R54). Running confirmed makes the run and its context
(R58), and a channel's drop, reclaim and rest are taken (R22, R64, R65). A staged amendment applied at a boundary is judged by R16 at once
(log entry 22). -/
def Obligations.RunsEnd : Prop :=
  (∀ (s : State) (n : Nat) (r : Record) (f : FillRecord), findRecord n s = some r → r.body = .fill f →
    let d := s.clock.day
    let m := s.clock.minute
    let released := fun (u : State) =>
      inRun f = true →
        let q := (u.pumps.get f.pump).state
        pumpsFluid q = false ∧ (u.fill.get f.pump).holder = none ∧ (u.fill.get f.pump).noFlow = none ∧
        (findRecord n u ≠ none → (q = .stopping ∨ q = .lockout → (u.fill.get f.pump).lastHolder = some n) ∧
          (q ≠ .stopping → q ≠ .lockout → (u.fill.get f.pump).lastHolder = none))
    (∀ o : Served,
      let u := serveFill n o s
      findRecord n u = servedRecord d o r (if inRun f then applyStaged f else f) ∧
      (∀ k, k ≠ n → findRecord k u = findRecord k s) ∧ released u ∧
      u.pumps = (if inRun f then stopCommand f.pump false s else s).pumps ∧
      u.book.outcomes = (if r.origin = .system then s.book.outcomes else addOutcome o s.book.outcomes) ∧
      (o ≠ .reached → eventIsSet .outcome u = true) ∧ .served (f.context.map (·.first)) ∈ u.agenda) ∧
    (∀ (h : Hold) (back : Bool), inRun f = true →
      let u := suspendFill n h back s
      findRecord n u = suspendedRecord d m h back r f ∧ (∀ k, k ≠ n → findRecord k u = findRecord k s) ∧ released u ∧
      ((∀ c, f.context = some c → c.interruptions < 7) →
        u.pumps = (stopCommand f.pump false s).pumps ∧
        ((u.fill.get f.pump).lastHolder = some n →
          (u.fill.get f.pump).lastCause = if f.context = none ∧ back = true then none else some h))) ∧
    (inRun f = true →
      let u := endStart n s
      let g := { applyStaged f with state := if f.context.isSome then FillState.suspended else .due, hold := some .pump }
      findRecord n u = (if f.staged.isSome then rejudged d m r g else some { r with body := .fill g }) ∧
      (u.fill.get f.pump).holder = none ∧ u.pumps = s.pumps) ∧
    (f.staged = none → applyStaged f = f) ∧
    (∀ c w, f.staged = some c → f.window = some w → applyStaged f = { changed c w f with staged := none }) ∧
    ((∃ c, f.context = some c ∧ 0 < c.litres) → closingOutcome f = .windowClosed) ∧
    ((∀ c, f.context = some c → c.litres = 0) → closingOutcome f = .missed) ∧
    actOn r .pumpFault s = (if r.origin = .system then newPump r.number false s else serveFill r.number .pumpFault s) ∧
    ∀ p : Fin 3, (s.fill.get p).holder = some n →
      (f.state = .starting →
        let v := handle (.runningConfirmed p) s
        (∀ l, filtered s = some l →
          findFill n v = some
            { f with state := .running, hold := none,
                     context := some (f.context.getD { litres := 0, first := l, interruptions := 0 }) }) ∧
        (v.fill.get p).noFlow = some s.gs.noFlowTime ∧ (v.fill.get p).holder = some n) ∧
      (f.state = .running → handle (.feedbackDrop p) s = suspendFill n .pump false s) ∧
      (f.state ≠ .running → handle (.feedbackDrop p) s = s) ∧
      (claimReclaiming p s = true → inRun f = true → handle (.reclaimReport p) s = suspendFill n .supply false s) ∧
      (claimReclaiming p s = false ∨ inRun f = false → handle (.reclaimReport p) s = s) ∧
      (let q := (s.pumps.get p).state
       f.state = .retiring → q = .stopped ∨ q = .lockout ∨ q = .faulted ∨ q = .outOfService →
         findRecord n (handle (.pumpChanged p) s) = none)) ∧
  ∀ c : OutcomeCounts,
    addOutcome .reached c = { c with reached := min 255 (c.reached + 1) } ∧
    addOutcome .windowClosed c = { c with windowClosed := min 255 (c.windowClosed + 1) } ∧
    addOutcome .missed c = { c with missed := min 255 (c.missed + 1) } ∧
    addOutcome .cut c = { c with cut := min 255 (c.cut + 1) } ∧
    addOutcome .noFlow c = { c with noFlow := min 255 (c.noFlow + 1) } ∧
    addOutcome .pumpFault c = { c with pumpFault := min 255 (c.pumpFault + 1) } ∧
    addOutcome .interrupted c = { c with interrupted := min 255 (c.interrupted + 1) }

/-- The windows of FILL and HEAT orders at a minute event and at the day's end (R51, R136), and at a discontinuity, where a run past its
end mark is served and one before its start mark is suspended with TIME (R68, R137). The setpoints follow once every HEAT order has been
judged (log entry 45), and of R16's two lines for an ACTIVE order PENDING comes first (log entry 38). -/
def Obligations.WindowsJudged : Prop :=
  ∀ (m : Nat) (s : State), BookFits s →
    let d := s.clock.day
    let t := s.clock.minute
    let vf := handle (.fillWindows m) s
    let vh := handle (.heatMinute m) s
    let ve := handle (.heatWindows m) s
    let vd := handle .discontinuity s
    (∃ xs, vf.agenda = s.agenda ++ xs ++ [.evalFill]) ∧ (∃ xs, vh.agenda = s.agenda ++ xs ++ [.frostJudge]) ∧
    (.evalFill ∈ vd.agenda) ∧ vh.frost.stagnation = min 4320 (s.frost.stagnation + 1) ∧
    (∀ c : Fin 8, SetpointIs vh c (vh.frost.circuits.get c).setpoint ∧
      SetpointIs ve c (ve.frost.circuits.get c).setpoint ∧ SetpointIs vd c (vd.frost.circuits.get c).setpoint) ∧
    (∀ n, findRecord n s = none →
      findRecord n vf = none ∧ findRecord n vh = none ∧ findRecord n ve = none ∧ findRecord n vd = none) ∧
    ∀ n r, findRecord n s = some r →
      (∀ q, r.body = .report q →
        findRecord n vf = some r ∧ findRecord n vh = some r ∧ findRecord n ve = some r ∧ findRecord n vd = some r) ∧
      (∀ h, r.body = .heat h →
        findRecord n vf = some r ∧ findRecord n vh = heatJudged false d m r h ∧ findRecord n ve = heatJudged false d m r h ∧
        findRecord n vd = heatJudged true d t r h) ∧
      ∀ f, r.body = .fill f →
        findRecord n vf = windowJudged false d m r f ∧ findRecord n vh = some r ∧ findRecord n ve = some r ∧
        (inRun f = false → findRecord n vd = windowJudged true d t r f) ∧
        (inRun f = true → ∀ w, f.window = some w →
          (w.stop ≤ t → findRecord n vd = servedRecord d (closingOutcome f) r (applyStaged f)) ∧
          (t < w.stop → t < w.start → findRecord n vd = suspendedRecord d t .time true r f) ∧
          (t < w.stop → w.start ≤ t → findRecord n vd = some r)) ∧
        (inRun f = true → f.window = none → findRecord n vd = some r)

/-- The system orders: a request places 240 or 241 when it is not live, DUE, on the lowest-numbered pump neither FAULTED nor
OUT_OF_SERVICE or else pump 0 (R13, R69, R70, R71); a withdrawal retires a waiting 241 and leaves a running one (R70, R151); a move changes
the pump alone (R71); one that loses its pump waits again with PUMP on another (R72). -/
def Obligations.SystemOrders : Prop :=
  ∀ s : State,
    let away := fun (p : Fin 3) => (s.pumps.get p).state = .faulted ∨ (s.pumps.get p).state = .outOfService
    let places := fun (note : Note) (n target : Nat) (after : List Note) =>
      (isLive n s = true → handle note s = s) ∧
      (isLive n s = false →
        let v := handle note s
        (∀ k, k ≠ n → findRecord k v = findRecord k s) ∧ v.agenda = s.agenda ++ after ∧
        ∀ p : Fin 3, (¬ away p ∧ ∀ x : Fin 3, x < p → away x) ∨ ((∀ x : Fin 3, away x) ∧ p = 0) →
          findRecord n v = some
            { number := n, origin := .system, revision := 0,
              body := .fill
                { pump := p, target := target, window := none, band := .any, priority := 0, state := .due, hold := none,
                  context := none, outcome := none, servedDay := none, staged := none } })
    places .reserveRequest 240 (s.gs.reserveFloor + s.gs.refillMargin) [.evalFill] ∧
    (∀ t : Nat, places (.turnoverRequest t) 241 t [.evalFill, .frostJudge]) ∧
    (let v := handle .withdrawTurnover s
     (findFill 241 s = none → v = s) ∧
     (∀ f, findFill 241 s = some f →
       (f.state = .due ∨ f.state = .suspended → findRecord 241 v = none ∧ ∀ k, k ≠ 241 → findRecord k v = findRecord k s) ∧
       (f.state ≠ .due → f.state ≠ .suspended → v = s))) ∧
    ∀ (n : Nat) (r : Record) (f : FillRecord), findRecord n s = some r → r.body = .fill f →
      (∀ p : Fin 3, findRecord n (actOn r (.movePump p) s) = some { r with body := .fill { f with pump := p } }) ∧
      ∀ noFlow : Bool,
        let u := newPump n noFlow s
        let q := u.pumps.get f.pump
        (∀ p : Fin 3,
          (p ≠ f.pump ∧ ¬ away p ∧ ∀ x : Fin 3, x < p → x ≠ f.pump → away x) ∨
            ((∀ x : Fin 3, x ≠ f.pump → away x) ∧ p = f.pump) →
          findRecord n u = some
            { r with
              body := .fill { f with
                state := if f.context.isSome then .suspended else .due, hold := some .pump, pump := p } }) ∧
        u.book.outcomes = s.book.outcomes ∧ pumpsFluid q.state = false ∧ (u.fill.get f.pump).holder = none ∧
        (u.fill.get f.pump).noFlow = none ∧
        (u.fill.get f.pump).lastHolder = (if q.state = .stopping ∨ q.state = .lockout then some n else none)

/-- A flow pulse of a RUNNING holder's pump adds the litres, saturating, and restarts the no-flow timer; any other pulse changes nothing
(R59). A no-flow expiry stops a running pump with NO_FLOW; an external order is served with NO_FLOW, and a system order waits again with
PUMP and its outcome as it stood (R60, R67, R72). A timer restarted in the second of the expiry does not expire (log entry 8). -/
def Obligations.FlowAndNoFlow : Prop :=
  (∀ (p : Fin 3) (s : State),
    ((s.fill.get p).holder = none → exec (.flowPulse p) s = .next s) ∧
    (∀ n f, (s.fill.get p).holder = some n → findFill n s = some f →
      (f.state ≠ .running → exec (.flowPulse p) s = .next s) ∧
      (∀ c, f.state = .running → f.context = some c →
        ∃ t, exec (.flowPulse p) s = .next t ∧
          findFill n t = some
            { f with context := some { c with litres := min 16777215 (c.litres + s.gs.litres.get p) } } ∧
          (t.fill.get p).noFlow = some s.gs.noFlowTime ∧ (t.fill.get p).holder = some n ∧
          (∀ m, m ≠ n → findRecord m t = findRecord m s) ∧
          t = { s with book := t.book, fill := t.fill }))) ∧
  ∀ (p : Fin 3) (n : Nat) (o : Origin) (k : Nat) (f : FillRecord) (s : State),
    (s.fill.get p).holder = some n → f.state = .running → f.pump = p →
    findRecord n s = some { number := n, origin := o, revision := k, body := .fill f } →
    let u := takeNoFlow p s
    exec (.noFlowExpiry p) s = .next (finish u) ∧
    ((∀ x, (s.fill.get p).noFlow = some x → s.gs.noFlowTime ≤ x) → u = s) ∧
    ∀ x, (s.fill.get p).noFlow = some x → x < s.gs.noFlowTime →
      (u.fill.get p).holder = none ∧ (u.fill.get p).noFlow = none ∧
      ((s.pumps.get p).state = .running → s.inputs.feedback.get p = true →
        (u.pumps.get p).state = .stopping ∧ (u.pumps.get p).stopCause = .noFlow) ∧
      (o ≠ .system →
        findRecord n u =
          servedRecord s.clock.day .noFlow { number := n, origin := o, revision := k, body := .fill f } (applyStaged f) ∧
        eventIsSet .outcome u = true) ∧
      (o = .system →
        ∃ f', findFill n u = some f' ∧ f'.hold = some .pump ∧ f'.outcome = f.outcome ∧
          f'.state = (if f.context.isSome then .suspended else .due))

/-! ### Pumps and the inlet valve -/

/-- The pump's timers: the dwell confirms a closed contactor, the confirm timer fails the attempt, the stop timer finds a weld, the
lockout frees the channel or claims again (R80, R81, R86, R87). -/
def Obligations.PumpTimersExpire : Prop :=
  ∀ (p : Fin 3) (s : State),
    let q := s.pumps.get p
    (q.state = .starting → q.dwell.isSome = true →
      let u := pumpDwellExpiry p s
      exec (.dwellExpiry p) s = .next (finish u) ∧
      u.pumps.get p =
        (if q.judged then
          { q with state := .running, dwell := none, confirm := none, attempts := 0, pendingStart := none }
         else { q with dwell := none })) ∧
    (q.state = .starting → q.confirm.isSome = true →
      let u := pumpConfirmExpiry p s
      let b := u.pumps.get p
      exec (.confirmExpiry p) s = .next (finish u) ∧ b.attempts = q.attempts + 1 ∧
      (q.attempts + 1 ≤ s.gs.retries →
        b.pendingStart = q.pendingStart ∧ b.state = (if s.inputs.feedback.get p then .stopping else .lockout) ∧
        b.stopCause = (if s.inputs.feedback.get p then .retry else .none)) ∧
      (s.gs.retries < q.attempts + 1 →
        b.pendingStart = none ∧ b.state = (if s.inputs.feedback.get p then .stopping else .faulted) ∧
        (s.inputs.feedback.get p = true → b.stopCause = .noStart) ∧
        (s.inputs.feedback.get p = false → b.cause = some .noStart))) ∧
    (q.state = .stopping → q.stopTimer.isSome = true →
      let u := pumpStopExpiry p s
      exec (.stopTimerExpiry p) s = .next (finish u) ∧ (u.pumps.get p).state = .faulted ∧
      (u.pumps.get p).cause = some .welded ∧ (u.pumps.get p).pendingStart = none ∧
      (u.pumps.get p).judged = q.judged ∧ eventIsSet .pumpFault u = true) ∧
    (q.state = .lockout → q.lockout.isSome = true →
      let u := pumpLockoutExpiry p s
      exec (.lockoutExpiry p) s = .next (finish u) ∧
      (q.pendingStart = none → u.pumps.get p = { q with state := .stopped, lockout := none }) ∧
      (q.pendingStart.isSome = true → pumpsFluid (u.pumps.get p).state = true ∧ (u.pumps.get p).lockout = none))

/-- What a pump channel takes in. Its inputs: the feedback closing and opening and the overload tripping, by the channel's state (R77, R80,
R83, R84, R86, R89). Its commands: a stop command as the table of R85 gives, state by state, with the stop completed at entry where the
feedback is open (R86, R88); a start command as the table of R79 gives; and the grant of its claim, which starts the dwell and confirm
timers and, with a dwell of 0 and the feedback closed, confirms running at once (R80). Each change of state at a command is announced
(R78). -/
def Obligations.PumpInputsTaken : Prop :=
  (∀ (p : Fin 3) (x : Sample) (s : State),
    let q := s.pumps.get p
    let uc := pumpFeedbackCloses p s
    let uo := pumpFeedbackOpens p (takeSample x s)
    let ut := pumpOverloadTrip p s
    let b := uo.pumps.get p
    let d := ut.pumps.get p
    (exec (.feedbackCloses p) s = .next (finish uc) ∧ (finish uc).inputs.feedback.get p = true ∧
      (q.state = .starting → q.dwell = none → (uc.pumps.get p).state = .running ∧ (uc.pumps.get p).attempts = 0 ∧
        (uc.pumps.get p).confirm = none ∧ (uc.pumps.get p).pendingStart = none) ∧
      (q.state = .starting → q.dwell.isSome = true → uc.pumps.get p = { q with judged := true }) ∧
      (q.state ≠ .starting → q.state ≠ .running → q.state ≠ .stopping → uc.pumps = s.pumps)) ∧
    (exec (.feedbackOpens p x) s = .next (finish uo) ∧ (finish uo).inputs.feedback.get p = false ∧
      (q.state = .stopping →
        b.stopTimer = none ∧ b.stopCause = .none ∧
        (q.stopCause = .none ∨ q.stopCause = .retry → b.state = .lockout ∧ b.lockout = some s.gs.lockoutTime) ∧
        (q.stopCause = .noStart → b.state = .faulted ∧ b.cause = some .noStart) ∧
        (q.stopCause = .noFlow → b.state = .faulted ∧ b.cause = some .noFlow) ∧
        (q.stopCause = .overload → b.state = .faulted ∧ b.cause = some .overload)) ∧
      (q.state = .running → x.overload.get p = true → b.state = .faulted ∧ b.cause = some .overload) ∧
      (q.state = .running → x.overload.get p = false →
        b.attempts = q.attempts + 1 ∧ b.pendingStart = none ∧
        b.state = (if q.attempts + 1 ≤ s.gs.retries then .lockout else .faulted)) ∧
      (q.state = .faulted → q.cause = some .welded → q.judged = true →
        b = { q with judged := false } ∧ uo.guard.held.get p = false)) ∧
    (exec (.overloadTrip p) s = .next (finish ut) ∧ d.overload = true ∧
      (q.state = .stopped ∨ q.state = .lockout ∨ q.state = .claiming →
        d.state = .faulted ∧ d.cause = some .overload ∧ d.pendingStart = none ∧ d.lockout = none) ∧
      (q.state = .starting ∨ q.state = .running →
        d.pendingStart = none ∧
        (s.inputs.feedback.get p = true → d.state = .stopping ∧ d.stopCause = .overload) ∧
        (s.inputs.feedback.get p = false → d.state = .faulted ∧ d.cause = some .overload)) ∧
      (q.state = .stopping → d.state = .stopping ∧ d.stopCause = .overload ∧ d.pendingStart = none) ∧
      (q.state = .faulted ∨ q.state = .outOfService → d = { q with overload := true }))) ∧
  ∀ (p : Fin 3) (s : State),
    let q := s.pumps.get p
    let closed := s.inputs.feedback.get p
    let told := fun (b : Pump) (notes : List Note) => { setPump p b s with agenda := s.agenda ++ notes }
    (∀ noFlow : Bool,
      let u := stopCommand p noFlow s
      let stopping : Pump :=
        { q with state := .stopping, pendingStart := none, stopCause := if noFlow then .noFlow else .none, dwell := none,
                 confirm := none, stopTimer := some s.gs.stopConfirmTime, judged := true }
      let stopped : Pump := { stopping with stopCause := .none, stopTimer := none, judged := false }
      (q.state = .claiming →
        u = withdrawClaim (.pump p) (told { q with state := .stopped, pendingStart := none } [.pumpChanged p])) ∧
      (q.state = .starting ∨ q.state = .running →
        (closed = true → u = told stopping [.pumpChanged p]) ∧
        (closed = false → noFlow = false →
          u = releaseClaim (.pump p)
            (told { stopped with state := .lockout, lockout := some s.gs.lockoutTime } [.pumpChanged p, .pumpChanged p])) ∧
        (closed = false → noFlow = true →
          u = releaseClaim (.pump p)
            (setEvent .pumpFault
              (told { stopped with state := .faulted, cause := some .noFlow, lockout := none }
                [.pumpChanged p, .pumpChanged p])))) ∧
      (q.state = .stopping →
        u = setPump p
          { q with pendingStart := none, stopCause := if q.stopCause = .retry then .none else q.stopCause } s) ∧
      (q.state = .lockout → u = setPump p { q with pendingStart := none } s) ∧
      (q.state = .stopped ∨ q.state = .faulted ∨ q.state = .outOfService → u = s)) ∧
    (∀ cls : ClaimClass,
      let u := startCommand p cls s
      (q.state = .stopped →
        u = placeClaim (.pump p) (s.gs.rating.get p) cls
          (told { q with state := .claiming, pendingStart := some cls } [.pumpChanged p])) ∧
      (q.state = .lockout → u = setPump p { q with pendingStart := some cls } s) ∧
      (q.state ≠ .stopped → q.state ≠ .lockout → u = s)) ∧
    let u := takeGrant (.pump p) s
    let dwell := s.gs.dwell.get p
    let starting : Pump :=
      { q with state := .starting, judged := closed, dwell := if dwell = 0 then none else some dwell,
               confirm := some (dwell + s.gs.confirmTime) }
    (q.state = .claiming →
      (dwell ≠ 0 ∨ closed = false → u = told starting [.pumpChanged p]) ∧
      (dwell = 0 → closed = true →
        u = told { starting with state := .running, confirm := none, attempts := 0, pendingStart := none }
          [.pumpChanged p, .runningConfirmed p, .pumpChanged p])) ∧
    (q.state ≠ .claiming → u = s)

/-- The inlet valve's limits and travel timer, by its state (R94). -/
def Obligations.ValveInputsTaken : Prop :=
  ∀ (o c : Bool) (s : State),
    let v := s.valve
    let u := valveLimits o c s
    (exec (.valveLimitChange o c) s = .next (finish u) ∧
      u.inputs = { s.inputs with openLimit := o, closedLimit := c } ∧
      (o = true → c = true → v.state ≠ .fault →
        u.valve.state = .fault ∧ u.valve.travel = none ∧ u.valve.faultDirection = some v.lastTravel ∧
        eventIsSet .valveFault u = true) ∧
      (v.state = .fault → u.valve = v) ∧
      (v.state = .closing → c = true → o = false → s.inputs.closedLimit = false →
        u.valve = { v with state := .closed, travel := none }) ∧
      (v.state = .opening → o = true → c = false → s.inputs.openLimit = false →
        u.valve = { v with state := .isOpen, travel := none }) ∧
      (v.state = .isOpen → s.inputs.openLimit = true → o = false →
        u.valve.state = .opening ∧ u.valve.travel = some s.gs.travelLimit) ∧
      (v.state = .closed → s.inputs.closedLimit = true → c = false →
        u.valve.state = .closing ∧ u.valve.travel = some s.gs.travelLimit)) ∧
    (v.travel.isSome = true → v.state = .opening ∨ v.state = .closing →
      let w := valveTravelExpiry s
      exec .travelTimerExpiry s = .next (finish w) ∧ w.valve.state = .fault ∧ w.valve.travel = none ∧
      w.valve.faultDirection = some (if v.state = .opening then .toOpen else .toClose) ∧
      eventIsSet .valveFault w = true)

/-- The inlet valve takes a close and an open command as the table of R93 gives. Both limits active at a drive fault it at once instead,
as R94 has it in any state other than FAULT (log entry 19). -/
def Obligations.ValveCommandsTaken : Prop :=
  ∀ s : State,
    let v := s.valve
    let bothLimits := s.inputs.openLimit = true ∧ s.inputs.closedLimit = true
    let closing : Valve :=
      { state := .closing, travel := some s.gs.travelLimit, faultDirection := none, lastTravel := .toClose }
    let opening : Valve :=
      { state := .opening, travel := some s.gs.travelLimit, faultDirection := none, lastTravel := .toOpen }
    let faulted := fun (d : Direction) (x : Valve) => { x with state := .fault, travel := none, faultDirection := some d }
    (v.state = .isOpen ∨ v.state = .opening ∨ v.state = .fault →
      (¬ bothLimits → (closeCommand s).valve = closing) ∧
      (bothLimits → (closeCommand s).valve = faulted .toClose closing ∧ eventIsSet .valveFault (closeCommand s) = true)) ∧
    (v.state = .closed ∨ v.state = .closing → closeCommand s = s) ∧
    (v.state = .closed ∨ v.state = .closing ∨ v.state = .fault →
      (¬ bothLimits → (openCommand s).valve = opening) ∧
      (bothLimits → (openCommand s).valve = faulted .toOpen opening ∧ eventIsSet .valveFault (openCommand s) = true)) ∧
    (v.state = .isOpen ∨ v.state = .opening → openCommand s = s)

/-! ### The arbiter -/

/-- The granting walk never lets the units held exceed the supply limit where they did not before (R99). It grants a head that fits, which
leaves the waiting list and enters the granted list at its end (R103); at a head that does not fit it begins a reclaim when the eligible
claims suffice, its victims taken lowest class first and newest first until the need is met and marked RECLAIMING (R104), and else stops;
it does not run while a reclaim is in flight. Each victim is told in that order (log entry 26). -/
def Obligations.WalkGrantsWithinLimit : Prop :=
  (∀ (n : Nat) (s : State), unitSum s.arbiter.granted ≤ s.gs.supplyLimit →
    unitSum (walk n s).arbiter.granted ≤ (walk n s).gs.supplyLimit) ∧
  (∀ (n : Nat) (s : State), s.arbiter.reclaim.isSome = true ∨ s.arbiter.waiting = [] → walk (n + 1) s = s) ∧
  (∀ s : State, freeUnits s = s.gs.supplyLimit - unitSum s.arbiter.granted) ∧
  (∀ (s : State) (cls : ClaimClass), victimOrder s cls =
    [ClaimClass.frost, .fill, .turnover, .critical].flatMap (fun k =>
      s.arbiter.granted.reverse.filter (fun c =>
        c.cls = k && classRank cls < classRank k && !c.reclaiming &&
          pumpNumbers.all (fun p => !(c.claimant = .pump p && (s.pumps.get p).state = .faulted))))) ∧
  ∀ (n : Nat) (s : State) (c : Claim) (rest : List Claim), ClaimsFit s → s.arbiter.reclaim = none →
    s.arbiter.waiting = c :: rest →
    let granted := { s with arbiter := { s.arbiter with waiting := rest, granted := s.arbiter.granted ++ [c] } }
    (c.units ≤ freeUnits s →
      walk (n + 1) s = walk n (takeGrant c.claimant granted) ∧ (takeGrant c.claimant granted).arbiter = granted.arbiter) ∧
    (freeUnits s < c.units → freeUnits s + unitSum (victimOrder s c.cls) < c.units → walk (n + 1) s = s) ∧
    (∀ vs ws : List Claim, freeUnits s < c.units → victimOrder s c.cls = vs ++ ws →
      c.units ≤ freeUnits s + unitSum vs → (∀ k, k < vs.length → freeUnits s + unitSum (vs.take k) < c.units) →
      let ks := vs.map (·.claimant)
      let begun :=
        { s with arbiter := { s.arbiter with
            granted := s.arbiter.granted.map (fun x => if x.claimant ∈ ks then { x with reclaiming := true } else x)
            reclaim := some { serves := c.claimant, need := c.units, victims := ks } } }
      walk (n + 1) s = ks.foldl (fun t k => shedCircuit (walk n) k t) (ks.foldl (fun t k => reportReclaim k t) begun) ∧
      ∀ p : Fin 3, (s.pumps.get p).state = .starting ∨ (s.pumps.get p).state = .running →
        reportReclaim (.pump p) s = { s with agenda := s.agenda ++ [.reclaimReport p] })

/-- Claims come and go: a placed claim takes the arrival sequence and stands behind its class and every higher one, and one of a claimant
that holds a claim is not taken (R97, R98, R100); a withdrawal leaves the list, and that of the served claim ends the reclaim with its
victims GRANTED again (R101, R105); a release counts toward the reclaim, which is complete with its last victim (R102, R104); each is
followed by the walk unless a reclaim is in flight; and a victim found welded is GRANTED again (R106). -/
def Obligations.ClaimsComeAndGo : Prop :=
  ∀ (k : Claimant) (s : State),
    let a := s.arbiter
    let others := fun (l : List Claim) => l.filter (fun x => x.claimant ≠ k)
    (∀ (units : Nat) (cls : ClaimClass),
      (hasClaim k s = true → enterClaim k units cls s = s) ∧
      (hasClaim k s = false → ∀ before after : List Claim, a.waiting = before ++ after →
        (∀ x ∈ before, classRank x.cls ≤ classRank cls) → (∀ x, after.head? = some x → classRank cls < classRank x.cls) →
        placeClaim k units cls s =
          runWalk { s with arbiter := { a with
            waiting := before ++ [{ claimant := k, units := units, cls := cls, seq := a.counter, reclaiming := false }] ++ after
            counter := (a.counter + 1) % 65536 } })) ∧
    (a.reclaim = none → withdrawClaim k s = runWalk { s with arbiter := { a with waiting := others a.waiting } }) ∧
    (∀ r, a.reclaim = some r →
      (r.serves ≠ k → withdrawClaim k s = { s with arbiter := { a with waiting := others a.waiting } }) ∧
      (r.serves = k →
        withdrawClaim k s =
          runWalk { s with arbiter := { a with
            waiting := others a.waiting
            granted := a.granted.map (fun x => { x with reclaiming := false })
            reclaim := none } })) ∧
    (a.reclaim = none → releaseClaim k s = runWalk { s with arbiter := { a with granted := others a.granted } }) ∧
    (∀ r, a.reclaim = some r →
      let left := r.victims.filter (fun x => x ≠ k)
      (left ≠ [] → releaseClaim k s =
        { s with arbiter := { a with granted := others a.granted, reclaim := some { r with victims := left } } }) ∧
      (left = [] → releaseClaim k s =
        runWalk { s with arbiter := { a with granted := others a.granted, reclaim := none } })) ∧
    ∀ p : Fin 3, keepWeldedClaim p s =
      { s with arbiter := { a with
        granted := a.granted.map (fun x => if x.claimant = .pump p then { x with reclaiming := false } else x) } }

/-! ### Level, guard and frost -/

/-- A valid reading joins the window and restarts the timer, a rejected one is counted, and a silence of the timer empties the window;
the filtered level is the mean of four; an update and a loss of the level are announced to the guard, the fill controller and the frost
controller (R111, R112, R113). The sample of a minute gives the trend, held within 2000 (R114). A timer restarted in the second of the
expiry does not expire (log entry 8). -/
def Obligations.LevelReadingsTaken : Prop :=
  ∀ (v : Int) (e : Bool) (s : State), LevelFits s →
    let u := takeLevel v e s
    let w := validityExpiry s
    let told := fun (x : State) => ∃ xs : List Note, xs.Perm [.guardJudge, .evalFill, .frostJudge] ∧ x.agenda = s.agenda ++ xs
    exec (.levelReading v e) s = .next (finish u) ∧ exec .validityTimerExpiry s = .next (finish w) ∧
    (e = false → 0 ≤ v → v ≤ 20000 →
      (finish u).level.timer = some 2 ∧ (finish u).level.rejected = s.level.rejected ∧
      (finish u).level.window =
        (if s.level.window.length = 4 then s.level.window.tail else s.level.window) ++ [v.toNat] ∧
      (3 ≤ s.level.window.length → told u) ∧ (s.level.window.length < 3 → u.agenda = s.agenda)) ∧
    (e = true ∨ v < 0 ∨ 20000 < v →
      u = { s with level := { s.level with rejected := min 65535 (s.level.rejected + 1) } }) ∧
    (∀ n, s.level.timer = some n → n < 2 →
      (finish w).level.timer = none ∧ (finish w).level.window = [] ∧ (finish w).level.rejected = s.level.rejected ∧
      (s.level.window.length = 4 → told w) ∧ (s.level.window.length ≠ 4 → w.agenda = s.agenda)) ∧
    ((∀ n, s.level.timer = some n → 2 ≤ n) → w = s) ∧
    (∀ l, filtered s = some l ↔ ∃ a b c d, s.level.window = [a, b, c, d] ∧ l = (a + b + c + d) / 4) ∧
    let t := handle .sample s
    t = { s with level := { s.level with newSample := filtered s, oldSample := s.level.newSample, trend := t.level.trend } } ∧
    (∀ a b : Nat, filtered s = some a → s.level.newSample = some b →
      t.level.trend = some (max (-2000) (min 2000 ((a : Int) - b)))) ∧
    (filtered s = none ∨ s.level.newSample = none → t.level.trend = none)

/-- The guard judged in NORMAL and NEAR takes the first line of the table of R117; a change of the float input makes it judge. -/
def Obligations.GuardJudgedByTable : Prop :=
  ∀ s : State,
    let ec := s.guard.ceiling
    let a := s.gs.approachBand
    let d := s.gs.disagreement
    let new := (handle .guardJudge s).guard.state
    (s.guard.state = .normal ∨ s.guard.state = .near →
      (s.inputs.float = true → filtered s = none → new = .latched) ∧
      (s.inputs.float = false → filtered s = none → new = .blind) ∧
      (∀ l, filtered s = some l →
        (s.inputs.float = true → l < ec - d → new = .latched) ∧
        (s.inputs.float = true → ec - d ≤ l → new = .tripped) ∧
        (s.inputs.float = false → ec ≤ l → new = .tripped) ∧
        (s.inputs.float = false → l < ec →
          (s.guard.state = .normal → new = (if ec - a ≤ l then .near else .normal)) ∧
          (s.guard.state = .near → new = (if l < ec - a - 50 then .normal else .near))))) ∧
    ∀ b : Bool,
      let u := takeFloat b s
      exec (.floatChange b) s = .next (finish u) ∧ (finish u).inputs = { s.inputs with float := b } ∧
      (b ≠ s.inputs.float → u.agenda = s.agenda ++ [.guardJudge])

/-- The guard outside NORMAL and NEAR: BLIND (R118), TRIPPED with its re-arm (R119), LATCHED and CONTAINMENT standing (R120, R121); what
an entry does to its event, the pumps and the announcements (R122, R123); a weld and the held pumps (R121); the effective ceiling (R115);
the reserve condition after each judgement (R128). At an entry each channel takes its stop in the state it had before, so that a claim in
CLAIMING is withdrawn and never granted; one walk of the arbiter follows them all (R85, R122; log entry 43). -/
def Obligations.GuardElsewhere : Prop :=
  ∀ s : State,
    let ec := s.guard.ceiling
    let l := filtered s
    let float := s.inputs.float
    let v := handle .guardJudge s
    let new := v.guard.state
    let stops := fun (g : GuardState) => g = .blind ∨ g = .tripped ∨ g = .latched ∨ g = .containment
    let stoppedWith := fun (p : Fin 3) (x : State) =>
      x.pumps.get p = stoppedNow s p ∧ pumpsFluid (x.pumps.get p).state = false ∧
      ((s.pumps.get p).state = .claiming → ∀ c ∈ x.arbiter.waiting, c.claimant ≠ .pump p) ∧
      (((s.pumps.get p).state = .starting ∨ (s.pumps.get p).state = .running) → s.inputs.feedback.get p = false →
        (∀ c ∈ s.arbiter.waiting, c.claimant ≠ .pump p) → ∀ c ∈ x.arbiter.granted, c.claimant ≠ .pump p)
    (s.guard.state = .blind →
      (float = true → new = .latched) ∧ (float = false → l = none → new = .blind) ∧
      (∀ x, float = false → l = some x →
        (ec ≤ x → new = .tripped) ∧ (x < ec → ec - s.gs.approachBand ≤ x → new = .near) ∧
        (x < ec → x < ec - s.gs.approachBand → new = .normal))) ∧
    (s.guard.state = .tripped →
      let fallen := float = false ∧ ∃ x, l = some x ∧ x ≤ s.gs.rearm ∧ x < ec - s.gs.approachBand
      let parted := float = true ∧ (l = none ∨ ∃ x, l = some x ∧ x < ec - s.gs.disagreement)
      (parted → new = .latched) ∧ (fallen → new = .normal ∧ eventIsSet .rearm v = true) ∧
      (¬ parted → ¬ fallen → new = .tripped)) ∧
    (s.guard.state = .latched ∨ s.guard.state = .containment → new = s.guard.state) ∧
    (new = s.guard.state →
      v = { s with guard := { s.guard with reserve := reserveHolds s },
                   agenda := s.agenda ++ (if reserveHolds s then [.reserveRequest] else []) }) ∧
    (new ≠ s.guard.state →
      (new = .blind → eventIsSet .blind v = true) ∧ (new = .tripped → eventIsSet .trip v = true) ∧
      (new = .latched → eventIsSet .latch v = true) ∧
      (stops new → ∀ p : Fin 3, stoppedWith p v) ∧
      (¬ stops new → v.pumps = s.pumps) ∧ .evalFill ∈ v.agenda ∧ .frostJudge ∈ v.agenda) ∧
    (v.guard.reserve = true ↔
      (new = .normal ∨ new = .near) ∧ ∃ x, l = some x ∧ x < s.gs.reserveFloor) ∧
    (v.guard.reserve = true → .reserveRequest ∈ v.agenda) ∧
    (∀ p : Fin 3,
      let t := handle (.weld p) s
      t.guard.state = .containment ∧ t.guard.held = s.guard.held.set p true ∧ t.guard.reserve = false ∧
      (s.guard.state = .containment → t.valve = s.valve ∧ t.events = s.events ∧ t.pumps = s.pumps) ∧
      (s.guard.state ≠ .containment →
        t.valve = (closeCommand s).valve ∧ eventIsSet .contain t = true ∧ ∀ q : Fin 3, stoppedWith q t)) ∧
    (let ceiling := if s.frost.pipe.isSome then s.gs.ceiling - s.gs.coldMargin else s.gs.ceiling
     let t := handle .ceiling s
     t.guard = { s.guard with ceiling := ceiling, frozenPipe := s.frost.pipe.isSome } ∧
     (ceiling = ec → t.agenda = s.agenda) ∧
     (ceiling ≠ ec → ∃ xs : List Note, xs.Perm [.evalFill, .frostJudge] ∧ t.agenda = s.agenda ++ [.guardJudge] ++ xs))

/-- A good reading makes its probe VALID and restarts its silence; a bad one, or the silence, makes it INVALID with the reading kept and
sets PROBE_FAULT when it was not and is in use (R132, R133). A good reading and a change of condition are taken by each circuit that names
the probe, which is judged in its present state (R139 to R141), in ascending number (log entry 46), by the pipe when it is the pipe probe
(R146), and by the stagnation judgements when it is the tank probe; that they take it in this order is the model's choice (log entry 56).
A silence timer restarted in the second of the expiry does not expire (log entry 8). The overflow pipe is judged from its probe as the
table of R146 gives; a change between FROZEN and THAWED sets FROZEN and is announced to the guard, and a change of reason is not (R146,
R147). -/
def Obligations.ProbesAndPipeJudged : Prop :=
  (∀ (i : Fin 8) (t : Int) (e : Bool) (s : State),
    let q := s.frost.probes.get i
    let bad : Probe := { q with condition := .invalid, silence := none }
    let inUse := s.gs.tankProbe = some i ∨ ∃ c : Fin 8, s.gs.role.get c ≠ .none ∧ s.gs.probeIndex.get c = i
    let taken := fun (x : State) =>
      let judged := ([0, 1, 2, 3, 4, 5, 6, 7] : List (Fin 8)).foldl
        (fun v c => if s.gs.probeIndex.get c = i then judgeCircuit c v else v) x
      let piped := if pipeProbe s = some i then judgePipe judged else judged
      { piped with agenda := piped.agenda ++ (if s.gs.tankProbe = some i then [.frostJudge] else []) }
    let invalid :=
      let x := setProbe i bad s
      if q.condition = .invalid then x else taken (if inUse then setEvent .probeFault x else x)
    (e = false → -550 ≤ t → t ≤ 1250 →
      let good : Probe := { condition := .valid, reading := some t, silence := some 30 }
      exec (.probeReading i t e) s = .next (finish (taken (setProbe i good s))) ∧
      (finish (taken (setProbe i good s))).frost.probes = s.frost.probes.set i good ∧
      (s.gs.tankProbe = some i → .frostJudge ∈ (takeProbe i t e s).agenda)) ∧
    (e = true ∨ t < -550 ∨ 1250 < t → exec (.probeReading i t e) s = .next (finish invalid)) ∧
    (∀ n, q.silence = some n → n < 30 → exec (.silenceTimerExpiry i) s = .next (finish invalid)) ∧
    (finish invalid).frost.probes = s.frost.probes.set i bad ∧
    ((∀ n, q.silence = some n → 30 ≤ n) → exec (.silenceTimerExpiry i) s = .next (finish s)) ∧
    (q.condition ≠ .invalid → inUse → eventIsSet .probeFault invalid = true) ∧
    (q.condition ≠ .invalid → s.gs.tankProbe = some i → .frostJudge ∈ invalid.agenda) ∧
    (q.condition = .invalid → invalid = setProbe i bad s) ∧ (probeInUse s i = true ↔ inUse)) ∧
  (∀ s : State,
    (∀ c : Fin 8, s.gs.role.get c = .overflowPipe → (∀ k : Fin 8, k < c → s.gs.role.get k ≠ .overflowPipe) →
      pipeProbe s = some (s.gs.probeIndex.get c)) ∧
    ((∀ c : Fin 8, s.gs.role.get c ≠ .overflowPipe) → pipeProbe s = none ∧ (judgePipe s).frost.pipe = none)) ∧
  ∀ (s : State) (i : Fin 8), pipeProbe s = some i →
    let q := s.frost.probes.get i
    let u := judgePipe s
    (q.condition ≠ .valid → u.frost.pipe = some .noReading) ∧
    (∀ t, q.condition = .valid → q.reading = some t →
      (s.frost.pipe = none → u.frost.pipe = (if t ≤ s.gs.frozenThreshold then some .cold else none)) ∧
      (s.frost.pipe = some .cold → u.frost.pipe = (if s.gs.thawThreshold ≤ t then none else some .cold)) ∧
      (s.frost.pipe = some .noReading → u.frost.pipe = (if t ≤ s.gs.frozenThreshold then some .cold else none))) ∧
    (u.frost.pipe.isSome ≠ s.frost.pipe.isSome →
      u.events = s.events ||| flagMask .frozen ∧ u.agenda = s.agenda ++ [.ceiling]) ∧
    (u.frost.pipe.isSome = s.frost.pipe.isSome → u.events = s.events ∧ u.agenda = s.agenda)

/-- The heater circuits: the setpoint is the greatest value that applies, and is worked out afresh for every circuit, each that changes
being judged (R135); an OFF circuit calls for a cold or a lost probe (R139), a waiting one gives up and a heating one stops when satisfied
(R140, R141), and a grant switches the output on (R140). A heating circuit's feedback timer stops while current shows and restarts when it
stops showing; its expiry puts the circuit in FAULT and sets CIRCUIT_FAULT (R138, R142). The circuits are judged in ascending number (log
entry 46). -/
def Obligations.CircuitsJudged : Prop :=
  (∀ (c : Fin 8) (s : State), SetpointIs s c (setpointOf s c) ∧
    ((refreshSetpoints s).frost.circuits.get c).setpoint = setpointOf s c ∧
    (let q := s.frost.circuits.get c
     let sp := setpointOf s c
     refreshSetpoint s c = if sp = q.setpoint then s else judgeCircuit c (setCircuit c { q with setpoint := sp } s)) ∧
    refreshSetpoints s = ([0, 1, 2, 3, 4, 5, 6, 7] : List (Fin 8)).foldl refreshSetpoint s) ∧
  (∀ (c : Fin 8) (s : State),
    let q := s.frost.circuits.get c
    let probe := s.frost.probes.get (s.gs.probeIndex.get c)
    let calls := s.gs.role.get c ≠ .none ∧ ∃ sp, q.setpoint = some sp ∧
      (probe.condition = .invalid ∨ (probe.condition = .valid ∧ ∃ t, probe.reading = some t ∧ t ≤ sp - s.gs.hysteresis))
    let satisfied := q.setpoint = none ∨
      ∃ sp t, q.setpoint = some sp ∧ probe.condition = .valid ∧ probe.reading = some t ∧ sp ≤ t
    let u := judgeCircuit c s
    (q.state = .off → calls →
      u = placeClaim (.circuit c) (s.gs.circuitRating.get c) (roleClass (s.gs.role.get c))
        (setCircuit c { q with state := .calling } s)) ∧
    (q.state = .off → ¬ calls → u = s) ∧
    (q.state = .calling ∨ q.state = .shed → satisfied →
      u = withdrawClaim (.circuit c) (setCircuit c { q with state := .off, timer := none } s)) ∧
    (q.state = .heating → satisfied →
      u = releaseClaim (.circuit c) (setCircuit c { q with state := .off, timer := none } s)) ∧
    (q.state = .calling ∨ q.state = .shed ∨ q.state = .heating → ¬ satisfied → u = s) ∧ (q.state = .fault → u = s) ∧
    (q.state = .calling ∨ q.state = .shed →
      takeGrant (.circuit c) s =
        setCircuit c { q with state := .heating, timer := if s.inputs.current.get c then none else some 30 } s) ∧
    (∀ (n : Nat) (r : Reclaim), s.arbiter.reclaim = some r → (∃ k ∈ r.victims, k ≠ .circuit c) →
      (∀ x ∈ s.arbiter.waiting, x.claimant ≠ .circuit c) →
      let t := shedCircuit (walk (n + 1)) (.circuit c) s
      t.frost = (setCircuit c { q with state := .shed, timer := none } s).frost ∧
      (∀ x ∈ t.arbiter.granted, x.claimant ≠ .circuit c) ∧
      ∃ x ∈ t.arbiter.waiting, x.claimant = .circuit c ∧ x.units = s.gs.circuitRating.get c ∧
        x.cls = roleClass (s.gs.role.get c) ∧ x.seq = s.arbiter.counter)) ∧
  ∀ (c : Fin 8) (b : Bool) (s : State),
    let q := s.frost.circuits.get c
    let u := heaterCurrent c b s
    (exec (.heaterCurrentChange c b) s = .next (finish u) ∧
      u.inputs = { s.inputs with current := s.inputs.current.set c b } ∧
      (q.state ≠ .heating → u.frost = s.frost) ∧
      (q.state = .heating → b = true → u.frost.circuits.get c = { q with timer := none }) ∧
      (q.state = .heating → b = false → s.inputs.current.get c = true →
        u.frost.circuits.get c = { q with timer := some 30 })) ∧
    (q.state = .heating → q.timer.isSome = true → (∀ x ∈ s.arbiter.waiting, x.claimant ≠ .circuit c) →
      let v := circuitTimerExpiry c s
      exec (.feedbackTimerExpiry c) s = .next (finish v) ∧
      v.frost.circuits.get c = { q with state := .fault, timer := none } ∧ eventIsSet .circuitFault v = true ∧
      ∀ x ∈ v.arbiter.granted, x.claimant ≠ .circuit c)

/-- The stagnation clock counts minute events to 4320, and is 0 with the fallback flag clear once the water is found turned over, at a
FILL service or at the withdrawal that retires a waiting order 241 (R148, R150, R151); the judgement asks for order 241 while the turnover
conditions hold and it is not live (R149, R70), sets and clears the fallback flag (R150), and withdraws the request of a live 241 with a
cause to (R151). The flag comes before the request and the withdrawal (log entry 56). -/
def Obligations.TurnoverJudged : Prop :=
  ∀ s : State,
    let tank := s.gs.tankProbe.map (fun i => s.frost.probes.get i)
    let reads := fun (t : Int) => ∃ q, tank = some q ∧ q.condition = .valid ∧ q.reading = some t
    let long := s.gs.stagnationTime * 60 ≤ s.frost.stagnation
    let stagnant := long ∧ ∃ t, reads t ∧ t ≤ s.gs.tankCold
    let warm := ∃ t, reads t ∧ s.gs.tankCold < t
    let room := fun (l : Nat) => filtered s = some l ∧ s.guard.state = .normal ∧
      l + s.gs.turnoverDepth + s.gs.approachBand ≤ s.guard.ceiling
    let live := isLive 241 s = true
    let stuck := ∃ f, findFill 241 s = some f ∧ (f.state = .due ∨ f.state = .suspended) ∧
      (f.hold = some .allowance ∨ f.hold = some .pump ∨ f.hold = some .valve)
    let v := handle .frostJudge s
    (warm ∨ s.gs.tankProbe = none → v.frost.fallback = false) ∧
    (¬ (warm ∨ s.gs.tankProbe = none) → stagnant → (¬ live ∧ ∀ l, ¬ room l) ∨ stuck → v.frost.fallback = true) ∧
    (¬ (warm ∨ s.gs.tankProbe = none) → ¬ (stagnant ∧ ((¬ live ∧ ∀ l, ¬ room l) ∨ stuck)) →
      v.frost.fallback = s.frost.fallback) ∧
    v.frost.stagnation = s.frost.stagnation ∧
    (∀ l, stagnant → room l → ¬ live → ∃ xs, v.agenda = s.agenda ++ xs ++ [.turnoverRequest (l + s.gs.turnoverDepth)]) ∧
    (live → warm ∨ s.gs.tankProbe = none ∨ ¬ long → ∃ xs, v.agenda = s.agenda ++ xs ++ [.withdrawTurnover]) ∧
    (¬ stagnant ∨ live ∨ (∀ l, ¬ room l) → ∀ t, .turnoverRequest t ∈ v.agenda → .turnoverRequest t ∈ s.agenda) ∧
    (¬ live ∨ (¬ warm ∧ s.gs.tankProbe ≠ none ∧ long) → .withdrawTurnover ∈ v.agenda → .withdrawTurnover ∈ s.agenda) ∧
    (∀ m : Nat, (handle (.heatMinute m) s).frost.stagnation = min 4320 (s.frost.stagnation + 1)) ∧
    (∀ f, findFill 241 s = some f → f.state = .due ∨ f.state = .suspended →
      let t := handle .withdrawTurnover s
      let turned := ∃ k l, f.context = some k ∧ filtered s = some l ∧ k.first + s.gs.turnoverDepth ≤ l
      findRecord 241 t = none ∧ (turned → t.frost.stagnation = 0 ∧ t.frost.fallback = false) ∧
        (¬ turned → t.frost = s.frost)) ∧
    ∀ first : Option Nat,
      let t := handle (.served first) s
      (∀ a l, first = some a → filtered s = some l → a + s.gs.turnoverDepth ≤ l →
        t.frost.stagnation = 0 ∧ t.frost.fallback = false) ∧
      (first = none ∨ filtered s = none ∨ (∃ a l, first = some a ∧ filtered s = some l ∧ l < a + s.gs.turnoverDepth) →
        t = s)

/-! ### Frames -/

/-- What the field commands leave as they stand. -/
def Obligations.FieldCommandFrame : Prop :=
  ∀ (i : Instr) (s t : State), exec i s = .next t →
    (groupOf i = .pump → AwayFromRequests s t ∧ AwayFromLink s t ∧ SameReadings s t ∧
      t.inputs = { s.inputs with feedback := t.inputs.feedback, overload := t.inputs.overload, key := t.inputs.key }) ∧
    (groupOf i = .valveFloatHeater → AwayFromRequests s t ∧ AwayFromLink s t ∧ SameReadings s t ∧
      t.inputs.feedback = s.inputs.feedback ∧ t.inputs.overload = s.inputs.overload ∧ t.inputs.key = s.inputs.key) ∧
    (groupOf i = .reading → AwayFromRequests s t ∧ AwayFromLink s t ∧ t.inputs = s.inputs)

/-- What the requests that change the order book, the guard store, a pump, a circuit, the guard or the clock leave as they stand; of the
cabinet port only the request in flight may take its result. -/
def Obligations.RequestsFrame : Prop :=
  ∀ (i : Instr) (s t : State), exec i s = .next t →
    (groupOf i = .orderChange →
      t.pending = s.pending ∧ t.gs = s.gs ∧ t.store = s.store ∧ t.remote = s.remote ∧ t.enables = s.enables ∧
      t.inputs = s.inputs ∧ AwayFromLink s t ∧ SameReadings s t ∧ SamePort s t) ∧
    (groupOf i = .guardStore →
      t.pending = s.pending ∧ t.remote = s.remote ∧ t.enables = s.enables ∧ SameInputs s t ∧ SameRound s t ∧
      SameReadings s t ∧ SamePort s t ∧ t.book.lastAssigned = s.book.lastAssigned) ∧
    (groupOf i = .service →
      t.pending = s.pending ∧ t.gs = s.gs ∧ t.store = s.store ∧ t.remote = s.remote ∧ t.enables = s.enables ∧
      SameInputs s t ∧ AwayFromLink s t ∧ SameReadings s t ∧ SamePort s t ∧
      t.book.lastAssigned = s.book.lastAssigned) ∧
    (groupOf i = .setClock →
      t.pending = s.pending ∧ t.gs = s.gs ∧ t.store = s.store ∧ t.remote = s.remote ∧ t.enables = s.enables ∧
      t.inputs = s.inputs ∧ SameRound s t ∧ SameReadings s t ∧ SamePort s t ∧
      t.book.lastAssigned = s.book.lastAssigned)

/-- What the counting of the crystal leaves as it stands, and what an opener and the silence of the head leave; the opener row is judged
by the frame it carries (log entry 21), and speaks here of an OPENER frame. -/
def Obligations.TimeFrame : Prop :=
  ∀ (i : Instr) (s t : State), exec i s = .next t →
    (groupOf i = .crystal →
      AwayFromRequests s t ∧ t.inputs = s.inputs ∧ t.level.window = s.level.window ∧
      t.level.rejected = s.level.rejected ∧ t.link.line = s.link.line ∧ t.link.round = s.link.round ∧
      t.link.sequence = s.link.sequence ∧ t.clock.trust = s.clock.trust ∧ t.clock.rank = s.clock.rank ∧
      t.clock.roundPeriod = s.clock.roundPeriod ∧ t.clock.lastOpener = s.clock.lastOpener ∧
      t.clock.holdover = s.clock.holdover ∧
      (∀ k : Fin 8, (t.frost.probes.get k).condition = (s.frost.probes.get k).condition ∧
        (t.frost.probes.get k).reading = (s.frost.probes.get k).reading)) ∧
    (groupOf i = .head → (∀ instant f, i = .opener instant f → f.kind = 1) →
      t.pending = s.pending ∧ t.gs = s.gs ∧ t.store = s.store ∧ t.cabinet = s.cabinet ∧ t.enables = s.enables ∧
      t.lastResult = s.lastResult ∧ t.book.lastAssigned = s.book.lastAssigned ∧ t.inputs = s.inputs ∧
      SameReadings s t ∧ t.link.sequence = s.link.sequence)

/-! ### Laws that every step keeps -/

/-- While the guard is BLIND, TRIPPED, LATCHED or CONTAINMENT, no pump is in CLAIMING, STARTING or RUNNING (R122). -/
def Obligations.GuardKeepsPumpsStopped : Prop := KeptByStep GuardStopsPumps

/-- The order book keeps its law: distinct numbers, external 1 to 239 and at most 30, system 240 and 241 (R1). -/
def Obligations.BookKept : Prop := KeptByStep BookFits

/-- No claimant ever holds two claims (R97), and every pump and circuit holds its claim in the list its own state calls for: a pump
CLAIMING waits, one STARTING, RUNNING, STOPPING or FAULTED with its judged feedback closed is granted, any other holds none; a circuit
CALLING or SHED waits, one HEATING is granted, any other holds none (R77, R138). -/
def Obligations.ClaimsKept : Prop := KeptByStep ClaimsFit ∧ KeptByStep ClaimsMatch

/-- The pump assignments fit the orders and the pumps: a holder is an order in STARTING, RUNNING or RETIRING that names its pump and no
such order is without its pump; each pump in CLAIMING, STARTING or RUNNING, or with a pending start, has a holder in STARTING or RUNNING;
the no-flow timer runs exactly while the holder is RUNNING (R49, R57). -/
def Obligations.AssignmentsKept : Prop := KeptByStep (fun s => BookFits s ∧ AssignmentsFit s)

/-- A pump's fault cause, stop cause and timers are present exactly in the states that have them, the dwell timer only in STARTING; the
valve's timer and fault direction stand only in the states that have them; the level window never holds more than 4 readings, all in range,
and its timer runs while it holds any; unlock rounds are left only while UNLOCKED, at most 16; a held response and a request in flight
stand exactly in their port states (R75, R80, R86 to R88, R92, R111 to R113, R172, R183). -/
def Obligations.SmallLawsKept : Prop :=
  KeptByStep PumpsFit ∧ KeptByStep ValveFits ∧ KeptByStep LevelFits ∧ KeptByStep LockFits ∧ KeptByStep PortFits
end

