-- ==== Sys2Proof/Laws/State.lean ====
section
/-! SUPPORT. One lemma per field for each named update of State: the field as it stands, or the value written. -/

namespace Sys2Proof.Machine

@[simp] theorem emit_pending (n : Note) (s : State) : (emit n s).pending = s.pending := rfl
@[simp] theorem emit_crystal (n : Note) (s : State) : (emit n s).crystal = s.crystal := rfl
@[simp] theorem emit_clock (n : Note) (s : State) : (emit n s).clock = s.clock := rfl
@[simp] theorem emit_gs (n : Note) (s : State) : (emit n s).gs = s.gs := rfl
@[simp] theorem emit_store (n : Note) (s : State) : (emit n s).store = s.store := rfl
@[simp] theorem emit_book (n : Note) (s : State) : (emit n s).book = s.book := rfl
@[simp] theorem emit_fill (n : Note) (s : State) : (emit n s).fill = s.fill := rfl
@[simp] theorem emit_pumps (n : Note) (s : State) : (emit n s).pumps = s.pumps := rfl
@[simp] theorem emit_valve (n : Note) (s : State) : (emit n s).valve = s.valve := rfl
@[simp] theorem emit_arbiter (n : Note) (s : State) : (emit n s).arbiter = s.arbiter := rfl
@[simp] theorem emit_level (n : Note) (s : State) : (emit n s).level = s.level := rfl
@[simp] theorem emit_guard (n : Note) (s : State) : (emit n s).guard = s.guard := rfl
@[simp] theorem emit_frost (n : Note) (s : State) : (emit n s).frost = s.frost := rfl
@[simp] theorem emit_link (n : Note) (s : State) : (emit n s).link = s.link := rfl
@[simp] theorem emit_remote (n : Note) (s : State) : (emit n s).remote = s.remote := rfl
@[simp] theorem emit_cabinet (n : Note) (s : State) : (emit n s).cabinet = s.cabinet := rfl
@[simp] theorem emit_events (n : Note) (s : State) : (emit n s).events = s.events := rfl
@[simp] theorem emit_enables (n : Note) (s : State) : (emit n s).enables = s.enables := rfl
@[simp] theorem emit_inputs (n : Note) (s : State) : (emit n s).inputs = s.inputs := rfl
@[simp] theorem emit_lastResult (n : Note) (s : State) : (emit n s).lastResult = s.lastResult := rfl
@[simp] theorem emit_choice (n : Note) (s : State) : (emit n s).choice = s.choice := rfl
@[simp] theorem emit_freeCount (n : Note) (s : State) : (emit n s).freeCount = s.freeCount := rfl

@[simp] theorem setPump_pending (p : Fin 3) (q : Pump) (s : State) : (setPump p q s).pending = s.pending := rfl
@[simp] theorem setPump_crystal (p : Fin 3) (q : Pump) (s : State) : (setPump p q s).crystal = s.crystal := rfl
@[simp] theorem setPump_clock (p : Fin 3) (q : Pump) (s : State) : (setPump p q s).clock = s.clock := rfl
@[simp] theorem setPump_gs (p : Fin 3) (q : Pump) (s : State) : (setPump p q s).gs = s.gs := rfl
@[simp] theorem setPump_store (p : Fin 3) (q : Pump) (s : State) : (setPump p q s).store = s.store := rfl
@[simp] theorem setPump_book (p : Fin 3) (q : Pump) (s : State) : (setPump p q s).book = s.book := rfl
@[simp] theorem setPump_fill (p : Fin 3) (q : Pump) (s : State) : (setPump p q s).fill = s.fill := rfl
@[simp] theorem setPump_valve (p : Fin 3) (q : Pump) (s : State) : (setPump p q s).valve = s.valve := rfl
@[simp] theorem setPump_arbiter (p : Fin 3) (q : Pump) (s : State) : (setPump p q s).arbiter = s.arbiter := rfl
@[simp] theorem setPump_level (p : Fin 3) (q : Pump) (s : State) : (setPump p q s).level = s.level := rfl
@[simp] theorem setPump_guard (p : Fin 3) (q : Pump) (s : State) : (setPump p q s).guard = s.guard := rfl
@[simp] theorem setPump_frost (p : Fin 3) (q : Pump) (s : State) : (setPump p q s).frost = s.frost := rfl
@[simp] theorem setPump_link (p : Fin 3) (q : Pump) (s : State) : (setPump p q s).link = s.link := rfl
@[simp] theorem setPump_remote (p : Fin 3) (q : Pump) (s : State) : (setPump p q s).remote = s.remote := rfl
@[simp] theorem setPump_cabinet (p : Fin 3) (q : Pump) (s : State) : (setPump p q s).cabinet = s.cabinet := rfl
@[simp] theorem setPump_events (p : Fin 3) (q : Pump) (s : State) : (setPump p q s).events = s.events := rfl
@[simp] theorem setPump_enables (p : Fin 3) (q : Pump) (s : State) : (setPump p q s).enables = s.enables := rfl
@[simp] theorem setPump_inputs (p : Fin 3) (q : Pump) (s : State) : (setPump p q s).inputs = s.inputs := rfl
@[simp] theorem setPump_lastResult (p : Fin 3) (q : Pump) (s : State) : (setPump p q s).lastResult = s.lastResult := rfl
@[simp] theorem setPump_agenda (p : Fin 3) (q : Pump) (s : State) : (setPump p q s).agenda = s.agenda := rfl
@[simp] theorem setPump_choice (p : Fin 3) (q : Pump) (s : State) : (setPump p q s).choice = s.choice := rfl
@[simp] theorem setPump_freeCount (p : Fin 3) (q : Pump) (s : State) : (setPump p q s).freeCount = s.freeCount := rfl

@[simp] theorem setAssign_pending (p : Fin 3) (a : Assignment) (s : State) : (setAssign p a s).pending = s.pending := rfl
@[simp] theorem setAssign_crystal (p : Fin 3) (a : Assignment) (s : State) : (setAssign p a s).crystal = s.crystal := rfl
@[simp] theorem setAssign_clock (p : Fin 3) (a : Assignment) (s : State) : (setAssign p a s).clock = s.clock := rfl
@[simp] theorem setAssign_gs (p : Fin 3) (a : Assignment) (s : State) : (setAssign p a s).gs = s.gs := rfl
@[simp] theorem setAssign_store (p : Fin 3) (a : Assignment) (s : State) : (setAssign p a s).store = s.store := rfl
@[simp] theorem setAssign_book (p : Fin 3) (a : Assignment) (s : State) : (setAssign p a s).book = s.book := rfl
@[simp] theorem setAssign_pumps (p : Fin 3) (a : Assignment) (s : State) : (setAssign p a s).pumps = s.pumps := rfl
@[simp] theorem setAssign_valve (p : Fin 3) (a : Assignment) (s : State) : (setAssign p a s).valve = s.valve := rfl
@[simp] theorem setAssign_arbiter (p : Fin 3) (a : Assignment) (s : State) : (setAssign p a s).arbiter = s.arbiter := rfl
@[simp] theorem setAssign_level (p : Fin 3) (a : Assignment) (s : State) : (setAssign p a s).level = s.level := rfl
@[simp] theorem setAssign_guard (p : Fin 3) (a : Assignment) (s : State) : (setAssign p a s).guard = s.guard := rfl
@[simp] theorem setAssign_frost (p : Fin 3) (a : Assignment) (s : State) : (setAssign p a s).frost = s.frost := rfl
@[simp] theorem setAssign_link (p : Fin 3) (a : Assignment) (s : State) : (setAssign p a s).link = s.link := rfl
@[simp] theorem setAssign_remote (p : Fin 3) (a : Assignment) (s : State) : (setAssign p a s).remote = s.remote := rfl
@[simp] theorem setAssign_cabinet (p : Fin 3) (a : Assignment) (s : State) : (setAssign p a s).cabinet = s.cabinet := rfl
@[simp] theorem setAssign_events (p : Fin 3) (a : Assignment) (s : State) : (setAssign p a s).events = s.events := rfl
@[simp] theorem setAssign_enables (p : Fin 3) (a : Assignment) (s : State) : (setAssign p a s).enables = s.enables := rfl
@[simp] theorem setAssign_inputs (p : Fin 3) (a : Assignment) (s : State) : (setAssign p a s).inputs = s.inputs := rfl
@[simp] theorem setAssign_lastResult (p : Fin 3) (a : Assignment) (s : State) : (setAssign p a s).lastResult = s.lastResult := rfl
@[simp] theorem setAssign_agenda (p : Fin 3) (a : Assignment) (s : State) : (setAssign p a s).agenda = s.agenda := rfl
@[simp] theorem setAssign_choice (p : Fin 3) (a : Assignment) (s : State) : (setAssign p a s).choice = s.choice := rfl
@[simp] theorem setAssign_freeCount (p : Fin 3) (a : Assignment) (s : State) : (setAssign p a s).freeCount = s.freeCount := rfl

@[simp] theorem setCircuit_pending (c : Fin 8) (q : Circuit) (s : State) : (setCircuit c q s).pending = s.pending := rfl
@[simp] theorem setCircuit_crystal (c : Fin 8) (q : Circuit) (s : State) : (setCircuit c q s).crystal = s.crystal := rfl
@[simp] theorem setCircuit_clock (c : Fin 8) (q : Circuit) (s : State) : (setCircuit c q s).clock = s.clock := rfl
@[simp] theorem setCircuit_gs (c : Fin 8) (q : Circuit) (s : State) : (setCircuit c q s).gs = s.gs := rfl
@[simp] theorem setCircuit_store (c : Fin 8) (q : Circuit) (s : State) : (setCircuit c q s).store = s.store := rfl
@[simp] theorem setCircuit_book (c : Fin 8) (q : Circuit) (s : State) : (setCircuit c q s).book = s.book := rfl
@[simp] theorem setCircuit_fill (c : Fin 8) (q : Circuit) (s : State) : (setCircuit c q s).fill = s.fill := rfl
@[simp] theorem setCircuit_pumps (c : Fin 8) (q : Circuit) (s : State) : (setCircuit c q s).pumps = s.pumps := rfl
@[simp] theorem setCircuit_valve (c : Fin 8) (q : Circuit) (s : State) : (setCircuit c q s).valve = s.valve := rfl
@[simp] theorem setCircuit_arbiter (c : Fin 8) (q : Circuit) (s : State) : (setCircuit c q s).arbiter = s.arbiter := rfl
@[simp] theorem setCircuit_level (c : Fin 8) (q : Circuit) (s : State) : (setCircuit c q s).level = s.level := rfl
@[simp] theorem setCircuit_guard (c : Fin 8) (q : Circuit) (s : State) : (setCircuit c q s).guard = s.guard := rfl
@[simp] theorem setCircuit_link (c : Fin 8) (q : Circuit) (s : State) : (setCircuit c q s).link = s.link := rfl
@[simp] theorem setCircuit_remote (c : Fin 8) (q : Circuit) (s : State) : (setCircuit c q s).remote = s.remote := rfl
@[simp] theorem setCircuit_cabinet (c : Fin 8) (q : Circuit) (s : State) : (setCircuit c q s).cabinet = s.cabinet := rfl
@[simp] theorem setCircuit_events (c : Fin 8) (q : Circuit) (s : State) : (setCircuit c q s).events = s.events := rfl
@[simp] theorem setCircuit_enables (c : Fin 8) (q : Circuit) (s : State) : (setCircuit c q s).enables = s.enables := rfl
@[simp] theorem setCircuit_inputs (c : Fin 8) (q : Circuit) (s : State) : (setCircuit c q s).inputs = s.inputs := rfl
@[simp] theorem setCircuit_lastResult (c : Fin 8) (q : Circuit) (s : State) : (setCircuit c q s).lastResult = s.lastResult := rfl
@[simp] theorem setCircuit_agenda (c : Fin 8) (q : Circuit) (s : State) : (setCircuit c q s).agenda = s.agenda := rfl
@[simp] theorem setCircuit_choice (c : Fin 8) (q : Circuit) (s : State) : (setCircuit c q s).choice = s.choice := rfl
@[simp] theorem setCircuit_freeCount (c : Fin 8) (q : Circuit) (s : State) : (setCircuit c q s).freeCount = s.freeCount := rfl

@[simp] theorem setProbe_pending (i : Fin 8) (q : Probe) (s : State) : (setProbe i q s).pending = s.pending := rfl
@[simp] theorem setProbe_crystal (i : Fin 8) (q : Probe) (s : State) : (setProbe i q s).crystal = s.crystal := rfl
@[simp] theorem setProbe_clock (i : Fin 8) (q : Probe) (s : State) : (setProbe i q s).clock = s.clock := rfl
@[simp] theorem setProbe_gs (i : Fin 8) (q : Probe) (s : State) : (setProbe i q s).gs = s.gs := rfl
@[simp] theorem setProbe_store (i : Fin 8) (q : Probe) (s : State) : (setProbe i q s).store = s.store := rfl
@[simp] theorem setProbe_book (i : Fin 8) (q : Probe) (s : State) : (setProbe i q s).book = s.book := rfl
@[simp] theorem setProbe_fill (i : Fin 8) (q : Probe) (s : State) : (setProbe i q s).fill = s.fill := rfl
@[simp] theorem setProbe_pumps (i : Fin 8) (q : Probe) (s : State) : (setProbe i q s).pumps = s.pumps := rfl
@[simp] theorem setProbe_valve (i : Fin 8) (q : Probe) (s : State) : (setProbe i q s).valve = s.valve := rfl
@[simp] theorem setProbe_arbiter (i : Fin 8) (q : Probe) (s : State) : (setProbe i q s).arbiter = s.arbiter := rfl
@[simp] theorem setProbe_level (i : Fin 8) (q : Probe) (s : State) : (setProbe i q s).level = s.level := rfl
@[simp] theorem setProbe_guard (i : Fin 8) (q : Probe) (s : State) : (setProbe i q s).guard = s.guard := rfl
@[simp] theorem setProbe_link (i : Fin 8) (q : Probe) (s : State) : (setProbe i q s).link = s.link := rfl
@[simp] theorem setProbe_remote (i : Fin 8) (q : Probe) (s : State) : (setProbe i q s).remote = s.remote := rfl
@[simp] theorem setProbe_cabinet (i : Fin 8) (q : Probe) (s : State) : (setProbe i q s).cabinet = s.cabinet := rfl
@[simp] theorem setProbe_events (i : Fin 8) (q : Probe) (s : State) : (setProbe i q s).events = s.events := rfl
@[simp] theorem setProbe_enables (i : Fin 8) (q : Probe) (s : State) : (setProbe i q s).enables = s.enables := rfl
@[simp] theorem setProbe_inputs (i : Fin 8) (q : Probe) (s : State) : (setProbe i q s).inputs = s.inputs := rfl
@[simp] theorem setProbe_lastResult (i : Fin 8) (q : Probe) (s : State) : (setProbe i q s).lastResult = s.lastResult := rfl
@[simp] theorem setProbe_agenda (i : Fin 8) (q : Probe) (s : State) : (setProbe i q s).agenda = s.agenda := rfl
@[simp] theorem setProbe_choice (i : Fin 8) (q : Probe) (s : State) : (setProbe i q s).choice = s.choice := rfl
@[simp] theorem setProbe_freeCount (i : Fin 8) (q : Probe) (s : State) : (setProbe i q s).freeCount = s.freeCount := rfl

@[simp] theorem setEvent_pending (f : EventFlag) (s : State) : (setEvent f s).pending = s.pending := rfl
@[simp] theorem setEvent_crystal (f : EventFlag) (s : State) : (setEvent f s).crystal = s.crystal := rfl
@[simp] theorem setEvent_clock (f : EventFlag) (s : State) : (setEvent f s).clock = s.clock := rfl
@[simp] theorem setEvent_gs (f : EventFlag) (s : State) : (setEvent f s).gs = s.gs := rfl
@[simp] theorem setEvent_store (f : EventFlag) (s : State) : (setEvent f s).store = s.store := rfl
@[simp] theorem setEvent_book (f : EventFlag) (s : State) : (setEvent f s).book = s.book := rfl
@[simp] theorem setEvent_fill (f : EventFlag) (s : State) : (setEvent f s).fill = s.fill := rfl
@[simp] theorem setEvent_pumps (f : EventFlag) (s : State) : (setEvent f s).pumps = s.pumps := rfl
@[simp] theorem setEvent_valve (f : EventFlag) (s : State) : (setEvent f s).valve = s.valve := rfl
@[simp] theorem setEvent_arbiter (f : EventFlag) (s : State) : (setEvent f s).arbiter = s.arbiter := rfl
@[simp] theorem setEvent_level (f : EventFlag) (s : State) : (setEvent f s).level = s.level := rfl
@[simp] theorem setEvent_guard (f : EventFlag) (s : State) : (setEvent f s).guard = s.guard := rfl
@[simp] theorem setEvent_frost (f : EventFlag) (s : State) : (setEvent f s).frost = s.frost := rfl
@[simp] theorem setEvent_link (f : EventFlag) (s : State) : (setEvent f s).link = s.link := rfl
@[simp] theorem setEvent_remote (f : EventFlag) (s : State) : (setEvent f s).remote = s.remote := rfl
@[simp] theorem setEvent_cabinet (f : EventFlag) (s : State) : (setEvent f s).cabinet = s.cabinet := rfl
@[simp] theorem setEvent_enables (f : EventFlag) (s : State) : (setEvent f s).enables = s.enables := rfl
@[simp] theorem setEvent_inputs (f : EventFlag) (s : State) : (setEvent f s).inputs = s.inputs := rfl
@[simp] theorem setEvent_lastResult (f : EventFlag) (s : State) : (setEvent f s).lastResult = s.lastResult := rfl
@[simp] theorem setEvent_agenda (f : EventFlag) (s : State) : (setEvent f s).agenda = s.agenda := rfl
@[simp] theorem setEvent_choice (f : EventFlag) (s : State) : (setEvent f s).choice = s.choice := rfl
@[simp] theorem setEvent_freeCount (f : EventFlag) (s : State) : (setEvent f s).freeCount = s.freeCount := rfl

@[simp] theorem setRecords_pending (rs : List Record) (s : State) : (setRecords rs s).pending = s.pending := rfl
@[simp] theorem setRecords_crystal (rs : List Record) (s : State) : (setRecords rs s).crystal = s.crystal := rfl
@[simp] theorem setRecords_clock (rs : List Record) (s : State) : (setRecords rs s).clock = s.clock := rfl
@[simp] theorem setRecords_gs (rs : List Record) (s : State) : (setRecords rs s).gs = s.gs := rfl
@[simp] theorem setRecords_store (rs : List Record) (s : State) : (setRecords rs s).store = s.store := rfl
@[simp] theorem setRecords_fill (rs : List Record) (s : State) : (setRecords rs s).fill = s.fill := rfl
@[simp] theorem setRecords_pumps (rs : List Record) (s : State) : (setRecords rs s).pumps = s.pumps := rfl
@[simp] theorem setRecords_valve (rs : List Record) (s : State) : (setRecords rs s).valve = s.valve := rfl
@[simp] theorem setRecords_arbiter (rs : List Record) (s : State) : (setRecords rs s).arbiter = s.arbiter := rfl
@[simp] theorem setRecords_level (rs : List Record) (s : State) : (setRecords rs s).level = s.level := rfl
@[simp] theorem setRecords_guard (rs : List Record) (s : State) : (setRecords rs s).guard = s.guard := rfl
@[simp] theorem setRecords_frost (rs : List Record) (s : State) : (setRecords rs s).frost = s.frost := rfl
@[simp] theorem setRecords_link (rs : List Record) (s : State) : (setRecords rs s).link = s.link := rfl
@[simp] theorem setRecords_remote (rs : List Record) (s : State) : (setRecords rs s).remote = s.remote := rfl
@[simp] theorem setRecords_cabinet (rs : List Record) (s : State) : (setRecords rs s).cabinet = s.cabinet := rfl
@[simp] theorem setRecords_events (rs : List Record) (s : State) : (setRecords rs s).events = s.events := rfl
@[simp] theorem setRecords_enables (rs : List Record) (s : State) : (setRecords rs s).enables = s.enables := rfl
@[simp] theorem setRecords_inputs (rs : List Record) (s : State) : (setRecords rs s).inputs = s.inputs := rfl
@[simp] theorem setRecords_lastResult (rs : List Record) (s : State) : (setRecords rs s).lastResult = s.lastResult := rfl
@[simp] theorem setRecords_agenda (rs : List Record) (s : State) : (setRecords rs s).agenda = s.agenda := rfl
@[simp] theorem setRecords_choice (rs : List Record) (s : State) : (setRecords rs s).choice = s.choice := rfl
@[simp] theorem setRecords_freeCount (rs : List Record) (s : State) : (setRecords rs s).freeCount = s.freeCount := rfl

@[simp] theorem takeSample_pending (x : Sample) (s : State) : (takeSample x s).pending = s.pending := rfl
@[simp] theorem takeSample_crystal (x : Sample) (s : State) : (takeSample x s).crystal = s.crystal := rfl
@[simp] theorem takeSample_clock (x : Sample) (s : State) : (takeSample x s).clock = s.clock := rfl
@[simp] theorem takeSample_gs (x : Sample) (s : State) : (takeSample x s).gs = s.gs := rfl
@[simp] theorem takeSample_store (x : Sample) (s : State) : (takeSample x s).store = s.store := rfl
@[simp] theorem takeSample_book (x : Sample) (s : State) : (takeSample x s).book = s.book := rfl
@[simp] theorem takeSample_fill (x : Sample) (s : State) : (takeSample x s).fill = s.fill := rfl
@[simp] theorem takeSample_pumps (x : Sample) (s : State) : (takeSample x s).pumps = s.pumps := rfl
@[simp] theorem takeSample_valve (x : Sample) (s : State) : (takeSample x s).valve = s.valve := rfl
@[simp] theorem takeSample_arbiter (x : Sample) (s : State) : (takeSample x s).arbiter = s.arbiter := rfl
@[simp] theorem takeSample_level (x : Sample) (s : State) : (takeSample x s).level = s.level := rfl
@[simp] theorem takeSample_guard (x : Sample) (s : State) : (takeSample x s).guard = s.guard := rfl
@[simp] theorem takeSample_frost (x : Sample) (s : State) : (takeSample x s).frost = s.frost := rfl
@[simp] theorem takeSample_link (x : Sample) (s : State) : (takeSample x s).link = s.link := rfl
@[simp] theorem takeSample_remote (x : Sample) (s : State) : (takeSample x s).remote = s.remote := rfl
@[simp] theorem takeSample_cabinet (x : Sample) (s : State) : (takeSample x s).cabinet = s.cabinet := rfl
@[simp] theorem takeSample_events (x : Sample) (s : State) : (takeSample x s).events = s.events := rfl
@[simp] theorem takeSample_enables (x : Sample) (s : State) : (takeSample x s).enables = s.enables := rfl
@[simp] theorem takeSample_lastResult (x : Sample) (s : State) : (takeSample x s).lastResult = s.lastResult := rfl
@[simp] theorem takeSample_agenda (x : Sample) (s : State) : (takeSample x s).agenda = s.agenda := rfl
@[simp] theorem takeSample_choice (x : Sample) (s : State) : (takeSample x s).choice = s.choice := rfl
@[simp] theorem takeSample_freeCount (x : Sample) (s : State) : (takeSample x s).freeCount = s.freeCount := rfl

@[simp] theorem emitFree_pending (ns : List Note) (s : State) : (emitFree ns s).pending = s.pending := rfl
@[simp] theorem emitFree_crystal (ns : List Note) (s : State) : (emitFree ns s).crystal = s.crystal := rfl
@[simp] theorem emitFree_clock (ns : List Note) (s : State) : (emitFree ns s).clock = s.clock := rfl
@[simp] theorem emitFree_gs (ns : List Note) (s : State) : (emitFree ns s).gs = s.gs := rfl
@[simp] theorem emitFree_store (ns : List Note) (s : State) : (emitFree ns s).store = s.store := rfl
@[simp] theorem emitFree_book (ns : List Note) (s : State) : (emitFree ns s).book = s.book := rfl
@[simp] theorem emitFree_fill (ns : List Note) (s : State) : (emitFree ns s).fill = s.fill := rfl
@[simp] theorem emitFree_pumps (ns : List Note) (s : State) : (emitFree ns s).pumps = s.pumps := rfl
@[simp] theorem emitFree_valve (ns : List Note) (s : State) : (emitFree ns s).valve = s.valve := rfl
@[simp] theorem emitFree_arbiter (ns : List Note) (s : State) : (emitFree ns s).arbiter = s.arbiter := rfl
@[simp] theorem emitFree_level (ns : List Note) (s : State) : (emitFree ns s).level = s.level := rfl
@[simp] theorem emitFree_guard (ns : List Note) (s : State) : (emitFree ns s).guard = s.guard := rfl
@[simp] theorem emitFree_frost (ns : List Note) (s : State) : (emitFree ns s).frost = s.frost := rfl
@[simp] theorem emitFree_link (ns : List Note) (s : State) : (emitFree ns s).link = s.link := rfl
@[simp] theorem emitFree_remote (ns : List Note) (s : State) : (emitFree ns s).remote = s.remote := rfl
@[simp] theorem emitFree_cabinet (ns : List Note) (s : State) : (emitFree ns s).cabinet = s.cabinet := rfl
@[simp] theorem emitFree_events (ns : List Note) (s : State) : (emitFree ns s).events = s.events := rfl
@[simp] theorem emitFree_enables (ns : List Note) (s : State) : (emitFree ns s).enables = s.enables := rfl
@[simp] theorem emitFree_inputs (ns : List Note) (s : State) : (emitFree ns s).inputs = s.inputs := rfl
@[simp] theorem emitFree_lastResult (ns : List Note) (s : State) : (emitFree ns s).lastResult = s.lastResult := rfl
@[simp] theorem emitFree_freeCount (ns : List Note) (s : State) : (emitFree ns s).freeCount = s.freeCount := rfl

@[simp] theorem refreshChoice_pending (s : State) : (refreshChoice s).pending = s.pending := rfl
@[simp] theorem refreshChoice_crystal (s : State) : (refreshChoice s).crystal = s.crystal := rfl
@[simp] theorem refreshChoice_clock (s : State) : (refreshChoice s).clock = s.clock := rfl
@[simp] theorem refreshChoice_gs (s : State) : (refreshChoice s).gs = s.gs := rfl
@[simp] theorem refreshChoice_store (s : State) : (refreshChoice s).store = s.store := rfl
@[simp] theorem refreshChoice_book (s : State) : (refreshChoice s).book = s.book := rfl
@[simp] theorem refreshChoice_fill (s : State) : (refreshChoice s).fill = s.fill := rfl
@[simp] theorem refreshChoice_pumps (s : State) : (refreshChoice s).pumps = s.pumps := rfl
@[simp] theorem refreshChoice_valve (s : State) : (refreshChoice s).valve = s.valve := rfl
@[simp] theorem refreshChoice_arbiter (s : State) : (refreshChoice s).arbiter = s.arbiter := rfl
@[simp] theorem refreshChoice_level (s : State) : (refreshChoice s).level = s.level := rfl
@[simp] theorem refreshChoice_guard (s : State) : (refreshChoice s).guard = s.guard := rfl
@[simp] theorem refreshChoice_frost (s : State) : (refreshChoice s).frost = s.frost := rfl
@[simp] theorem refreshChoice_link (s : State) : (refreshChoice s).link = s.link := rfl
@[simp] theorem refreshChoice_remote (s : State) : (refreshChoice s).remote = s.remote := rfl
@[simp] theorem refreshChoice_cabinet (s : State) : (refreshChoice s).cabinet = s.cabinet := rfl
@[simp] theorem refreshChoice_events (s : State) : (refreshChoice s).events = s.events := rfl
@[simp] theorem refreshChoice_enables (s : State) : (refreshChoice s).enables = s.enables := rfl
@[simp] theorem refreshChoice_inputs (s : State) : (refreshChoice s).inputs = s.inputs := rfl
@[simp] theorem refreshChoice_lastResult (s : State) : (refreshChoice s).lastResult = s.lastResult := rfl
@[simp] theorem refreshChoice_agenda (s : State) : (refreshChoice s).agenda = s.agenda := rfl

@[simp] theorem putFill_pending (n : Nat) (f : FillRecord) (s : State) : (putFill n f s).pending = s.pending := rfl
@[simp] theorem putFill_crystal (n : Nat) (f : FillRecord) (s : State) : (putFill n f s).crystal = s.crystal := rfl
@[simp] theorem putFill_clock (n : Nat) (f : FillRecord) (s : State) : (putFill n f s).clock = s.clock := rfl
@[simp] theorem putFill_gs (n : Nat) (f : FillRecord) (s : State) : (putFill n f s).gs = s.gs := rfl
@[simp] theorem putFill_store (n : Nat) (f : FillRecord) (s : State) : (putFill n f s).store = s.store := rfl
@[simp] theorem putFill_fill (n : Nat) (f : FillRecord) (s : State) : (putFill n f s).fill = s.fill := rfl
@[simp] theorem putFill_pumps (n : Nat) (f : FillRecord) (s : State) : (putFill n f s).pumps = s.pumps := rfl
@[simp] theorem putFill_valve (n : Nat) (f : FillRecord) (s : State) : (putFill n f s).valve = s.valve := rfl
@[simp] theorem putFill_arbiter (n : Nat) (f : FillRecord) (s : State) : (putFill n f s).arbiter = s.arbiter := rfl
@[simp] theorem putFill_level (n : Nat) (f : FillRecord) (s : State) : (putFill n f s).level = s.level := rfl
@[simp] theorem putFill_guard (n : Nat) (f : FillRecord) (s : State) : (putFill n f s).guard = s.guard := rfl
@[simp] theorem putFill_frost (n : Nat) (f : FillRecord) (s : State) : (putFill n f s).frost = s.frost := rfl
@[simp] theorem putFill_link (n : Nat) (f : FillRecord) (s : State) : (putFill n f s).link = s.link := rfl
@[simp] theorem putFill_remote (n : Nat) (f : FillRecord) (s : State) : (putFill n f s).remote = s.remote := rfl
@[simp] theorem putFill_cabinet (n : Nat) (f : FillRecord) (s : State) : (putFill n f s).cabinet = s.cabinet := rfl
@[simp] theorem putFill_events (n : Nat) (f : FillRecord) (s : State) : (putFill n f s).events = s.events := rfl
@[simp] theorem putFill_enables (n : Nat) (f : FillRecord) (s : State) : (putFill n f s).enables = s.enables := rfl
@[simp] theorem putFill_inputs (n : Nat) (f : FillRecord) (s : State) : (putFill n f s).inputs = s.inputs := rfl
@[simp] theorem putFill_lastResult (n : Nat) (f : FillRecord) (s : State) : (putFill n f s).lastResult = s.lastResult := rfl
@[simp] theorem putFill_agenda (n : Nat) (f : FillRecord) (s : State) : (putFill n f s).agenda = s.agenda := rfl
@[simp] theorem putFill_choice (n : Nat) (f : FillRecord) (s : State) : (putFill n f s).choice = s.choice := rfl
@[simp] theorem putFill_freeCount (n : Nat) (f : FillRecord) (s : State) : (putFill n f s).freeCount = s.freeCount := rfl

@[simp] theorem putHeat_pending (n : Nat) (h : HeatRecord) (s : State) : (putHeat n h s).pending = s.pending := rfl
@[simp] theorem putHeat_crystal (n : Nat) (h : HeatRecord) (s : State) : (putHeat n h s).crystal = s.crystal := rfl
@[simp] theorem putHeat_clock (n : Nat) (h : HeatRecord) (s : State) : (putHeat n h s).clock = s.clock := rfl
@[simp] theorem putHeat_gs (n : Nat) (h : HeatRecord) (s : State) : (putHeat n h s).gs = s.gs := rfl
@[simp] theorem putHeat_store (n : Nat) (h : HeatRecord) (s : State) : (putHeat n h s).store = s.store := rfl
@[simp] theorem putHeat_fill (n : Nat) (h : HeatRecord) (s : State) : (putHeat n h s).fill = s.fill := rfl
@[simp] theorem putHeat_pumps (n : Nat) (h : HeatRecord) (s : State) : (putHeat n h s).pumps = s.pumps := rfl
@[simp] theorem putHeat_valve (n : Nat) (h : HeatRecord) (s : State) : (putHeat n h s).valve = s.valve := rfl
@[simp] theorem putHeat_arbiter (n : Nat) (h : HeatRecord) (s : State) : (putHeat n h s).arbiter = s.arbiter := rfl
@[simp] theorem putHeat_level (n : Nat) (h : HeatRecord) (s : State) : (putHeat n h s).level = s.level := rfl
@[simp] theorem putHeat_guard (n : Nat) (h : HeatRecord) (s : State) : (putHeat n h s).guard = s.guard := rfl
@[simp] theorem putHeat_frost (n : Nat) (h : HeatRecord) (s : State) : (putHeat n h s).frost = s.frost := rfl
@[simp] theorem putHeat_link (n : Nat) (h : HeatRecord) (s : State) : (putHeat n h s).link = s.link := rfl
@[simp] theorem putHeat_remote (n : Nat) (h : HeatRecord) (s : State) : (putHeat n h s).remote = s.remote := rfl
@[simp] theorem putHeat_cabinet (n : Nat) (h : HeatRecord) (s : State) : (putHeat n h s).cabinet = s.cabinet := rfl
@[simp] theorem putHeat_events (n : Nat) (h : HeatRecord) (s : State) : (putHeat n h s).events = s.events := rfl
@[simp] theorem putHeat_enables (n : Nat) (h : HeatRecord) (s : State) : (putHeat n h s).enables = s.enables := rfl
@[simp] theorem putHeat_inputs (n : Nat) (h : HeatRecord) (s : State) : (putHeat n h s).inputs = s.inputs := rfl
@[simp] theorem putHeat_lastResult (n : Nat) (h : HeatRecord) (s : State) : (putHeat n h s).lastResult = s.lastResult := rfl
@[simp] theorem putHeat_agenda (n : Nat) (h : HeatRecord) (s : State) : (putHeat n h s).agenda = s.agenda := rfl
@[simp] theorem putHeat_choice (n : Nat) (h : HeatRecord) (s : State) : (putHeat n h s).choice = s.choice := rfl
@[simp] theorem putHeat_freeCount (n : Nat) (h : HeatRecord) (s : State) : (putHeat n h s).freeCount = s.freeCount := rfl

@[simp] theorem removeRecord_pending (n : Nat) (s : State) : (removeRecord n s).pending = s.pending := rfl
@[simp] theorem removeRecord_crystal (n : Nat) (s : State) : (removeRecord n s).crystal = s.crystal := rfl
@[simp] theorem removeRecord_clock (n : Nat) (s : State) : (removeRecord n s).clock = s.clock := rfl
@[simp] theorem removeRecord_gs (n : Nat) (s : State) : (removeRecord n s).gs = s.gs := rfl
@[simp] theorem removeRecord_store (n : Nat) (s : State) : (removeRecord n s).store = s.store := rfl
@[simp] theorem removeRecord_pumps (n : Nat) (s : State) : (removeRecord n s).pumps = s.pumps := rfl
@[simp] theorem removeRecord_valve (n : Nat) (s : State) : (removeRecord n s).valve = s.valve := rfl
@[simp] theorem removeRecord_arbiter (n : Nat) (s : State) : (removeRecord n s).arbiter = s.arbiter := rfl
@[simp] theorem removeRecord_level (n : Nat) (s : State) : (removeRecord n s).level = s.level := rfl
@[simp] theorem removeRecord_guard (n : Nat) (s : State) : (removeRecord n s).guard = s.guard := rfl
@[simp] theorem removeRecord_frost (n : Nat) (s : State) : (removeRecord n s).frost = s.frost := rfl
@[simp] theorem removeRecord_remote (n : Nat) (s : State) : (removeRecord n s).remote = s.remote := rfl
@[simp] theorem removeRecord_cabinet (n : Nat) (s : State) : (removeRecord n s).cabinet = s.cabinet := rfl
@[simp] theorem removeRecord_events (n : Nat) (s : State) : (removeRecord n s).events = s.events := rfl
@[simp] theorem removeRecord_enables (n : Nat) (s : State) : (removeRecord n s).enables = s.enables := rfl
@[simp] theorem removeRecord_inputs (n : Nat) (s : State) : (removeRecord n s).inputs = s.inputs := rfl
@[simp] theorem removeRecord_lastResult (n : Nat) (s : State) : (removeRecord n s).lastResult = s.lastResult := rfl
@[simp] theorem removeRecord_agenda (n : Nat) (s : State) : (removeRecord n s).agenda = s.agenda := rfl
@[simp] theorem removeRecord_choice (n : Nat) (s : State) : (removeRecord n s).choice = s.choice := rfl
@[simp] theorem removeRecord_freeCount (n : Nat) (s : State) : (removeRecord n s).freeCount = s.freeCount := rfl

@[simp] theorem tickTimers_pending (n : Nat) (s : State) : (tickTimers n s).pending = s.pending := rfl
@[simp] theorem tickTimers_crystal (n : Nat) (s : State) : (tickTimers n s).crystal = s.crystal := rfl
@[simp] theorem tickTimers_clock (n : Nat) (s : State) : (tickTimers n s).clock = s.clock := rfl
@[simp] theorem tickTimers_gs (n : Nat) (s : State) : (tickTimers n s).gs = s.gs := rfl
@[simp] theorem tickTimers_store (n : Nat) (s : State) : (tickTimers n s).store = s.store := rfl
@[simp] theorem tickTimers_book (n : Nat) (s : State) : (tickTimers n s).book = s.book := rfl
@[simp] theorem tickTimers_arbiter (n : Nat) (s : State) : (tickTimers n s).arbiter = s.arbiter := rfl
@[simp] theorem tickTimers_guard (n : Nat) (s : State) : (tickTimers n s).guard = s.guard := rfl
@[simp] theorem tickTimers_link (n : Nat) (s : State) : (tickTimers n s).link = s.link := rfl
@[simp] theorem tickTimers_remote (n : Nat) (s : State) : (tickTimers n s).remote = s.remote := rfl
@[simp] theorem tickTimers_cabinet (n : Nat) (s : State) : (tickTimers n s).cabinet = s.cabinet := rfl
@[simp] theorem tickTimers_events (n : Nat) (s : State) : (tickTimers n s).events = s.events := rfl
@[simp] theorem tickTimers_enables (n : Nat) (s : State) : (tickTimers n s).enables = s.enables := rfl
@[simp] theorem tickTimers_inputs (n : Nat) (s : State) : (tickTimers n s).inputs = s.inputs := rfl
@[simp] theorem tickTimers_lastResult (n : Nat) (s : State) : (tickTimers n s).lastResult = s.lastResult := rfl
@[simp] theorem tickTimers_agenda (n : Nat) (s : State) : (tickTimers n s).agenda = s.agenda := rfl
@[simp] theorem tickTimers_choice (n : Nat) (s : State) : (tickTimers n s).choice = s.choice := rfl
@[simp] theorem tickTimers_freeCount (n : Nat) (s : State) : (tickTimers n s).freeCount = s.freeCount := rfl

@[simp] theorem reachInstant_pending (n : Nat) (s : State) : (reachInstant n s).pending = s.pending := rfl
@[simp] theorem reachInstant_gs (n : Nat) (s : State) : (reachInstant n s).gs = s.gs := rfl
@[simp] theorem reachInstant_store (n : Nat) (s : State) : (reachInstant n s).store = s.store := rfl
@[simp] theorem reachInstant_book (n : Nat) (s : State) : (reachInstant n s).book = s.book := rfl
@[simp] theorem reachInstant_fill (n : Nat) (s : State) : (reachInstant n s).fill = s.fill := rfl
@[simp] theorem reachInstant_pumps (n : Nat) (s : State) : (reachInstant n s).pumps = s.pumps := rfl
@[simp] theorem reachInstant_valve (n : Nat) (s : State) : (reachInstant n s).valve = s.valve := rfl
@[simp] theorem reachInstant_arbiter (n : Nat) (s : State) : (reachInstant n s).arbiter = s.arbiter := rfl
@[simp] theorem reachInstant_level (n : Nat) (s : State) : (reachInstant n s).level = s.level := rfl
@[simp] theorem reachInstant_guard (n : Nat) (s : State) : (reachInstant n s).guard = s.guard := rfl
@[simp] theorem reachInstant_frost (n : Nat) (s : State) : (reachInstant n s).frost = s.frost := rfl
@[simp] theorem reachInstant_link (n : Nat) (s : State) : (reachInstant n s).link = s.link := rfl
@[simp] theorem reachInstant_remote (n : Nat) (s : State) : (reachInstant n s).remote = s.remote := rfl
@[simp] theorem reachInstant_cabinet (n : Nat) (s : State) : (reachInstant n s).cabinet = s.cabinet := rfl
@[simp] theorem reachInstant_events (n : Nat) (s : State) : (reachInstant n s).events = s.events := rfl
@[simp] theorem reachInstant_enables (n : Nat) (s : State) : (reachInstant n s).enables = s.enables := rfl
@[simp] theorem reachInstant_inputs (n : Nat) (s : State) : (reachInstant n s).inputs = s.inputs := rfl
@[simp] theorem reachInstant_lastResult (n : Nat) (s : State) : (reachInstant n s).lastResult = s.lastResult := rfl
@[simp] theorem reachInstant_agenda (n : Nat) (s : State) : (reachInstant n s).agenda = s.agenda := rfl
@[simp] theorem reachInstant_choice (n : Nat) (s : State) : (reachInstant n s).choice = s.choice := rfl
@[simp] theorem reachInstant_freeCount (n : Nat) (s : State) : (reachInstant n s).freeCount = s.freeCount := rfl

/-! The values written. -/

@[simp] theorem emit_agenda (n : Note) (s : State) : (emit n s).agenda = s.agenda ++ [n] := rfl
@[simp] theorem setPump_pumps (p : Fin 3) (q : Pump) (s : State) : (setPump p q s).pumps = s.pumps.set p q := rfl
@[simp] theorem setAssign_fill (p : Fin 3) (a : Assignment) (s : State) : (setAssign p a s).fill = s.fill.set p a := rfl
@[simp] theorem setEvent_events (f : EventFlag) (s : State) : (setEvent f s).events = s.events ||| flagMask f := rfl
@[simp] theorem setRecords_records (rs : List Record) (s : State) : (setRecords rs s).book.records = rs := rfl
@[simp] theorem setRecords_lastAssigned (rs : List Record) (s : State) :
    (setRecords rs s).book.lastAssigned = s.book.lastAssigned := rfl
@[simp] theorem setRecords_outcomes (rs : List Record) (s : State) : (setRecords rs s).book.outcomes = s.book.outcomes := rfl
@[simp] theorem setCircuit_circuits (c : Fin 8) (q : Circuit) (s : State) :
    (setCircuit c q s).frost.circuits = s.frost.circuits.set c q := rfl
@[simp] theorem setCircuit_probes (c : Fin 8) (q : Circuit) (s : State) :
    (setCircuit c q s).frost.probes = s.frost.probes := rfl
@[simp] theorem setProbe_probes (i : Fin 8) (q : Probe) (s : State) :
    (setProbe i q s).frost.probes = s.frost.probes.set i q := rfl
@[simp] theorem setProbe_circuits (i : Fin 8) (q : Probe) (s : State) :
    (setProbe i q s).frost.circuits = s.frost.circuits := rfl
@[simp] theorem takeSample_inputs (x : Sample) (s : State) :
    (takeSample x s).inputs = { s.inputs with key := x.key, overload := x.overload } := rfl

/-! Reading a table entry just written. -/

@[simp] theorem trio_get_set_same {α : Type} (t : Trio α) (p : Fin 3) (v : α) : (t.set p v).get p = v := by
  fin_cases p <;> rfl

theorem trio_get_set_other {α : Type} (t : Trio α) (p q : Fin 3) (v : α) (h : q ≠ p) : (t.set p v).get q = t.get q := by
  fin_cases p <;> fin_cases q <;> first | rfl | exact absurd rfl h

@[simp] theorem trio_get_map {α β : Type} (f : α → β) (t : Trio α) (p : Fin 3) : (t.map f).get p = f (t.get p) := by
  fin_cases p <;> rfl

@[simp] theorem octo_get_set_same {α : Type} (t : Octo α) (c : Fin 8) (v : α) : (t.set c v).get c = v := by
  fin_cases c <;> rfl

theorem octo_get_set_other {α : Type} (t : Octo α) (c d : Fin 8) (v : α) (h : d ≠ c) : (t.set c v).get d = t.get d := by
  fin_cases c <;> fin_cases d <;> first | rfl | exact absurd rfl h

@[simp] theorem octo_get_map {α β : Type} (f : α → β) (t : Octo α) (c : Fin 8) : (t.map f).get c = f (t.get c) := by
  fin_cases c <;> rfl

end Sys2Proof.Machine
end

