-- ==== Sys2Proof/Laws/Frame.lean ====
section
/-! SUPPORT. What no announcement reaches: the parts of the state that stay as a command's own effect left them, whatever its
cascade does. One lemma per operation; `finish_still` is the one to cite. -/

namespace Sys2Proof.Machine

/-- The parts of the state that taking an announcement never changes. -/
structure Still where
  pending : List Instr
  crystal : Nat
  gs : GuardSet
  store : Store
  lastAssigned : Nat
  trust : Trust
  rank : Nat
  roundPeriod : Nat
  lastOpener : Option Nat
  holdover : Nat
  window : List Nat
  timer : Option Nat
  rejected : Nat
  probes : Octo Probe
  line : LineState
  assembly : List Byte
  round : Option Round
  answerSlot : Option Nat
  sequence : Nat
  remote : Remote
  cabinet : Cabinet
  enables : BitVec 17
  inputs : Inputs
  lastResult : Option Response

/-- The still parts of a state. -/
def still (s : State) : Still :=
  { pending := s.pending, crystal := s.crystal, gs := s.gs, store := s.store, lastAssigned := s.book.lastAssigned,
    trust := s.clock.trust, rank := s.clock.rank, roundPeriod := s.clock.roundPeriod, lastOpener := s.clock.lastOpener,
    holdover := s.clock.holdover, window := s.level.window, timer := s.level.timer, rejected := s.level.rejected,
    probes := s.frost.probes, line := s.link.line, assembly := s.link.assembly, round := s.link.round,
    answerSlot := s.link.answerSlot, sequence := s.link.sequence, remote := s.remote, cabinet := s.cabinet,
    enables := s.enables, inputs := s.inputs, lastResult := s.lastResult }

/-- A fold keeps the still parts when each of its steps does. -/
theorem foldl_still {α : Type} (f : State → α → State) (h : ∀ s a, still (f s a) = still s) (l : List α) (s : State) :
    still (l.foldl f s) = still s := by
  induction l generalizing s with
  | nil => rfl
  | cons a l ih => rw [List.foldl_cons, ih, h]

/-! ### Named updates -/

@[simp] theorem emit_still (n : Note) (s : State) : still (emit n s) = still s := rfl
@[simp] theorem emitFree_still (ns : List Note) (s : State) : still (emitFree ns s) = still s := rfl
@[simp] theorem setPump_still (p : Fin 3) (q : Pump) (s : State) : still (setPump p q s) = still s := rfl
@[simp] theorem setAssign_still (p : Fin 3) (a : Assignment) (s : State) : still (setAssign p a s) = still s := rfl
@[simp] theorem setCircuit_still (c : Fin 8) (q : Circuit) (s : State) : still (setCircuit c q s) = still s := rfl
@[simp] theorem setEvent_still (f : EventFlag) (s : State) : still (setEvent f s) = still s := rfl
@[simp] theorem setRecords_still (rs : List Record) (s : State) : still (setRecords rs s) = still s := rfl
@[simp] theorem putFill_still (n : Nat) (f : FillRecord) (s : State) : still (putFill n f s) = still s := rfl
@[simp] theorem putHeat_still (n : Nat) (h : HeatRecord) (s : State) : still (putHeat n h s) = still s := rfl
@[simp] theorem removeRecord_still (n : Nat) (s : State) : still (removeRecord n s) = still s := rfl

/-! ### The arbiter -/

@[simp] theorem confirmRunning_still (p : Fin 3) (s : State) : still (confirmRunning p s) = still s := rfl

@[simp] theorem takePumpGrant_still (p : Fin 3) (s : State) : still (takePumpGrant p s) = still s := by
  unfold takePumpGrant; dsimp only; repeat' split
  all_goals simp

@[simp] theorem takeCircuitGrant_still (c : Fin 8) (s : State) : still (takeCircuitGrant c s) = still s := by
  unfold takeCircuitGrant; dsimp only; repeat' split
  all_goals simp

@[simp] theorem takeGrant_still (k : Claimant) (s : State) : still (takeGrant k s) = still s := by
  unfold takeGrant; split <;> simp

@[simp] theorem moveToGranted_still (c : Claim) (s : State) : still (moveToGranted c s) = still s := rfl
@[simp] theorem markReclaim_still (c : Claim) (vs : List Claimant) (s : State) : still (markReclaim c vs s) = still s := rfl
@[simp] theorem dropGranted_still (k : Claimant) (s : State) : still (dropGranted k s) = still s := rfl

@[simp] theorem reportReclaim_still (k : Claimant) (s : State) : still (reportReclaim k s) = still s := by
  unfold reportReclaim; repeat' split
  all_goals simp

@[simp] theorem enterClaim_still (k : Claimant) (u : Nat) (c : ClaimClass) (s : State) :
    still (enterClaim k u c s) = still s := by
  unfold enterClaim; split <;> rfl

theorem shedCircuit_still (w : State → State) (hw : ∀ s, still (w s) = still s) (k : Claimant) (s : State) :
    still (shedCircuit w k s) = still s := by
  unfold shedCircuit; split
  · rfl
  · simp [hw]

@[simp] theorem walk_still (n : Nat) (s : State) : still (walk n s) = still s := by
  induction n generalizing s with
  | zero => rfl
  | succ n ih =>
    unfold walk; dsimp only; repeat' split
    all_goals first
      | rfl
      | (rw [ih]; simp)
      | (rw [foldl_still _ (fun t k => shedCircuit_still (walk n) ih k t),
          foldl_still _ (fun t k => reportReclaim_still k t)]; simp)

@[simp] theorem runWalk_still (s : State) : still (runWalk s) = still s := walk_still 64 s

@[simp] theorem placeClaim_still (k : Claimant) (u : Nat) (c : ClaimClass) (s : State) :
    still (placeClaim k u c s) = still s := by
  unfold placeClaim; simp

@[simp] theorem releaseClaim_still (k : Claimant) (s : State) : still (releaseClaim k s) = still s := by
  unfold releaseClaim; simp

@[simp] theorem dropWaiting_still (k : Claimant) (s : State) : still (dropWaiting k s) = still s := by
  unfold dropWaiting; dsimp only; repeat' split
  all_goals rfl

@[simp] theorem withdrawClaim_still (k : Claimant) (s : State) : still (withdrawClaim k s) = still s := by
  unfold withdrawClaim; simp

@[simp] theorem keepWeldedClaim_still (p : Fin 3) (s : State) : still (keepWeldedClaim p s) = still s := rfl

/-! ### Pumps and the valve -/

@[simp] theorem claimPump_still (p : Fin 3) (c : ClaimClass) (s : State) : still (claimPump p c s) = still s := by
  unfold claimPump; simp

@[simp] theorem enterLockout_still (p : Fin 3) (s : State) : still (enterLockout p s) = still s := rfl

@[simp] theorem enterFaulted_still (p : Fin 3) (w : FaultCause) (s : State) : still (enterFaulted p w s) = still s := by
  unfold enterFaulted; dsimp only; split <;> simp

theorem completeStopBy_still (w : State → State) (hw : ∀ s, still (w s) = still s) (p : Fin 3) (s : State) :
    still (completeStopBy w p s) = still s := by
  unfold completeStopBy; dsimp only; rw [hw, dropGranted_still]; split <;> simp

@[simp] theorem completeStop_still (p : Fin 3) (s : State) : still (completeStop p s) = still s :=
  completeStopBy_still _ runWalk_still p s

theorem enterStoppingBy_still (w : State → State) (hw : ∀ s, still (w s) = still s) (p : Fin 3) (c : StopCause) (s : State) :
    still (enterStoppingBy w p c s) = still s := by
  unfold enterStoppingBy; dsimp only; split <;> simp [completeStopBy_still w hw]

@[simp] theorem enterStopping_still (p : Fin 3) (c : StopCause) (s : State) : still (enterStopping p c s) = still s :=
  enterStoppingBy_still _ runWalk_still p c s

@[simp] theorem startCommand_still (p : Fin 3) (c : ClaimClass) (s : State) : still (startCommand p c s) = still s := by
  unfold startCommand; dsimp only; split <;> simp

theorem stopBy_still (w : State → State) (hw : ∀ s, still (w s) = still s) (p : Fin 3) (b : Bool) (s : State) :
    still (stopBy w p b s) = still s := by
  unfold stopBy; dsimp only; split <;> simp [hw, enterStoppingBy_still w hw]

@[simp] theorem stopCommand_still (p : Fin 3) (b : Bool) (s : State) : still (stopCommand p b s) = still s :=
  stopBy_still _ runWalk_still p b s

@[simp] theorem changeValve_still (v : Valve) (s : State) : still (changeValve v s) = still s := rfl
@[simp] theorem faultValve_still (d : Direction) (s : State) : still (faultValve d s) = still s := rfl

@[simp] theorem judgeLimits_still (s : State) : still (judgeLimits s) = still s := by
  unfold judgeLimits; split <;> simp

@[simp] theorem driveOpen_still (s : State) : still (driveOpen s) = still s := by unfold driveOpen; simp

@[simp] theorem driveClose_still (s : State) : still (driveClose s) = still s := by unfold driveClose; simp

@[simp] theorem closeCommand_still (s : State) : still (closeCommand s) = still s := by
  unfold closeCommand; split <;> simp

@[simp] theorem openCommand_still (s : State) : still (openCommand s) = still s := by
  unfold openCommand; split <;> simp

/-! ### Frost -/

@[simp] theorem circuitCalls_still (c : Fin 8) (s : State) : still (circuitCalls c s) = still s := by
  unfold circuitCalls; simp

@[simp] theorem circuitGivesUp_still (c : Fin 8) (s : State) : still (circuitGivesUp c s) = still s := by
  unfold circuitGivesUp; simp

@[simp] theorem circuitStops_still (c : Fin 8) (st : CircuitState) (s : State) : still (circuitStops c st s) = still s := by
  unfold circuitStops; simp

@[simp] theorem judgeCircuit_still (c : Fin 8) (s : State) : still (judgeCircuit c s) = still s := by
  unfold judgeCircuit; dsimp only; repeat' split
  all_goals simp

@[simp] theorem refreshSetpoint_still (s : State) (c : Fin 8) : still (refreshSetpoint s c) = still s := by
  unfold refreshSetpoint; dsimp only; split <;> simp

@[simp] theorem refreshSetpoints_still (s : State) : still (refreshSetpoints s) = still s := by
  unfold refreshSetpoints; exact foldl_still _ (fun t c => refreshSetpoint_still t c) _ _

@[simp] theorem setFallback_still (b : Bool) (s : State) : still (setFallback b s) = still s := by
  unfold setFallback; split
  · rfl
  · rw [refreshSetpoints_still]; rfl

@[simp] theorem turnedOver_still (s : State) : still (turnedOver s) = still s := by
  unfold turnedOver; rw [setFallback_still]; rfl

@[simp] theorem judgeTurned_still (f : Option Nat) (s : State) : still (judgeTurned f s) = still s := by
  unfold judgeTurned; repeat' split
  all_goals simp

@[simp] theorem judgeFrost_still (s : State) : still (judgeFrost s) = still s := by
  unfold judgeFrost; dsimp only; repeat' split
  all_goals simp

/-! ### The guard -/

@[simp] theorem stopAllPumps_still (s : State) : still (stopAllPumps s) = still s := by
  have e := foldl_still _ (fun t p => stopBy_still id (fun _ => rfl) p false t) pumpNumbers s
  unfold stopAllPumps; dsimp only; split
  · exact e
  · rw [runWalk_still]; exact e

theorem entry_still (o : Option EventFlag) (s : State) :
    still (match o with | some e => setEvent e s | none => s) = still s := by
  cases o <;> rfl

@[simp] theorem enterGuard_still (g : GuardState) (s : State) : still (enterGuard g s) = still s := by
  unfold enterGuard; dsimp only; repeat' split
  all_goals first
    | rfl
    | (simp; rfl)

@[simp] theorem judgeReserve_still (s : State) : still (judgeReserve s) = still s := by
  unfold judgeReserve; dsimp only; split <;> rfl

@[simp] theorem judgeGuard_still (s : State) : still (judgeGuard s) = still s := by
  unfold judgeGuard; dsimp only; split <;> simp

@[simp] theorem takeWeld_still (p : Fin 3) (s : State) : still (takeWeld p s) = still s := by
  unfold takeWeld; rw [judgeReserve_still, enterGuard_still]; rfl

@[simp] theorem refreshCeiling_still (s : State) : still (refreshCeiling s) = still s := by
  unfold refreshCeiling; dsimp only; split <;> rfl

@[simp] theorem takeTrendSample_still (s : State) : still (takeTrendSample s) = still s := rfl

/-! ### Filling -/

@[simp] theorem endRun_still (n : Nat) (p : Fin 3) (b : Bool) (h : Option Hold) (s : State) :
    still (endRun n p b h s) = still s := by
  unfold endRun; simp

@[simp] theorem bookChanged_still (n : Nat) (s : State) : still (bookChanged n s) = still s := by
  unfold bookChanged; dsimp only; split <;> simp

@[simp] theorem countOutcome_still (o : Served) (s : State) : still (countOutcome o s) = still s := rfl
@[simp] theorem clearOutcomes_still (s : State) : still (clearOutcomes s) = still s := rfl

@[simp] theorem serveOn_still (d n : Nat) (o : Served) (s : State) : still (serveOn d n o s) = still s := by
  unfold serveOn; split
  · dsimp only; rw [bookChanged_still]; repeat' split
    all_goals simp
  · rfl

@[simp] theorem serveFill_still (n : Nat) (o : Served) (s : State) : still (serveFill n o s) = still s := by
  unfold serveFill; simp

@[simp] theorem judgeChangedFill_still (n : Nat) (s : State) : still (judgeChangedFill n s) = still s := by
  unfold judgeChangedFill; dsimp only; repeat' split
  all_goals simp

@[simp] theorem judgeApplied_still (n : Nat) (f : FillRecord) (s : State) : still (judgeApplied n f s) = still s := by
  unfold judgeApplied; split <;> simp

@[simp] theorem suspendFill_still (n : Nat) (h : Hold) (b : Bool) (s : State) : still (suspendFill n h b s) = still s := by
  unfold suspendFill; dsimp only; repeat' split
  all_goals simp

@[simp] theorem newPump_still (n : Nat) (b : Bool) (s : State) : still (newPump n b s) = still s := by
  unfold newPump; dsimp only; split <;> simp

@[simp] theorem pumpFailed_still (n : Nat) (o : Origin) (s : State) : still (pumpFailed n o s) = still s := by
  unfold pumpFailed; split <;> simp

@[simp] theorem endStart_still (n : Nat) (s : State) : still (endStart n s) = still s := by
  unfold endStart; dsimp only; split <;> simp

@[simp] theorem actOn_still (r : Record) (a : FillAction) (s : State) : still (actOn r a s) = still s := by
  unfold actOn; repeat' split
  all_goals simp

@[simp] theorem handPump_still (n : Nat) (f : FillRecord) (p : Fin 3) (s : State) : still (handPump n f p s) = still s := by
  unfold handPump; simp

@[simp] theorem writeHolds_still (s : State) : still (writeHolds s) = still s := by
  unfold writeHolds; dsimp only; split <;> simp

@[simp] theorem evaluateFill_still (s : State) : still (evaluateFill s) = still s := by
  unfold evaluateFill; repeat' split
  all_goals simp

@[simp] theorem takeRunningConfirmed_still (p : Fin 3) (s : State) : still (takeRunningConfirmed p s) = still s := by
  unfold takeRunningConfirmed; dsimp only; repeat' split
  all_goals simp

@[simp] theorem takeFeedbackDrop_still (p : Fin 3) (s : State) : still (takeFeedbackDrop p s) = still s := by
  unfold takeFeedbackDrop; repeat' split
  all_goals simp

@[simp] theorem takeReclaimReport_still (p : Fin 3) (s : State) : still (takeReclaimReport p s) = still s := by
  unfold takeReclaimReport; repeat' split
  all_goals simp

@[simp] theorem takePumpChanged_still (p : Fin 3) (s : State) : still (takePumpChanged p s) = still s := by
  unfold takePumpChanged; dsimp only; rw [emit_still]; repeat' split
  all_goals simp

@[simp] theorem judgeRunAtJump_still (m n : Nat) (f : FillRecord) (w : Window) (s : State) :
    still (judgeRunAtJump m n f w s) = still s := by
  unfold judgeRunAtJump; repeat' split
  all_goals simp

@[simp] theorem judgeWindow_still (m : Nat) (j : Bool) (s : State) (n : Nat) : still (judgeWindow m j s n) = still s := by
  unfold judgeWindow; repeat' split
  all_goals simp

@[simp] theorem judgeWindows_still (m : Nat) (j : Bool) (s : State) : still (judgeWindows m j s) = still s := by
  unfold judgeWindows; rw [emit_still]; exact foldl_still _ (fun t n => judgeWindow_still m j t n) _ _

@[simp] theorem placeSystem_still (n t : Nat) (s : State) : still (placeSystem n t s) = still s := by
  unfold placeSystem; split <;> simp

@[simp] theorem takeReserveRequest_still (s : State) : still (takeReserveRequest s) = still s := by
  unfold takeReserveRequest; simp

@[simp] theorem takeWithdrawal_still (s : State) : still (takeWithdrawal s) = still s := by
  unfold takeWithdrawal; repeat' split
  all_goals simp

/-! ### The book's day and the clock -/

@[simp] theorem serveHeatOn_still (d n : Nat) (h : HeatRecord) (s : State) : still (serveHeatOn d n h s) = still s := by
  unfold serveHeatOn; dsimp only; rw [bookChanged_still]; split <;> simp

@[simp] theorem judgeHeatWindow_still (m : Nat) (j : Bool) (s : State) (n : Nat) :
    still (judgeHeatWindow m j s n) = still s := by
  unfold judgeHeatWindow; repeat' split
  all_goals simp

@[simp] theorem judgeHeatWindows_still (m : Nat) (j : Bool) (s : State) : still (judgeHeatWindows m j s) = still s := by
  unfold judgeHeatWindows; rw [refreshSetpoints_still]; exact foldl_still _ (fun t n => judgeHeatWindow_still m j t n) _ _

@[simp] theorem closeOrder_still (d : Nat) (s : State) (n : Nat) : still (closeOrder d s n) = still s := by
  unfold closeOrder; repeat' split
  all_goals simp

@[simp] theorem closeDay_still (d : Nat) (s : State) : still (closeDay d s) = still s := by
  unfold closeDay; rw [clearOutcomes_still]; exact foldl_still _ (fun t n => closeOrder_still d t n) _ _

@[simp] theorem renewOrder_still (o d : Nat) (s : State) (n : Nat) : still (renewOrder o d s n) = still s := by
  unfold renewOrder; repeat' split
  all_goals simp

@[simp] theorem newDay_still (o d : Nat) (s : State) : still (newDay o d s) = still s := by
  unfold newDay; rw [clearOutcomes_still]; exact foldl_still _ (fun t n => renewOrder_still o d t n) _ _

@[simp] theorem judgeAllowance_still (s : State) : still (judgeAllowance s) = still s := by
  unfold judgeAllowance; split <;> rfl

@[simp] theorem chargeTally_still (s : State) : still (chargeTally s) = still s := by
  unfold chargeTally; dsimp only; split
  · rfl
  · rw [emit_still, judgeAllowance_still]; rfl

@[simp] theorem rebandNow_still (s : State) : still (rebandNow s) = still s := by
  unfold rebandNow; dsimp only; split <;> rfl

@[simp] theorem rollover_still (o d : Nat) (s : State) : still (rollover o d s) = still s := by
  unfold rollover; dsimp only; rw [emit_still, emit_still, refreshSetpoints_still, judgeAllowance_still]
  show still (newDay o d (closeDay o s)) = still s
  simp

@[simp] theorem takeRollTo_still (d x : Nat) (s : State) : still (takeRollTo d x s) = still s := by
  unfold takeRollTo; dsimp only; rw [emit_still, emitFree_still, emit_still, rollover_still]; rfl

/-! ### The cascade -/

@[simp] theorem takeDiscontinuity_still (s : State) : still (takeDiscontinuity s) = still s := by
  unfold takeDiscontinuity; dsimp only; split <;> simp only [judgeWindows_still, judgeHeatWindows_still] <;> rfl

/-- Taking one announcement keeps the still parts. -/
@[simp] theorem handle_still (n : Note) (s : State) : still (handle n s) = still s := by
  unfold handle; split <;> try simp
  rw [show still { s with frost := { s.frost with stagnation := min 4320 (s.frost.stagnation + 1) } } = still s from rfl]

/-- A cascade keeps what every announcement keeps and what does not speak of the agenda. -/
theorem settle_keeps (P : State → Prop) (hh : ∀ n s, P s → P (handle n s))
    (ha : ∀ s l, P s → P { s with agenda := l }) (k : Nat) (s : State) (hs : P s) : P (settle k s) := by
  induction k generalizing s with
  | zero => exact hs
  | succ k ih =>
    unfold settle; split
    · exact hs
    · exact ih _ (ha _ _ (hh _ _ (ha _ _ hs)))

/-- The cascade keeps the still parts. -/
@[simp] theorem settle_still (k : Nat) (s : State) : still (settle k s) = still s := by
  refine settle_keeps (fun t => still t = still s) (fun n t h => ?_) (fun t l h => ?_) k s rfl
  · rw [handle_still]; exact h
  · exact h

/-- The end of a command keeps the still parts. -/
@[simp] theorem finish_still (s : State) : still (finish s) = still s := by
  show still (settle cascadeBound s) = still s
  exact settle_still _ _

/-- The end of a command keeps what every announcement keeps and what speaks of neither the agenda nor the free values. -/
theorem finish_keeps (P : State → Prop) (hh : ∀ n s, P s → P (handle n s))
    (ha : ∀ s l, P s → P { s with agenda := l })
    (hc : ∀ s c k, P s → P { s with choice := c, freeCount := k }) (s : State) (hs : P s) : P (finish s) :=
  hc _ _ _ (settle_keeps P hh ha cascadeBound s hs)

/-- A command that cascades answers a next state. -/
theorem conclude_eq (act : State → State) (s : State) : conclude act s = .next (finish (act s)) := rfl

end Sys2Proof.Machine
end

