-- ==== Sys2Proof/Laws/Calm.lean ====
section
/-! SUPPORT. What the arbiter, the pump channels, the circuits, the fill controller and the book never change by themselves: the
clock, the level monitor, the guard, the valve and every part of `Still`. -/

namespace Sys2Proof.Machine

/-- The parts that those blocks' operations keep. -/
structure Calm where
  still : Still
  clock : Clock
  level : Level
  guard : Guard
  valve : Valve

/-- The calm parts of a state. -/
def calm (s : State) : Calm :=
  { still := still s, clock := s.clock, level := s.level, guard := s.guard, valve := s.valve }

/-- A fold keeps the calm parts when each of its steps does. -/
theorem foldl_calm {α : Type} (f : State → α → State) (h : ∀ s a, calm (f s a) = calm s) (l : List α) (s : State) :
    calm (l.foldl f s) = calm s := by
  induction l generalizing s with
  | nil => rfl
  | cons a l ih => rw [List.foldl_cons, ih, h]

/-! ### Named updates -/

@[simp] theorem emit_calm (n : Note) (s : State) : calm (emit n s) = calm s := rfl
@[simp] theorem emitFree_calm (ns : List Note) (s : State) : calm (emitFree ns s) = calm s := rfl
@[simp] theorem setPump_calm (p : Fin 3) (q : Pump) (s : State) : calm (setPump p q s) = calm s := rfl
@[simp] theorem setAssign_calm (p : Fin 3) (a : Assignment) (s : State) : calm (setAssign p a s) = calm s := rfl
@[simp] theorem setCircuit_calm (c : Fin 8) (q : Circuit) (s : State) : calm (setCircuit c q s) = calm s := rfl
@[simp] theorem setEvent_calm (f : EventFlag) (s : State) : calm (setEvent f s) = calm s := rfl
@[simp] theorem setRecords_calm (rs : List Record) (s : State) : calm (setRecords rs s) = calm s := rfl
@[simp] theorem putFill_calm (n : Nat) (f : FillRecord) (s : State) : calm (putFill n f s) = calm s := rfl
@[simp] theorem putHeat_calm (n : Nat) (h : HeatRecord) (s : State) : calm (putHeat n h s) = calm s := rfl
@[simp] theorem removeRecord_calm (n : Nat) (s : State) : calm (removeRecord n s) = calm s := rfl

/-! ### The arbiter -/

@[simp] theorem confirmRunning_calm (p : Fin 3) (s : State) : calm (confirmRunning p s) = calm s := rfl

@[simp] theorem takePumpGrant_calm (p : Fin 3) (s : State) : calm (takePumpGrant p s) = calm s := by
  unfold takePumpGrant; dsimp only; repeat' split
  all_goals simp

@[simp] theorem takeCircuitGrant_calm (c : Fin 8) (s : State) : calm (takeCircuitGrant c s) = calm s := by
  unfold takeCircuitGrant; dsimp only; repeat' split
  all_goals simp

@[simp] theorem takeGrant_calm (k : Claimant) (s : State) : calm (takeGrant k s) = calm s := by
  unfold takeGrant; split <;> simp

@[simp] theorem moveToGranted_calm (c : Claim) (s : State) : calm (moveToGranted c s) = calm s := rfl
@[simp] theorem markReclaim_calm (c : Claim) (vs : List Claimant) (s : State) : calm (markReclaim c vs s) = calm s := rfl
@[simp] theorem dropGranted_calm (k : Claimant) (s : State) : calm (dropGranted k s) = calm s := rfl

@[simp] theorem reportReclaim_calm (k : Claimant) (s : State) : calm (reportReclaim k s) = calm s := by
  unfold reportReclaim; repeat' split
  all_goals simp

@[simp] theorem enterClaim_calm (k : Claimant) (u : Nat) (c : ClaimClass) (s : State) :
    calm (enterClaim k u c s) = calm s := by
  unfold enterClaim; split <;> rfl

theorem shedCircuit_calm (w : State → State) (hw : ∀ s, calm (w s) = calm s) (k : Claimant) (s : State) :
    calm (shedCircuit w k s) = calm s := by
  unfold shedCircuit; split
  · rfl
  · simp [hw]

@[simp] theorem walk_calm (n : Nat) (s : State) : calm (walk n s) = calm s := by
  induction n generalizing s with
  | zero => rfl
  | succ n ih =>
    unfold walk; dsimp only; repeat' split
    all_goals first
      | rfl
      | (rw [ih]; simp)
      | (rw [foldl_calm _ (fun t k => shedCircuit_calm (walk n) ih k t),
          foldl_calm _ (fun t k => reportReclaim_calm k t)]; simp)

@[simp] theorem runWalk_calm (s : State) : calm (runWalk s) = calm s := walk_calm 64 s

@[simp] theorem placeClaim_calm (k : Claimant) (u : Nat) (c : ClaimClass) (s : State) :
    calm (placeClaim k u c s) = calm s := by
  unfold placeClaim; simp

@[simp] theorem releaseClaim_calm (k : Claimant) (s : State) : calm (releaseClaim k s) = calm s := by
  unfold releaseClaim; simp

@[simp] theorem dropWaiting_calm (k : Claimant) (s : State) : calm (dropWaiting k s) = calm s := by
  unfold dropWaiting; dsimp only; repeat' split
  all_goals rfl

@[simp] theorem withdrawClaim_calm (k : Claimant) (s : State) : calm (withdrawClaim k s) = calm s := by
  unfold withdrawClaim; simp

@[simp] theorem keepWeldedClaim_calm (p : Fin 3) (s : State) : calm (keepWeldedClaim p s) = calm s := rfl

/-! ### Pumps -/

@[simp] theorem claimPump_calm (p : Fin 3) (c : ClaimClass) (s : State) : calm (claimPump p c s) = calm s := by
  unfold claimPump; simp

@[simp] theorem enterLockout_calm (p : Fin 3) (s : State) : calm (enterLockout p s) = calm s := rfl

@[simp] theorem enterFaulted_calm (p : Fin 3) (w : FaultCause) (s : State) : calm (enterFaulted p w s) = calm s := by
  unfold enterFaulted; dsimp only; split <;> simp

theorem completeStopBy_calm (w : State → State) (hw : ∀ s, calm (w s) = calm s) (p : Fin 3) (s : State) :
    calm (completeStopBy w p s) = calm s := by
  unfold completeStopBy; dsimp only; rw [hw, dropGranted_calm]; split <;> simp

@[simp] theorem completeStop_calm (p : Fin 3) (s : State) : calm (completeStop p s) = calm s :=
  completeStopBy_calm _ runWalk_calm p s

theorem enterStoppingBy_calm (w : State → State) (hw : ∀ s, calm (w s) = calm s) (p : Fin 3) (c : StopCause) (s : State) :
    calm (enterStoppingBy w p c s) = calm s := by
  unfold enterStoppingBy; dsimp only; split <;> simp [completeStopBy_calm w hw]

@[simp] theorem enterStopping_calm (p : Fin 3) (c : StopCause) (s : State) : calm (enterStopping p c s) = calm s :=
  enterStoppingBy_calm _ runWalk_calm p c s

@[simp] theorem startCommand_calm (p : Fin 3) (c : ClaimClass) (s : State) : calm (startCommand p c s) = calm s := by
  unfold startCommand; dsimp only; split <;> simp

theorem stopBy_calm (w : State → State) (hw : ∀ s, calm (w s) = calm s) (p : Fin 3) (b : Bool) (s : State) :
    calm (stopBy w p b s) = calm s := by
  unfold stopBy; dsimp only; split <;> simp [hw, enterStoppingBy_calm w hw]

@[simp] theorem stopCommand_calm (p : Fin 3) (b : Bool) (s : State) : calm (stopCommand p b s) = calm s :=
  stopBy_calm _ runWalk_calm p b s

/-! ### Frost -/

@[simp] theorem circuitCalls_calm (c : Fin 8) (s : State) : calm (circuitCalls c s) = calm s := by
  unfold circuitCalls; simp

@[simp] theorem circuitGivesUp_calm (c : Fin 8) (s : State) : calm (circuitGivesUp c s) = calm s := by
  unfold circuitGivesUp; simp

@[simp] theorem circuitStops_calm (c : Fin 8) (st : CircuitState) (s : State) : calm (circuitStops c st s) = calm s := by
  unfold circuitStops; simp

@[simp] theorem judgeCircuit_calm (c : Fin 8) (s : State) : calm (judgeCircuit c s) = calm s := by
  unfold judgeCircuit; dsimp only; repeat' split
  all_goals simp

@[simp] theorem refreshSetpoint_calm (s : State) (c : Fin 8) : calm (refreshSetpoint s c) = calm s := by
  unfold refreshSetpoint; dsimp only; split <;> simp

@[simp] theorem refreshSetpoints_calm (s : State) : calm (refreshSetpoints s) = calm s := by
  unfold refreshSetpoints; exact foldl_calm _ (fun t c => refreshSetpoint_calm t c) _ _

@[simp] theorem setFallback_calm (b : Bool) (s : State) : calm (setFallback b s) = calm s := by
  unfold setFallback; split
  · rfl
  · rw [refreshSetpoints_calm]; rfl

@[simp] theorem turnedOver_calm (s : State) : calm (turnedOver s) = calm s := by
  unfold turnedOver; rw [setFallback_calm]; rfl

@[simp] theorem judgeTurned_calm (f : Option Nat) (s : State) : calm (judgeTurned f s) = calm s := by
  unfold judgeTurned; repeat' split
  all_goals simp

@[simp] theorem judgeFrost_calm (s : State) : calm (judgeFrost s) = calm s := by
  unfold judgeFrost; dsimp only; repeat' split
  all_goals simp

/-! ### The stop commands of the guard -/

@[simp] theorem stopAllPumps_calm (s : State) : calm (stopAllPumps s) = calm s := by
  have e := foldl_calm _ (fun t p => stopBy_calm id (fun _ => rfl) p false t) pumpNumbers s
  unfold stopAllPumps; dsimp only; split
  · exact e
  · rw [runWalk_calm]; exact e

/-! ### Filling -/

@[simp] theorem endRun_calm (n : Nat) (p : Fin 3) (b : Bool) (h : Option Hold) (s : State) :
    calm (endRun n p b h s) = calm s := by
  unfold endRun; simp

@[simp] theorem bookChanged_calm (n : Nat) (s : State) : calm (bookChanged n s) = calm s := by
  unfold bookChanged; dsimp only; split <;> simp

@[simp] theorem countOutcome_calm (o : Served) (s : State) : calm (countOutcome o s) = calm s := rfl
@[simp] theorem clearOutcomes_calm (s : State) : calm (clearOutcomes s) = calm s := rfl

@[simp] theorem serveOn_calm (d n : Nat) (o : Served) (s : State) : calm (serveOn d n o s) = calm s := by
  unfold serveOn; split
  · dsimp only; rw [bookChanged_calm]; repeat' split
    all_goals simp
  · rfl

@[simp] theorem serveFill_calm (n : Nat) (o : Served) (s : State) : calm (serveFill n o s) = calm s := by
  unfold serveFill; simp

@[simp] theorem judgeChangedFill_calm (n : Nat) (s : State) : calm (judgeChangedFill n s) = calm s := by
  unfold judgeChangedFill; dsimp only; repeat' split
  all_goals simp

@[simp] theorem judgeApplied_calm (n : Nat) (f : FillRecord) (s : State) : calm (judgeApplied n f s) = calm s := by
  unfold judgeApplied; split <;> simp

@[simp] theorem suspendFill_calm (n : Nat) (h : Hold) (b : Bool) (s : State) : calm (suspendFill n h b s) = calm s := by
  unfold suspendFill; dsimp only; repeat' split
  all_goals simp

@[simp] theorem newPump_calm (n : Nat) (b : Bool) (s : State) : calm (newPump n b s) = calm s := by
  unfold newPump; dsimp only; split <;> simp

@[simp] theorem pumpFailed_calm (n : Nat) (o : Origin) (s : State) : calm (pumpFailed n o s) = calm s := by
  unfold pumpFailed; split <;> simp

@[simp] theorem endStart_calm (n : Nat) (s : State) : calm (endStart n s) = calm s := by
  unfold endStart; dsimp only; split <;> simp

@[simp] theorem actOn_calm (r : Record) (a : FillAction) (s : State) : calm (actOn r a s) = calm s := by
  unfold actOn; repeat' split
  all_goals simp

@[simp] theorem handPump_calm (n : Nat) (f : FillRecord) (p : Fin 3) (s : State) : calm (handPump n f p s) = calm s := by
  unfold handPump; simp

@[simp] theorem writeHolds_calm (s : State) : calm (writeHolds s) = calm s := by
  unfold writeHolds; dsimp only; split <;> simp

@[simp] theorem evaluateFill_calm (s : State) : calm (evaluateFill s) = calm s := by
  unfold evaluateFill; repeat' split
  all_goals simp

@[simp] theorem takeRunningConfirmed_calm (p : Fin 3) (s : State) : calm (takeRunningConfirmed p s) = calm s := by
  unfold takeRunningConfirmed; dsimp only; repeat' split
  all_goals simp

@[simp] theorem takeFeedbackDrop_calm (p : Fin 3) (s : State) : calm (takeFeedbackDrop p s) = calm s := by
  unfold takeFeedbackDrop; repeat' split
  all_goals simp

@[simp] theorem takeReclaimReport_calm (p : Fin 3) (s : State) : calm (takeReclaimReport p s) = calm s := by
  unfold takeReclaimReport; repeat' split
  all_goals simp

@[simp] theorem takePumpChanged_calm (p : Fin 3) (s : State) : calm (takePumpChanged p s) = calm s := by
  unfold takePumpChanged; dsimp only; rw [emit_calm]; repeat' split
  all_goals simp

@[simp] theorem judgeRunAtJump_calm (m n : Nat) (f : FillRecord) (w : Window) (s : State) :
    calm (judgeRunAtJump m n f w s) = calm s := by
  unfold judgeRunAtJump; repeat' split
  all_goals simp

@[simp] theorem judgeWindow_calm (m : Nat) (j : Bool) (s : State) (n : Nat) : calm (judgeWindow m j s n) = calm s := by
  unfold judgeWindow; repeat' split
  all_goals simp

@[simp] theorem judgeWindows_calm (m : Nat) (j : Bool) (s : State) : calm (judgeWindows m j s) = calm s := by
  unfold judgeWindows; rw [emit_calm]; exact foldl_calm _ (fun t n => judgeWindow_calm m j t n) _ _

@[simp] theorem placeSystem_calm (n t : Nat) (s : State) : calm (placeSystem n t s) = calm s := by
  unfold placeSystem; split <;> simp

@[simp] theorem takeReserveRequest_calm (s : State) : calm (takeReserveRequest s) = calm s := by
  unfold takeReserveRequest; simp

@[simp] theorem takeWithdrawal_calm (s : State) : calm (takeWithdrawal s) = calm s := by
  unfold takeWithdrawal; repeat' split
  all_goals simp

/-! ### The book's day and the clock -/

@[simp] theorem serveHeatOn_calm (d n : Nat) (h : HeatRecord) (s : State) : calm (serveHeatOn d n h s) = calm s := by
  unfold serveHeatOn; dsimp only; rw [bookChanged_calm]; split <;> simp

@[simp] theorem judgeHeatWindow_calm (m : Nat) (j : Bool) (s : State) (n : Nat) :
    calm (judgeHeatWindow m j s n) = calm s := by
  unfold judgeHeatWindow; repeat' split
  all_goals simp

@[simp] theorem judgeHeatWindows_calm (m : Nat) (j : Bool) (s : State) : calm (judgeHeatWindows m j s) = calm s := by
  unfold judgeHeatWindows; rw [refreshSetpoints_calm]; exact foldl_calm _ (fun t n => judgeHeatWindow_calm m j t n) _ _

@[simp] theorem closeOrder_calm (d : Nat) (s : State) (n : Nat) : calm (closeOrder d s n) = calm s := by
  unfold closeOrder; repeat' split
  all_goals simp

@[simp] theorem closeDay_calm (d : Nat) (s : State) : calm (closeDay d s) = calm s := by
  unfold closeDay; rw [clearOutcomes_calm]; exact foldl_calm _ (fun t n => closeOrder_calm d t n) _ _

@[simp] theorem renewOrder_calm (o d : Nat) (s : State) (n : Nat) : calm (renewOrder o d s n) = calm s := by
  unfold renewOrder; repeat' split
  all_goals simp

@[simp] theorem newDay_calm (o d : Nat) (s : State) : calm (newDay o d s) = calm s := by
  unfold newDay; rw [clearOutcomes_calm]; exact foldl_calm _ (fun t n => renewOrder_calm o d t n) _ _

/-! ### Reading one part -/

theorem calm_clock {s t : State} (h : calm s = calm t) : s.clock = t.clock := congrArg Calm.clock h
theorem calm_level {s t : State} (h : calm s = calm t) : s.level = t.level := congrArg Calm.level h
theorem calm_guard {s t : State} (h : calm s = calm t) : s.guard = t.guard := congrArg Calm.guard h
theorem calm_valve {s t : State} (h : calm s = calm t) : s.valve = t.valve := congrArg Calm.valve h
theorem calm_still {s t : State} (h : calm s = calm t) : still s = still t := congrArg Calm.still h

end Sys2Proof.Machine
end

