-- ==== Sys2Proof/Laws/Low.lean ====
section
/-! SUPPORT. What the arbiter, the pump channels and the circuits never change: the order book, the pump assignments and the link,
besides every part of `Calm`. -/

namespace Sys2Proof.Machine

/-- The parts that those blocks' operations keep. -/
structure Low where
  calm : Calm
  book : Book
  fill : Trio Assignment
  link : Link

/-- The low parts of a state. -/
def low (s : State) : Low := { calm := calm s, book := s.book, fill := s.fill, link := s.link }

/-- A fold keeps the low parts when each of its steps does. -/
theorem foldl_low {α : Type} (f : State → α → State) (h : ∀ s a, low (f s a) = low s) (l : List α) (s : State) :
    low (l.foldl f s) = low s := by
  induction l generalizing s with
  | nil => rfl
  | cons a l ih => rw [List.foldl_cons, ih, h]

/-! ### Named updates -/

@[simp] theorem emit_low (n : Note) (s : State) : low (emit n s) = low s := rfl
@[simp] theorem emitFree_low (ns : List Note) (s : State) : low (emitFree ns s) = low s := rfl
@[simp] theorem setPump_low (p : Fin 3) (q : Pump) (s : State) : low (setPump p q s) = low s := rfl
@[simp] theorem setCircuit_low (c : Fin 8) (q : Circuit) (s : State) : low (setCircuit c q s) = low s := rfl
@[simp] theorem setEvent_low (f : EventFlag) (s : State) : low (setEvent f s) = low s := rfl

/-! ### The arbiter -/

@[simp] theorem confirmRunning_low (p : Fin 3) (s : State) : low (confirmRunning p s) = low s := rfl

@[simp] theorem takePumpGrant_low (p : Fin 3) (s : State) : low (takePumpGrant p s) = low s := by
  unfold takePumpGrant; dsimp only; repeat' split
  all_goals simp

@[simp] theorem takeCircuitGrant_low (c : Fin 8) (s : State) : low (takeCircuitGrant c s) = low s := by
  unfold takeCircuitGrant; dsimp only; repeat' split
  all_goals simp

@[simp] theorem takeGrant_low (k : Claimant) (s : State) : low (takeGrant k s) = low s := by
  unfold takeGrant; split <;> simp

@[simp] theorem moveToGranted_low (c : Claim) (s : State) : low (moveToGranted c s) = low s := rfl
@[simp] theorem markReclaim_low (c : Claim) (vs : List Claimant) (s : State) : low (markReclaim c vs s) = low s := rfl
@[simp] theorem dropGranted_low (k : Claimant) (s : State) : low (dropGranted k s) = low s := rfl

@[simp] theorem reportReclaim_low (k : Claimant) (s : State) : low (reportReclaim k s) = low s := by
  unfold reportReclaim; repeat' split
  all_goals simp

@[simp] theorem enterClaim_low (k : Claimant) (u : Nat) (c : ClaimClass) (s : State) :
    low (enterClaim k u c s) = low s := by
  unfold enterClaim; split <;> rfl

theorem shedCircuit_low (w : State → State) (hw : ∀ s, low (w s) = low s) (k : Claimant) (s : State) :
    low (shedCircuit w k s) = low s := by
  unfold shedCircuit; split
  · rfl
  · simp [hw]

@[simp] theorem walk_low (n : Nat) (s : State) : low (walk n s) = low s := by
  induction n generalizing s with
  | zero => rfl
  | succ n ih =>
    unfold walk; dsimp only; repeat' split
    all_goals first
      | rfl
      | (rw [ih]; simp)
      | (rw [foldl_low _ (fun t k => shedCircuit_low (walk n) ih k t),
          foldl_low _ (fun t k => reportReclaim_low k t)]; simp)

@[simp] theorem runWalk_low (s : State) : low (runWalk s) = low s := walk_low 64 s

@[simp] theorem placeClaim_low (k : Claimant) (u : Nat) (c : ClaimClass) (s : State) :
    low (placeClaim k u c s) = low s := by
  unfold placeClaim; simp

@[simp] theorem releaseClaim_low (k : Claimant) (s : State) : low (releaseClaim k s) = low s := by
  unfold releaseClaim; simp

@[simp] theorem dropWaiting_low (k : Claimant) (s : State) : low (dropWaiting k s) = low s := by
  unfold dropWaiting; dsimp only; repeat' split
  all_goals rfl

@[simp] theorem withdrawClaim_low (k : Claimant) (s : State) : low (withdrawClaim k s) = low s := by
  unfold withdrawClaim; simp

@[simp] theorem keepWeldedClaim_low (p : Fin 3) (s : State) : low (keepWeldedClaim p s) = low s := rfl

/-! ### Pumps -/

@[simp] theorem claimPump_low (p : Fin 3) (c : ClaimClass) (s : State) : low (claimPump p c s) = low s := by
  unfold claimPump; simp

@[simp] theorem enterLockout_low (p : Fin 3) (s : State) : low (enterLockout p s) = low s := rfl

@[simp] theorem enterFaulted_low (p : Fin 3) (w : FaultCause) (s : State) : low (enterFaulted p w s) = low s := by
  unfold enterFaulted; dsimp only; split <;> simp

theorem completeStopBy_low (w : State → State) (hw : ∀ s, low (w s) = low s) (p : Fin 3) (s : State) :
    low (completeStopBy w p s) = low s := by
  unfold completeStopBy; dsimp only; rw [hw, dropGranted_low]; split <;> simp

@[simp] theorem completeStop_low (p : Fin 3) (s : State) : low (completeStop p s) = low s :=
  completeStopBy_low _ runWalk_low p s

theorem enterStoppingBy_low (w : State → State) (hw : ∀ s, low (w s) = low s) (p : Fin 3) (c : StopCause) (s : State) :
    low (enterStoppingBy w p c s) = low s := by
  unfold enterStoppingBy; dsimp only; split <;> simp [completeStopBy_low w hw]

@[simp] theorem enterStopping_low (p : Fin 3) (c : StopCause) (s : State) : low (enterStopping p c s) = low s :=
  enterStoppingBy_low _ runWalk_low p c s

@[simp] theorem startCommand_low (p : Fin 3) (c : ClaimClass) (s : State) : low (startCommand p c s) = low s := by
  unfold startCommand; dsimp only; split <;> simp

theorem stopBy_low (w : State → State) (hw : ∀ s, low (w s) = low s) (p : Fin 3) (b : Bool) (s : State) :
    low (stopBy w p b s) = low s := by
  unfold stopBy; dsimp only; split <;> simp [hw, enterStoppingBy_low w hw]

@[simp] theorem stopCommand_low (p : Fin 3) (b : Bool) (s : State) : low (stopCommand p b s) = low s :=
  stopBy_low _ runWalk_low p b s

/-! ### Frost -/

@[simp] theorem circuitCalls_low (c : Fin 8) (s : State) : low (circuitCalls c s) = low s := by
  unfold circuitCalls; simp

@[simp] theorem circuitGivesUp_low (c : Fin 8) (s : State) : low (circuitGivesUp c s) = low s := by
  unfold circuitGivesUp; simp

@[simp] theorem circuitStops_low (c : Fin 8) (st : CircuitState) (s : State) : low (circuitStops c st s) = low s := by
  unfold circuitStops; simp

@[simp] theorem judgeCircuit_low (c : Fin 8) (s : State) : low (judgeCircuit c s) = low s := by
  unfold judgeCircuit; dsimp only; repeat' split
  all_goals simp

@[simp] theorem refreshSetpoint_low (s : State) (c : Fin 8) : low (refreshSetpoint s c) = low s := by
  unfold refreshSetpoint; dsimp only; split <;> simp

@[simp] theorem refreshSetpoints_low (s : State) : low (refreshSetpoints s) = low s := by
  unfold refreshSetpoints; exact foldl_low _ (fun t c => refreshSetpoint_low t c) _ _

@[simp] theorem setFallback_low (b : Bool) (s : State) : low (setFallback b s) = low s := by
  unfold setFallback; split
  · rfl
  · rw [refreshSetpoints_low]; rfl

@[simp] theorem turnedOver_low (s : State) : low (turnedOver s) = low s := by
  unfold turnedOver; rw [setFallback_low]; rfl

@[simp] theorem judgeTurned_low (f : Option Nat) (s : State) : low (judgeTurned f s) = low s := by
  unfold judgeTurned; repeat' split
  all_goals simp

@[simp] theorem judgeFrost_low (s : State) : low (judgeFrost s) = low s := by
  unfold judgeFrost; dsimp only; repeat' split
  all_goals simp

/-! ### The stop commands of the guard -/

@[simp] theorem stopAllPumps_low (s : State) : low (stopAllPumps s) = low s := by
  have e := foldl_low _ (fun t p => stopBy_low id (fun _ => rfl) p false t) pumpNumbers s
  unfold stopAllPumps; dsimp only; split
  · exact e
  · rw [runWalk_low]; exact e

/-! ### Reading one part -/

theorem low_book {s t : State} (h : low s = low t) : s.book = t.book := congrArg Low.book h
theorem low_fill {s t : State} (h : low s = low t) : s.fill = t.fill := congrArg Low.fill h
theorem low_link {s t : State} (h : low s = low t) : s.link = t.link := congrArg Low.link h
theorem low_calm {s t : State} (h : low s = low t) : calm s = calm t := congrArg Low.calm h

/-- A record is found where the book is the same. -/
theorem low_findRecord {s t : State} (h : low s = low t) (n : Nat) : findRecord n s = findRecord n t := by
  unfold findRecord; rw [low_book h]

end Sys2Proof.Machine
end

