-- ==== Sys2Proof/Laws/Book.lean ====
section
/-! SUPPORT. Finding a record in the book after each named update, and what taking a request leaves of the state that its owner
left. -/

namespace Sys2Proof.Machine

/-! ### Finding a record -/

/-- Equal books hold equal records. -/
theorem findRecord_congr {s t : State} (h : s.book = t.book) (n : Nat) : findRecord n s = findRecord n t := by
  unfold findRecord; rw [h]

/-- A record entered under a number that was free is found. -/
theorem insertRecord_finds (r : Record) (rs : List Record) (h : ∀ x ∈ rs, x.number ≠ r.number) :
    (insertRecord r rs).find? (fun x => x.number = r.number) = some r := by
  induction rs with
  | nil => simp [insertRecord]
  | cons x rest ih =>
    unfold insertRecord; split
    · simp
    · rw [List.find?_cons_of_neg (by simpa using h x (by simp))]
      exact ih (fun y hy => h y (by simp [hy]))

/-- A change of the record of a number, which leaves the number as it is, is found under that number. -/
theorem mapRecord_finds (n : Nat) (g : Record → Record) (rs : List Record) (r : Record)
    (hg : ∀ x : Record, x.number = n → (g x).number = n) (h : rs.find? (fun x => x.number = n) = some r) :
    (mapRecord n g rs).find? (fun x => x.number = n) = some (g r) := by
  have hn : r.number = n := by simpa using List.find?_some h
  have e : ((fun x : Record => decide (x.number = n)) ∘ fun x => if x.number = n then g x else x) =
      fun x => decide (x.number = n) := by
    funext x
    by_cases hx : x.number = n
    · simp [hx, hg x hx]
    · simp [hx]
  unfold mapRecord
  rw [List.find?_map, e, h]
  simp [hn]

/-- A change of the record of one number leaves what is found under another. -/
theorem mapRecord_other (n m : Nat) (g : Record → Record) (rs : List Record)
    (hg : ∀ x : Record, x.number = n → (g x).number = n) (hm : m ≠ n) :
    (mapRecord n g rs).find? (fun x => x.number = m) = rs.find? (fun x => x.number = m) := by
  induction rs with
  | nil => rfl
  | cons x rest ih =>
    unfold mapRecord at ih ⊢
    rw [List.map_cons, List.find?_cons, List.find?_cons, ih]
    by_cases hx : x.number = n
    · have h1 : ¬ (g x).number = m := by rw [hg x hx]; exact fun e => hm e.symm
      have h2 : ¬ n = m := fun e => hm e.symm
      simp [hx, h1, h2]
    · simp [hx]

theorem putFill_finds (n : Nat) (f : FillRecord) (s : State) (r : Record) (h : findRecord n s = some r) :
    findRecord n (putFill n f s) = some { r with body := .fill f } :=
  mapRecord_finds n _ _ r (fun _ hx => hx) h

theorem putFill_other (n m : Nat) (f : FillRecord) (s : State) (hm : m ≠ n) :
    findRecord m (putFill n f s) = findRecord m s :=
  mapRecord_other n m _ _ (fun _ hx => hx) hm

theorem putHeat_finds (n : Nat) (h : HeatRecord) (s : State) (r : Record) (hr : findRecord n s = some r) :
    findRecord n (putHeat n h s) = some { r with body := .heat h } :=
  mapRecord_finds n _ _ r (fun _ hx => hx) hr

theorem bumpRevision_finds (n : Nat) (s : State) (r : Record) (h : findRecord n s = some r) :
    findRecord n (bumpRevision n s) = some { r with revision := (r.revision + 1) % 256 } :=
  mapRecord_finds n _ _ r (fun _ hx => hx) h

/-- A removed number is no longer live. -/
theorem removeRecord_finds (n : Nat) (s : State) : findRecord n (removeRecord n s) = none := by
  unfold findRecord removeRecord; simp

/-- The removal of one number leaves what is found under another. -/
theorem removeRecord_other (n m : Nat) (s : State) (hm : m ≠ n) :
    findRecord m (removeRecord n s) = findRecord m s := by
  unfold findRecord removeRecord
  simp only [List.find?_filter]
  congr 1
  funext x
  by_cases hx : x.number = m
  · simp [hx, hm]
  · simp [hx]

@[simp] theorem bookChanged_book (n : Nat) (s : State) : (bookChanged n s).book = s.book := by
  unfold bookChanged; dsimp only; split <;> rfl

/-- A record that PLACE enters is found as it was entered. -/
theorem enterRecord_finds (n : Nat) (port : Port) (b : Body) (s : State) (h : isLive n s = false) :
    findRecord n (enterRecord n port b s) =
      some { number := n, origin := originOf port, revision := 0, body := b } := by
  unfold enterRecord; dsimp only
  rw [findRecord_congr (bookChanged_book n _)]
  refine insertRecord_finds { number := n, origin := originOf port, revision := 0, body := b } s.book.records ?_
  intro x hx hn
  simp [isLive, findRecord] at h
  exact h x hx hn

theorem enterRecord_clock (n : Nat) (port : Port) (b : Body) (s : State) : (enterRecord n port b s).clock = s.clock := by
  unfold enterRecord bookChanged; dsimp only; split <;> rfl

theorem enterRecord_lastAssigned (n : Nat) (port : Port) (b : Body) (s : State) :
    (enterRecord n port b s).book.lastAssigned = n := by
  unfold enterRecord; dsimp only; rw [bookChanged_book]

/-! ### Who carries a request out -/

theorem carryOut_place (port : Port) (o : PlaceFields) (s : State) :
    carryOut port (.place o) s = placeOrder port o s := rfl
theorem carryOut_amend (port : Port) (n : Nat) (e : Option Nat) (a : AmendFields) (s : State) :
    carryOut port (.amend n e a) s = amendOrder n e a s := rfl
theorem carryOut_retire (port : Port) (n : Nat) (e : Option Nat) (s : State) :
    carryOut port (.retire n e) s = retireOrder n e s := rfl
theorem carryOut_look (port : Port) (n : Nat) (s : State) : carryOut port (.look n) s = (s, lookNow n s) := rfl
theorem carryOut_list (port : Port) (n : Nat) (s : State) : carryOut port (.list n) s = (s, listNow n s) := rfl
theorem carryOut_readTower (port : Port) (n : Nat) (s : State) :
    carryOut port (.readTower n) s = (s, towerShown port s (readTowerNow n s)) := rfl
theorem carryOut_readGuard (port : Port) (ids : List Byte) (s : State) :
    carryOut port (.readGuard ids) s = (s, readGuardNow port ids s) := rfl
theorem carryOut_writeGuard (port : Port) (i : Byte) (v : BitVec 32) (s : State) :
    carryOut port (.writeGuard i v) s = writeGuardNow port i v s := rfl
theorem carryOut_setTariff (port : Port) (es : List TariffField) (s : State) :
    carryOut port (.setTariff es) s = setTariffNow es s := rfl
theorem carryOut_readTariff (port : Port) (s : State) : carryOut port .readTariff s = (s, readTariffNow s) := rfl
theorem carryOut_setClock (port : Port) (d m x : Nat) (s : State) :
    carryOut port (.setClock d m x) s = cabinetOnly port (setClockNow d m x) s := rfl
theorem carryOut_unlock (port : Port) (c : BitVec 32) (s : State) :
    carryOut port (.unlock c) s = districtOnly port (unlockNow c) s := rfl
theorem carryOut_lock (port : Port) (s : State) : carryOut port .lock s = lockNow s := rfl
theorem carryOut_pumpService (port : Port) (p o : Nat) (s : State) :
    carryOut port (.pumpService p o) s = pumpServiceNow port p o s := rfl
theorem carryOut_circuitReset (port : Port) (c : Nat) (s : State) :
    carryOut port (.circuitReset c) s = circuitResetNow port c s := rfl
theorem carryOut_acknowledge (port : Port) (s : State) :
    carryOut port .acknowledge s = cabinetOnly port acknowledgeNow s := rfl
theorem carryOut_clearEvents (port : Port) (f : BitVec 17) (s : State) :
    carryOut port (.clearEvents f) s = cabinetOnly port (clearEventsNow f) s := rfl
theorem carryOut_setEventEnables (port : Port) (f : BitVec 17) (s : State) :
    carryOut port (.setEventEnables f) s = cabinetOnly port (setEnablesNow f) s := rfl

/-! ### Taking a request -/

theorem noteFormed_book (port : Port) (q : Request) (r : Response) (s : State) : (noteFormed port q r s).book = s.book := by
  unfold noteFormed; split <;> try rfl
  split <;> rfl

theorem markRemote_book (port : Port) (q : Request) (r : Response) (b s : State) : (markRemote port q r b s).book = s.book := by
  unfold markRemote; split <;> try rfl
  split <;> rfl

/-- The order book after a request is as its owner left it. -/
theorem takeRequest_book (port : Port) (q : Request) (s : State) :
    (takeRequest port q s).book = (carryOut port q s).1.book := by
  unfold takeRequest; dsimp only; rw [noteFormed_book]; exact markRemote_book _ _ _ _ _

/-- A request that leaves the state, with a result that changes nothing of the tower, leaves only its result. -/
theorem takeRequest_refused (port : Port) (q : Request) (r : Response) (s : State) (e : carryOut port q s = (s, r))
    (h : changesTower q r s = false) :
    takeRequest port q s = noteFormed port q r { s with lastResult := some r } := by
  unfold takeRequest; rw [e]; dsimp only; unfold markRemote; rw [h]; cases port <;> rfl

theorem finish_lastResult (s : State) : (finish s).lastResult = s.lastResult := congrArg Still.lastResult (finish_still s)

theorem finish_lastAssigned (s : State) : (finish s).book.lastAssigned = s.book.lastAssigned :=
  congrArg Still.lastAssigned (finish_still s)

end Sys2Proof.Machine
end

