-- ==== Sys2Proof/Laws/Pumps.lean ====
section
/-! SUPPORT. What the granting walk can do to a pump channel (only one in CLAIMING moves), what an entry of the guard leaves, and what
a request taken leaves. -/

namespace Sys2Proof.Machine

/-! ### The granting walk and the pumps -/

theorem confirmRunning_other (p q : Fin 3) (s : State) (h : q ≠ p) :
    (confirmRunning p s).pumps.get q = s.pumps.get q := trio_get_set_other _ _ _ _ h

/-- A grant moves no channel but its claimant's, and that one only from CLAIMING. -/
theorem takeGrant_pump (k : Claimant) (s : State) (p : Fin 3) (h : (s.pumps.get p).state ≠ .claiming) :
    (takeGrant k s).pumps.get p = s.pumps.get p := by
  unfold takeGrant; split
  · rename_i q
    by_cases hq : p = q
    · subst hq; unfold takePumpGrant; simp [h]
    · unfold takePumpGrant; dsimp only; split
      · rfl
      · split
        · rw [confirmRunning_other _ _ _ hq]; exact trio_get_set_other _ _ _ _ hq
        · exact trio_get_set_other _ _ _ _ hq
  · unfold takeCircuitGrant; dsimp only; split <;> rfl

theorem reportReclaim_pumps (k : Claimant) (s : State) : (reportReclaim k s).pumps = s.pumps := by
  unfold reportReclaim; repeat' split
  all_goals rfl

theorem enterClaim_pumps (k : Claimant) (u : Nat) (c : ClaimClass) (s : State) :
    (enterClaim k u c s).pumps = s.pumps := by
  unfold enterClaim; split <;> rfl

/-- A property that each step of a fold keeps, the fold keeps. -/
theorem foldl_keeps {α σ : Type} (P : σ → Prop) (f : σ → α → σ) (h : ∀ s a, P s → P (f s a)) (l : List α) (s : σ)
    (hs : P s) : P (l.foldl f s) := by
  induction l generalizing s with
  | nil => exact hs
  | cons a l ih => exact ih _ (h _ _ hs)

/-- The walk leaves a channel outside CLAIMING as it stands. -/
theorem walk_pump (n : Nat) (s : State) (p : Fin 3) (h : (s.pumps.get p).state ≠ .claiming) :
    (walk n s).pumps.get p = s.pumps.get p := by
  induction n generalizing s with
  | zero => rfl
  | succ n ih =>
    unfold walk; dsimp only; repeat' split
    · rfl
    · rfl
    · rename_i c _ _ _
      have e : (takeGrant c.claimant (moveToGranted c s)).pumps.get p = s.pumps.get p := takeGrant_pump _ _ _ h
      rw [ih _ (by rw [e]; exact h), e]
    · rfl
    · refine foldl_keeps (fun t : State => t.pumps.get p = s.pumps.get p) _ (fun t k ht => ?_) _ _ ?_
      · unfold shedCircuit; split
        · exact ht
        · have h1 : ∀ u : State, u.pumps.get p = s.pumps.get p → (walk n u).pumps.get p = s.pumps.get p :=
            fun u hu => by rw [ih u (by rw [hu]; exact h), hu]
          refine h1 _ ?_
          rw [enterClaim_pumps]
          exact h1 _ ht
      · exact foldl_keeps (fun t : State => t.pumps.get p = s.pumps.get p) _
          (fun t k ht => by rw [reportReclaim_pumps]; exact ht) _ _ rfl

/-- A release leaves every channel outside CLAIMING as it stands. -/
theorem releaseClaim_pump (k : Claimant) (s : State) (p : Fin 3) (h : (s.pumps.get p).state ≠ .claiming) :
    (releaseClaim k s).pumps.get p = s.pumps.get p := walk_pump 64 (dropGranted k s) p h

theorem dropWaiting_pumps (k : Claimant) (s : State) : (dropWaiting k s).pumps = s.pumps := by
  unfold dropWaiting; dsimp only; repeat' split
  all_goals rfl

/-- A withdrawal leaves every channel outside CLAIMING as it stands. -/
theorem withdrawClaim_pump (k : Claimant) (s : State) (p : Fin 3) (h : (s.pumps.get p).state ≠ .claiming) :
    (withdrawClaim k s).pumps.get p = s.pumps.get p := by
  rw [← dropWaiting_pumps k s] at h ⊢
  exact walk_pump 64 _ p h

/-- A claim placed leaves every channel outside CLAIMING as it stands. -/
theorem placeClaim_pump (k : Claimant) (u : Nat) (c : ClaimClass) (s : State) (p : Fin 3)
    (h : (s.pumps.get p).state ≠ .claiming) : (placeClaim k u c s).pumps.get p = s.pumps.get p := by
  unfold placeClaim runWalk
  rw [walk_pump 64 _ p (by rw [enterClaim_pumps]; exact h), enterClaim_pumps]

/-! ### The guard's entries -/

/-- A stop without a walk leaves the channel as R85 gives it in its present state. -/
theorem stopBy_id_self (p : Fin 3) (s : State) : (stopBy id p false s).pumps.get p = Safety.stoppedNow s p := by
  have run : ∀ t : State, t = setPump p { s.pumps.get p with pendingStart := none } s →
      (enterStoppingBy id p .none t).pumps.get p =
        let released := { s.pumps.get p with pendingStart := none, stopCause := .none, dwell := none, confirm := none }
        if s.inputs.feedback.get p then
          { released with state := .stopping, stopTimer := some s.gs.stopConfirmTime, judged := true }
        else { released with state := .lockout, stopTimer := none, lockout := some s.gs.lockoutTime, judged := false } := by
    intro t ht; subst ht
    unfold enterStoppingBy completeStopBy enterLockout
    cases hf : s.inputs.feedback.get p <;> simp [hf, dropGranted]
  unfold stopBy Safety.stoppedNow
  cases h : (s.pumps.get p).state <;> simp [h, dropWaiting_pumps, run]

theorem enterFaulted_other (p q : Fin 3) (w : FaultCause) (s : State) (h : q ≠ p) :
    (enterFaulted p w s).pumps.get q = s.pumps.get q := by
  unfold enterFaulted; dsimp only; split <;> exact trio_get_set_other _ _ _ _ h

/-- A stop without a walk leaves every other channel as it stands. -/
theorem stopBy_id_other (p q : Fin 3) (b : Bool) (s : State) (h : q ≠ p) :
    (stopBy id p b s).pumps.get q = s.pumps.get q := by
  have comp : ∀ t : State, (completeStopBy id p t).pumps.get q = t.pumps.get q := by
    intro t; unfold completeStopBy; dsimp only [id, dropGranted]; split
    all_goals first
      | (rw [enterFaulted_other p q _ _ h]; exact trio_get_set_other _ _ _ _ h)
      | (unfold enterLockout; simp [trio_get_set_other _ _ _ _ h])
  have run : ∀ (w : StopCause) (t : State), (enterStoppingBy id p w t).pumps.get q = t.pumps.get q := by
    intro w t; unfold enterStoppingBy; dsimp only; split
    · exact trio_get_set_other _ _ _ _ h
    · rw [comp]; exact trio_get_set_other _ _ _ _ h
  unfold stopBy; dsimp only; split
  all_goals first
    | rfl
    | (rw [id, dropWaiting_pumps]; exact trio_get_set_other _ _ _ _ h)
    | (rw [run]; exact trio_get_set_other _ _ _ _ h)
    | exact trio_get_set_other _ _ _ _ h

/-- At an entry of the guard every channel takes its stop in the state it had before, and none is left in CLAIMING, STARTING or RUNNING
(R85, R122). -/
theorem stopAllPumps_pump (s : State) (p : Fin 3) : (stopAllPumps s).pumps.get p = Safety.stoppedNow s p := by
  have keeps : ∀ (k : Fin 3) (t : State), (stopBy id k false t).gs = t.gs ∧ (stopBy id k false t).inputs = t.inputs :=
    fun k t =>
      have e := calm_still (stopBy_calm id (fun _ => rfl) k false t)
      ⟨congrArg Still.gs e, congrArg Still.inputs e⟩
  have moved : ∀ (k q : Fin 3) (t : State), q ≠ k → Safety.stoppedNow (stopBy id k false t) q = Safety.stoppedNow t q := by
    intro k q t h
    unfold Safety.stoppedNow; rw [stopBy_id_other k q false t h, (keeps k t).1, (keeps k t).2]
  have all : (pumpNumbers.foldl (fun u k => stopBy id k false u) s).pumps.get p = Safety.stoppedNow s p := by
    show (stopBy id 2 false (stopBy id 1 false (stopBy id 0 false s))).pumps.get p = _
    have cases3 : p = 0 ∨ p = 1 ∨ p = 2 := by revert p; decide
    rcases cases3 with rfl | rfl | rfl
    · rw [stopBy_id_other 2 0 _ _ (by decide), stopBy_id_other 1 0 _ _ (by decide), stopBy_id_self]
    · rw [stopBy_id_other 2 1 _ _ (by decide), stopBy_id_self, moved 0 1 _ (by decide)]
    · rw [stopBy_id_self, moved 1 2 _ (by decide), moved 0 2 _ (by decide)]
  have rest : (Safety.stoppedNow s p).state ≠ .claiming := by
    unfold Safety.stoppedNow
    cases h : (s.pumps.get p).state <;> cases hf : s.inputs.feedback.get p <;> simp [h]
  unfold stopAllPumps; dsimp only; split
  · exact all
  · unfold runWalk
    rw [walk_pump 64 _ p (by rw [all]; exact rest)]
    exact all

theorem judgeLimits_guard (s : State) : (judgeLimits s).guard = s.guard := by
  unfold judgeLimits; split <;> rfl

theorem driveOpen_guard (s : State) : (driveOpen s).guard = s.guard := by
  unfold driveOpen; rw [judgeLimits_guard]; rfl

theorem driveClose_guard (s : State) : (driveClose s).guard = s.guard := by
  unfold driveClose; rw [judgeLimits_guard]; rfl

theorem closeCommand_guard (s : State) : (closeCommand s).guard = s.guard := by
  unfold closeCommand; split <;> first | rfl | exact driveClose_guard s

theorem openCommand_guard (s : State) : (openCommand s).guard = s.guard := by
  unfold openCommand; split <;> first | rfl | exact driveOpen_guard s

/-- After an entry the guard holds the state entered, and nothing else of the guard has changed. -/
theorem enterGuard_guard (g : GuardState) (s : State) : (enterGuard g s).guard = { s.guard with state := g } := by
  unfold enterGuard; dsimp only; split
  · rename_i h; subst h; rfl
  · show (ite _ _ _ : State).guard = _
    have e : ∀ t : State, (match entryEvent g with | some e => setEvent e t | none => t).guard = t.guard := by
      intro t; cases entryEvent g <;> rfl
    have k : ∀ t : State, (stopAllPumps t).guard = t.guard := fun t => calm_guard (stopAllPumps_calm t)
    have f : ∀ t : State, t.guard = { s.guard with state := g } →
        (if stopsPumps g = true then stopAllPumps t else t).guard = { s.guard with state := g } := by
      intro t ht; split
      · rw [k, ht]
      · exact ht
    split
    · rw [closeCommand_guard]; exact f _ (e _)
    · exact f _ (e _)

theorem judgeReserve_state (s : State) : (judgeReserve s).guard.state = s.guard.state := by
  unfold judgeReserve; dsimp only; split <;> rfl

/-! ### Requests -/

theorem noteFormed_lastResult (port : Port) (q : Request) (r : Response) (s : State) :
    (noteFormed port q r s).lastResult = s.lastResult := by
  unfold noteFormed; split
  · split <;> rfl
  · rfl

/-- The result a request forms is kept as the last result. -/
@[simp] theorem takeRequest_lastResult (port : Port) (q : Request) (s : State) :
    (takeRequest port q s).lastResult = some (carryOut port q s).2 := by
  unfold takeRequest; rw [noteFormed_lastResult]

/-- A request from the district link leaves its owner's state, with REMOTE set when it changed the tower. -/
theorem takeRequest_district (q : Request) (s : State) :
    takeRequest .district q s =
      { markRemote .district q (carryOut .district q s).2 s (carryOut .district q s).1 with
        lastResult := some (carryOut .district q s).2 } := rfl

end Sys2Proof.Machine
end

