-- ==== Sys2Proof/WellFormed.lean ====
section
/-! DEFINITION. Which commands are well formed: every operand fits the width that chapter 12 gives it on the wire,
or the width of the input it comes from. The checks a request itself makes (R15, R17, R195 and the others) are no part of this. -/

namespace Sys2Proof.WellFormed

/-- A value that fits in one byte. -/
def byte (n : Nat) : Bool := n < 256

/-- A value that fits in two bytes. -/
def half (n : Nat) : Bool := n < 65536

/-- A temperature that fits in two signed bytes. -/
def signedHalf (t : Int) : Bool := -32768 ≤ t && t < 32768

/-- The fields of a recurrence fit their bytes (chapter 12.3). -/
def recurrence : RecurrenceField → Bool
  | .onceOn d => half d
  | .once => true
  | .every k r => byte k && byte r

/-- An absent field fits, and a present one fits its width. -/
def opt {α : Type} (f : α → Bool) : Option α → Bool
  | none => true
  | some a => f a

/-- The fields of a PLACE fit their bytes (chapter 12.3). -/
def placeFields : PlaceFields → Bool
  | .fill f => byte f.pump && half f.target && half f.start && half f.stop && recurrence f.recur && byte f.priority
  | .heat h => byte h.circuit && signedHalf h.hold && half h.start && half h.stop && recurrence h.recur
  | .report r => byte r.slot && byte r.k && byte r.r

/-- The fields of an AMEND fit their bytes (chapter 12.3). -/
def amendFields : AmendFields → Bool
  | .fill f => opt byte f.pump && opt half f.target && opt half f.start && opt half f.stop && opt recurrence f.recur
      && opt byte f.priority
  | .heat h => opt byte h.circuit && opt signedHalf h.hold && opt half h.start && opt half h.stop && opt recurrence h.recur
  | .report r => opt byte r.slot && opt (fun c => byte c.1 && byte c.2) r.code

/-- A frame the controller can have assembled holds at most 96 body bytes (R154). -/
def frame (f : Frame) : Bool := f.body.length ≤ 96

end Sys2Proof.WellFormed

namespace Sys2Proof

/-- Every operand of the command fits its width. -/
def wellFormed : Instr → Bool
  | .place _ o => WellFormed.placeFields o
  | .amend _ n e f => WellFormed.byte n && WellFormed.opt WellFormed.byte e && WellFormed.amendFields f
  | .retire _ n e => WellFormed.byte n && WellFormed.opt WellFormed.byte e
  | .look _ n => WellFormed.byte n
  | .list _ n => WellFormed.byte n
  | .readTower _ _ n => WellFormed.byte n
  | .readGuard _ ids => ids.length ≤ 96
  | .writeGuard _ _ _ _ => true
  | .setTariff _ es => es.all (fun e => WellFormed.half e.start && WellFormed.byte e.band) && es.length ≤ 31
  | .readTariff _ => true
  | .setClock _ d m s => WellFormed.half d && WellFormed.half m && WellFormed.byte s
  | .unlock _ _ => true
  | .lock _ => true
  | .pumpServiceOut _ _ p => WellFormed.byte p
  | .pumpServiceReturn _ _ p => WellFormed.byte p
  | .circuitReset _ c => WellFormed.byte c
  | .acknowledge _ _ => true
  | .clearEvents _ _ => true
  | .setEventEnables _ _ => true
  | .cabinetFrameBegin => true
  | .cabinetFrameEnd _ _ => true
  | .frameStart => true
  | .frameCutShort => true
  | .byteGapTimeout => true
  | .discardedFrame f => WellFormed.frame f
  | .ignoredFrame f => WellFormed.frame f
  | .opener _ f => WellFormed.frame f
  | .requestFrame _ _ f => WellFormed.frame f
  | .slotStart n => n ≤ 31
  | .instantOfSending => true
  | .transmissionEnd => true
  | .minuteEvent => true
  | .holdoverEntry => true
  | .holdoverRound => true
  | .flowPulse _ => true
  | .noFlowExpiry _ => true
  | .dwellExpiry _ => true
  | .confirmExpiry _ => true
  | .feedbackCloses _ => true
  | .feedbackOpens _ _ => true
  | .overloadTrip _ => true
  | .stopTimerExpiry _ => true
  | .lockoutExpiry _ => true
  | .valveLimitChange _ _ => true
  | .travelTimerExpiry => true
  | .levelReading v _ => WellFormed.signedHalf v
  | .validityTimerExpiry => true
  | .floatChange _ => true
  | .probeReading _ t _ => WellFormed.signedHalf t
  | .silenceTimerExpiry _ => true
  | .heaterCurrentChange _ _ => true
  | .feedbackTimerExpiry _ => true
  | .commitEnd => true
  | .reset _ => true
  | .ownerFormsResult _ => true
  | .secondAdvance => true

end Sys2Proof
end

