-- ==== Sys2Proof/Tests/Slice0.lean ====
section
/-! SUPPORT. The model's own small tests: ill-formed commands, the worked values of the spec, a few single steps, and for each statement
with hypotheses a state and operands that meet them. -/

namespace Sys2Proof.Tests

open Sys2Proof.Machine Sys2Proof.Safety

set_option maxRecDepth 100000

/-! ### States the tests share -/

def quiet : Sample := ⟨false, Trio.all false⟩

def keyOn : Sample := ⟨true, Trio.all false⟩

/-- A tower at rest: pumps STOPPED, valve OPEN, level 14200, guard NORMAL, pipe THAWED, trust LOCAL at minute 600. -/
def warm : State :=
  { State.reset with
    clock := { State.reset.clock with trust := .local, minute := 600, lastMinute := 600 }
    pumps := Trio.all { State.resetPump with state := .stopped, lockout := none }
    valve := { state := .isOpen, travel := none, faultDirection := none, lastTravel := .toOpen }
    level := { State.reset.level with window := [14200, 14200, 14200, 14200], timer := some 2 }
    guard := { State.reset.guard with state := .normal, ceiling := 18000, frozenPipe := false }
    frost := { State.reset.frost with
      probes := Octo.all { condition := .valid, reading := some 100, silence := some 30 }, pipe := none } }

def fillIn (st : FillState) : FillRecord :=
  { pump := 1, target := 16000, window := some { start := 480, stop := 720, recur := .every 0 0 }, band := .any,
    priority := 3, state := st, hold := none, context := none, outcome := none, servedDay := none, staged := none }

def heatIn (st : HeatState) : HeatRecord :=
  { circuit := 2, hold := 50, window := { start := 480, stop := 720, recur := .every 0 0 }, state := st, servedDay := none }

def reportAt (slot : Nat) : ReportRecord := { slot := slot, k := 0, r := 0, contents := [.level], lastSent := none }

def rec5 (b : Body) : Record := { number := 5, origin := .cabinet, revision := 7, body := b }

/-- The tower at rest with one record, order 5 at revision 7. -/
def withOrder (b : Body) : State := { warm with book := { warm.book with records := [rec5 b], lastAssigned := 5 } }

/-- Order 5 holds pump 1, which runs for it. -/
def running : State :=
  { withOrder (.fill { fillIn .running with context := some { litres := 16777210, first := 14000, interruptions := 0 } }) with
    fill := { warm.fill with p1 := { holder := some 5, lastHolder := none, lastCause := none, noFlow := some 1 } }
    pumps := { warm.pumps with p1 := { warm.pumps.p1 with state := .running, judged := true } }
    inputs := { warm.inputs with feedback := { warm.inputs.feedback with p1 := true } } }

/-- Pump 1 as given, everything else at rest. -/
def pumpIs (q : Pump) : State := { warm with pumps := { warm.pumps with p1 := q } }

def pumpIn (st : PumpState) : Pump := { State.resetPump with state := st, lockout := none }

def linkUnlocked (s : State) : State := { s with remote := { s.remote with unlocked := true, unlockLeft := 16 } }

def commitOn (s : State) : State := { s with store := { s.store with commit := true } }

/-- In SYNCED in a round that opened at instant 1000 with slots of 1000 ms. -/
def synced : State :=
  { warm with
    clock := { warm.clock with trust := .synced, lastOpener := some 1000 }
    link := { warm.link with
      round := some { count := 3, slotLength := 1000, start := 1000, begun := 1 }, answerSlot := some 31 } }

/-- A frame with its own check. -/
def checked (dest kind seq : Byte) (body : List Byte) : Frame :=
  { dest := dest, src := 0, kind := kind, seq := seq, body := body, check := Wire.crc16 (checkedBytes dest 0 kind seq body) }

/-- A cabinet request frame with its sum check. -/
def request (code : Byte) (body : List Byte) : List Byte :=
  let b := [code, 0, 5, 0, BitVec.ofNat 8 body.length] ++ body
  b ++ [Wire.sum8 b]

/-! ### Ill-formed commands -/

theorem test_illFormed_place :
    wellFormed (.place .cabinet (.fill ⟨256, 100, 0, 1, .once, .any, 0⟩)) = false ∧
    wellFormed (.place .cabinet (.fill ⟨0, 65536, 0, 1, .once, .any, 0⟩)) = false ∧
    wellFormed (.place .cabinet (.fill ⟨0, 100, 65536, 1, .once, .any, 0⟩)) = false ∧
    wellFormed (.place .cabinet (.fill ⟨0, 100, 0, 65536, .once, .any, 0⟩)) = false ∧
    wellFormed (.place .cabinet (.fill ⟨0, 100, 0, 1, .onceOn 65536, .any, 0⟩)) = false ∧
    wellFormed (.place .cabinet (.fill ⟨0, 100, 0, 1, .every 256 0, .any, 0⟩)) = false ∧
    wellFormed (.place .cabinet (.fill ⟨0, 100, 0, 1, .every 0 256, .any, 0⟩)) = false ∧
    wellFormed (.place .cabinet (.fill ⟨0, 100, 0, 1, .once, .any, 256⟩)) = false ∧
    wellFormed (.place .cabinet (.heat ⟨256, 0, 0, 1, .once⟩)) = false ∧
    wellFormed (.place .cabinet (.heat ⟨0, 32768, 0, 1, .once⟩)) = false ∧
    wellFormed (.place .cabinet (.heat ⟨0, -32769, 0, 1, .once⟩)) = false ∧
    wellFormed (.place .cabinet (.heat ⟨0, 0, 65536, 1, .once⟩)) = false ∧
    wellFormed (.place .cabinet (.heat ⟨0, 0, 0, 65536, .once⟩)) = false ∧
    wellFormed (.place .cabinet (.heat ⟨0, 0, 0, 1, .onceOn 65536⟩)) = false ∧
    wellFormed (.place .cabinet (.report ⟨256, 0, 0, [.level]⟩)) = false ∧
    wellFormed (.place .cabinet (.report ⟨2, 256, 0, [.level]⟩)) = false ∧
    wellFormed (.place .cabinet (.report ⟨2, 0, 256, [.level]⟩)) = false := by decide

theorem test_illFormed_amend :
    wellFormed (.amend .cabinet 256 none (.fill {})) = false ∧
    wellFormed (.amend .cabinet 1 (some 256) (.fill {})) = false ∧
    wellFormed (.amend .cabinet 1 none (.fill { pump := some 256 })) = false ∧
    wellFormed (.amend .cabinet 1 none (.fill { target := some 65536 })) = false ∧
    wellFormed (.amend .cabinet 1 none (.fill { start := some 65536 })) = false ∧
    wellFormed (.amend .cabinet 1 none (.fill { stop := some 65536 })) = false ∧
    wellFormed (.amend .cabinet 1 none (.fill { recur := some (.onceOn 65536) })) = false ∧
    wellFormed (.amend .cabinet 1 none (.fill { priority := some 256 })) = false ∧
    wellFormed (.amend .cabinet 1 none (.heat { circuit := some 256 })) = false ∧
    wellFormed (.amend .cabinet 1 none (.heat { hold := some 32768 })) = false ∧
    wellFormed (.amend .cabinet 1 none (.heat { start := some 65536 })) = false ∧
    wellFormed (.amend .cabinet 1 none (.heat { stop := some 65536 })) = false ∧
    wellFormed (.amend .cabinet 1 none (.heat { recur := some (.every 256 0) })) = false ∧
    wellFormed (.amend .cabinet 1 none (.report { slot := some 256 })) = false ∧
    wellFormed (.amend .cabinet 1 none (.report { code := some (256, 0) })) = false ∧
    wellFormed (.amend .cabinet 1 none (.report { code := some (0, 256) })) = false := by decide

theorem test_illFormed_requests :
    wellFormed (.retire .cabinet 256 none) = false ∧ wellFormed (.retire .cabinet 1 (some 256)) = false ∧
    wellFormed (.look .cabinet 256) = false ∧ wellFormed (.list .cabinet 256) = false ∧
    wellFormed (.readTower .cabinet quiet 256) = false ∧
    wellFormed (.readGuard .cabinet (List.replicate 97 1)) = false ∧
    wellFormed (.setTariff .cabinet [⟨65536, 0⟩]) = false ∧ wellFormed (.setTariff .cabinet [⟨0, 256⟩]) = false ∧
    wellFormed (.setTariff .cabinet (List.replicate 32 ⟨0, 0⟩)) = false ∧
    wellFormed (.setClock .cabinet 65536 0 0) = false ∧ wellFormed (.setClock .cabinet 0 65536 0) = false ∧
    wellFormed (.setClock .cabinet 0 0 256) = false ∧ wellFormed (.pumpServiceOut .cabinet quiet 256) = false ∧
    wellFormed (.pumpServiceReturn .cabinet quiet 256) = false ∧ wellFormed (.circuitReset .cabinet 256) = false := by
  decide

theorem test_illFormed_events :
    wellFormed (.discardedFrame (checked 0 1 0 (List.replicate 97 0))) = false ∧
    wellFormed (.ignoredFrame (checked 0 1 0 (List.replicate 97 0))) = false ∧
    wellFormed (.opener 0 (checked 0 1 0 (List.replicate 97 0))) = false ∧
    wellFormed (.requestFrame 0 quiet (checked 0 1 0 (List.replicate 97 0))) = false ∧
    wellFormed (.slotStart 32) = false ∧ wellFormed (.levelReading 32768 false) = false ∧
    wellFormed (.probeReading 0 (-32769) false) = false := by
  decide +kernel

/-! ### Values the spec works out -/

/-- The allocator's example (R2): last assigned 237 with 238, 239, 1 and 3 live gives 2, and then 4. -/
def wrapped (last : Nat) (live : List Nat) : State :=
  { warm with
    book := { warm.book with
      records := live.map (fun n => { rec5 (.report (reportAt 9)) with number := n }), lastAssigned := last } }

theorem test_allocator_wraps :
    allocate (wrapped 237 [1, 3, 238, 239]) = 2 ∧ allocate (wrapped 2 [1, 2, 3, 238, 239]) = 4 := by decide +kernel

theorem test_check_of_nine_characters :
    Wire.crc16 [0x31, 0x32, 0x33, 0x34, 0x35, 0x36, 0x37, 0x38, 0x39] = 0x29B1 := by decide +kernel

theorem test_factory_image_is_good : imageGood State.reset.store.image = true := by decide +kernel

/-! ### Single steps -/

/-- The state a command leaves. -/
def after (c : Instr) (s : State) : State :=
  match step { s with pending := [c] } with
  | .next t => t
  | _ => s

theorem test_place_is_handed_a_pump :
    let t := after (.place .cabinet (.fill ⟨1, 16000, 480, 720, .once, .any, 3⟩)) warm
    (findFill 1 t).map (·.state) = some .starting ∧ t.pumps.p1.state = .starting ∧ t.fill.p1.holder = some 1 ∧
      t.lastResult = some (doneWith [1]) ∧ t.agenda = [] := by
  decide +kernel

theorem test_float_trips_a_run :
    let s := { running with level := { running.level with window := [17600, 17600, 17600, 17600] } }
    let t := after (.floatChange true) s
    t.guard.state = .tripped ∧ t.pumps.p1.state = .stopping ∧ (findFill 5 t).map (·.outcome) = some (some .cut) := by
  decide +kernel

theorem test_overload_relay_faults_a_pump :
    let t := after (.overloadTrip 1) warm
    t.pumps.p1.state = .faulted ∧ eventIsSet .pumpFault t = true ∧ alertLine t = true := by
  decide +kernel

theorem test_reset_finds_a_weld :
    let t := after (.reset ⟨⟨false, true, false⟩, Trio.all false, false, true, false, Octo.all false, false⟩) warm
    t.guard.state = .containment ∧ t.valve.state = .closing ∧ t.guard.held.p1 = true := by
  decide +kernel

theorem test_opener_opens_a_round :
    let t := after (.opener 5000 (checked 255 1 0 [4, 0, 0, 2, 88, 30, 1, 0, 3, 232])) warm
    t.clock.trust = .synced ∧ t.link.round = some { count := 4, slotLength := 1000, start := 5000, begun := 1 } := by
  decide +kernel

/-- A good reading restarts the silence timer, so the expiry of the same second finds nothing to do (R133). -/
theorem test_reading_first_keeps_probe_valid :
    let t := after (.silenceTimerExpiry 2) (after (.probeReading 2 70 false) warm)
    (t.frost.probes.get 2).condition = .valid ∧ (t.frost.probes.get 2).reading = some 70 := by
  decide +kernel

/-- An opener taken first restarts the watch on openers (R35). -/
theorem test_opener_first_keeps_synced :
    let opener := Instr.opener 121000 (checked 255 1 0 [4, 0, 0, 2, 88, 30, 1, 0, 3, 232])
    let s := { synced with crystal := 120500 }
    (after .holdoverEntry (after opener s)).clock.trust = .synced ∧
      (after .holdoverEntry s).clock.trust = .holdover ∧ (after .holdoverEntry s).crystal = 121000 := by
  decide +kernel

/-- A drive out of FAULT with both limits active is FAULT again at once (R94). -/
theorem test_both_limits_fault_a_retry :
    let s := { warm with
      valve := { warm.valve with state := .fault, faultDirection := some .toClose }
      inputs := { warm.inputs with openLimit := true, closedLimit := true, key := true } }
    let t := after (.acknowledge .cabinet keyOn) s
    t.valve.state = .fault ∧ t.valve.faultDirection = some .toOpen ∧ t.lastResult.map (·.code) = some .done := by
  decide +kernel

/-- After a rollover the outcome counts are 0, a ONCE order whose day has passed included (R28, R167). -/
theorem test_rollover_leaves_counts_zero :
    let f := { fillIn .pending with window := some { start := 1300, stop := 1400, recur := .once 0 } }
    let u := rollover 0 2 (withOrder (.fill f))
    findRecord 5 u = none ∧ u.book.outcomes = ⟨0, 0, 0, 0, 0, 0, 0⟩ := by
  decide +kernel

theorem test_port_refuses_unknown_part_and_list :
    parseRequest warm 0x10 0 0 0 [0] = none ∧ parseRequest warm 0x10 0 0 0 [8] = none ∧
    parseRequest warm 0x10 0 0 0 [7] = some (.readTower 7) ∧ parseRequest warm 0x11 0 0 0 [] = none ∧
    parseRequest warm 0x11 0 0 0 (List.replicate 17 1) = none ∧ parseRequest warm 0x11 0 0 0 [0] = none ∧
    parseRequest warm 0x11 0 0 0 (List.replicate 16 1) = some (.readGuard (List.replicate 16 1)) := by
  decide +kernel

/-- A READ GUARD list with a repeated identifier meets the form of the port, so the port is WORKING; the store answers INVALID (R185, R196). -/
theorem test_repeated_identifier_reaches_the_store :
    let s := { warm with cabinet := { warm.cabinet with clocked := some { atBegin := .idle, sdo := [0x5A] } } }
    let t := after (.cabinetFrameEnd quiet (request 0x11 [1, 1])) s
    t.cabinet.state = .working ∧
      (after (.ownerFormsResult quiet) t).cabinet.held.map (·.code) = some .invalid := by
  decide +kernel

/-- The frame due whose instant of sending is the end of an accepted opener is sent with the old round's count (R170). -/
theorem test_frame_due_at_an_opener_is_sent :
    let f : FrameDue := { slot := 9, due := 61000, content := .report (some 5) 3, bytes := [1] }
    let s := { synced with crystal := 60500, link := { synced.link with frameDue := some f } }
    let opener (instant : Nat) := Instr.opener instant (checked 255 1 0 [4, 0, 0, 2, 88, 30, 0, 0, 3, 232])
    (after .instantOfSending (after (opener 61000) s)).link.sending = some f ∧
      (after .instantOfSending (after (opener 60999) s)).link.sending = none := by
  decide +kernel

/-- A worse head's opener at the instant the round period passes is accepted by an even free value and ignored by an odd one
(log entry 53). -/
theorem test_opener_at_the_period :
    let s (k : Nat) := { synced with crystal := 60500, choice := k, clock := { synced.clock with rank := 0 } }
    let t (k : Nat) := receiveFrame 61000 (checked 255 1 0 [4, 0, 0, 2, 88, 30, 1, 0, 3, 232]) (s k)
    synced.clock.roundPeriod = 60000 ∧ (t 0).clock.rank = 1 ∧ (t 1).clock.rank = 0 := by
  decide +kernel

/-- A run whose staged window suspends it without a context leaves no cause (R54). -/
theorem test_suspension_to_pending_leaves_no_cause :
    let s := { withOrder (.fill (fillIn .starting)) with
      fill := { warm.fill with p1 := { holder := some 5, lastHolder := none, lastCause := none, noFlow := none } }
      pumps := { warm.pumps with p1 := { warm.pumps.p1 with state := .starting, judged := true, confirm := some 5 } }
      inputs := { warm.inputs with feedback := { warm.inputs.feedback with p1 := true } } }
    ((suspendFill 5 .time true s).fill.get 1).lastCause = none ∧
      ((suspendFill 5 .valve false s).fill.get 1).lastCause = some .valve := by
  decide +kernel

theorem test_filler_follows_the_status :
    clockedOut { atBegin := .idle, sdo := [0x5A] } 3 = [0x5A, 0x00, 0x00] := by decide

theorem test_empty_queue_idles : step State.reset = .next State.reset := rfl

/-! ### Witnesses: states and operands that meet the hypotheses of the statements

Each theorem is named after its statement and meets its clauses one after the other. -/

theorem test_meets_StepTakesFrontCommand : State.reset.pending = [] := rfl

theorem test_meets_ResetSetsTheBlocks :
    let p : Pins :=
      { feedback := ⟨false, false, true⟩, overload := ⟨false, true, false⟩, float := true, openLimit := true,
        closedLimit := false, current := Octo.all false, key := false }
    (p.feedback.get 0 = false ∧ p.overload.get 0 = false) ∧ (p.feedback.get 1 = false ∧ p.overload.get 1 = true) ∧
      p.feedback.get 2 = true ∧ (p.openLimit = true ∧ p.closedLimit = false) ∧
      { p with openLimit := false }.openLimit = false ∧ { p with closedLimit := true }.closedLimit = true ∧
      warm.gs.role.get 0 = .overflowPipe ∧
      ∀ c : Fin 8, { warm.gs with role := Octo.all .tank }.role.get c ≠ .overflowPipe := by decide

/-- A book with as many external records as it may hold. -/
def fullBook : State :=
  { warm with
    book := { warm.book with
      records := (List.range 30).map (fun i => { rec5 (.report (reportAt 9)) with number := i + 1 }) } }

theorem test_meets_OrderRequestsRefused :
    30 ≤ externalCount fullBook ∧
    (externalCount warm < 30 ∧ ¬ FillValid ⟨3, 100, 0, 1, .once, .any, 0⟩ ∧ ¬ HeatValid warm.gs ⟨7, 0, 0, 1, .once⟩ ∧
      ¬ ReportValid ⟨1, 0, 0, [.level]⟩) ∧
    (externalCount (withOrder (.report (reportAt 9))) < 30 ∧ ReportValid ⟨9, 6, 63, [.level]⟩ ∧
      SlotTaken (withOrder (.report (reportAt 9))) (allocate (withOrder (.report (reportAt 9)))) 9 6 63) ∧
    (findRecord 241 warm = none ∧
      findRecord 240 { warm with book := { warm.book with records := [systemRecord 240 9000 0] } } =
        some (systemRecord 240 9000 0) ∧
      (findRecord 5 (withOrder (.fill (fillIn .retiring))) = some (rec5 (.fill (fillIn .retiring))) ∧
        some 8 ≠ some (rec5 (.fill (fillIn .retiring))).revision ∧ (fillIn .retiring).state = .retiring)) ∧
    findRecord 5 (withOrder (.fill { fillIn .running with staged := some ⟨none, some 500, none, none, none, none, none⟩ })) =
      some (rec5 (.fill { fillIn .running with staged := some ⟨none, some 500, none, none, none, none, none⟩ })) := by
  refine ⟨by decide, ⟨by decide, ?_, ?_, ?_⟩, ⟨by decide, ?_, ?_⟩, by decide, by decide⟩
  · rintro ⟨h, -⟩; exact absurd h (by decide)
  · rintro ⟨⟨c, h, hr⟩, -⟩
    have : c = 7 := Fin.ext h
    subst this; exact hr rfl
  · rintro ⟨h, -⟩; exact absurd h (by decide)
  · exact ⟨by decide, by decide, by decide, by decide, by decide, by decide⟩
  · exact .inr ⟨rec5 (.report (reportAt 9)), by decide, by decide, reportAt 9, rfl, rfl, by decide⟩

theorem test_meets_PlaceEnters :
    (externalCount warm < 30 ∧ isLive (allocate warm) warm = false) ∧
    (FillValid ⟨2, 20000, 1439, 1440, .every 6 63, .any, 7⟩ ∧ FillValid ⟨0, 100, 0, 1, .onceOn 65535, .nightOnly, 0⟩) ∧
    HeatValid warm.gs ⟨3, 150, 0, 1440, .once⟩ ∧
    (ReportValid ⟨31, 6, 63, [.events, .level]⟩ ∧ ¬ SlotTaken warm (allocate warm) 30 6 63) ∧
    (isLive 4 (wrapped 2 [1, 2, 3]) = false ∧ ∀ m, 2 < m → m < 4 → isLive m (wrapped 2 [1, 2, 3]) = true) ∧
    (isLive 2 (wrapped 237 [1, 3, 238, 239]) = false ∧
      (∀ m, 237 < m → m ≤ 239 → isLive m (wrapped 237 [1, 3, 238, 239]) = true) ∧
      ∀ m, 1 ≤ m → m < 2 → isLive m (wrapped 237 [1, 3, 238, 239]) = true) := by
  refine ⟨by decide, ⟨?_, ?_⟩, ?_, ⟨?_, ?_⟩, ⟨by decide, fun m h1 h2 => ?_⟩, by decide, fun m h1 h2 => ?_, fun m h1 h2 => ?_⟩
  · exact ⟨by decide, by decide, by decide, by decide, by decide, by decide, by decide, ⟨by decide, by decide⟩, by decide⟩
  · exact ⟨by decide, by decide, by decide, by decide, by decide, by decide, by decide, Nat.le_refl _, by decide⟩
  · exact ⟨⟨3, rfl, by decide⟩, by decide, by decide, by decide, by decide, by decide, by decide, trivial⟩
  · exact ⟨by decide, by decide, by decide, by decide, by decide, by decide⟩
  · rintro (h | ⟨x, h, -⟩)
    · exact absurd h (by decide)
    · exact absurd h (List.not_mem_nil)
  · have : m = 3 := by omega
    subst this; decide
  · have : m = 238 ∨ m = 239 := by omega
    rcases this with h | h <;> subst h <;> decide
  · have : m = 1 := by omega
    subst this; decide

theorem test_meets_AmendFillJudged :
    let w : Window := { start := 480, stop := 720, recur := .every 0 0 }
    (∀ st, st = FillState.running ∨ st = .pending →
      findRecord 5 (withOrder (.fill (fillIn st))) = some (rec5 (.fill (fillIn st))) ∧ (fillIn st).window = some w ∧
      FillAmendValid { target := some 20000, priority := some 7, start := some 719 } (fillIn st) w) ∧
    ¬ FillAmendValid { stop := some 480 } (fillIn .due) w ∧ ¬ FillAmendValid {} (fillIn .due) w ∧
    ¬ FillAmendValid { recur := some .once } (fillIn .served) w ∧ inRun (fillIn .running) = true ∧
    inRun (fillIn .pending) = false := by
  refine ⟨fun st h => ?_, ?_, ?_, ?_, by decide, by decide⟩
  · rcases h with h | h <;> subst h <;> refine ⟨by decide, by decide, ?_⟩ <;>
      exact ⟨by decide, by simp, by simp, by simp, by simp, by simp, by simp, by decide, by simp [fillIn]⟩
  · rintro ⟨-, -, -, -, -, -, -, h, -⟩; exact absurd h (by decide)
  · rintro ⟨h, -⟩; exact h rfl
  · rintro ⟨-, -, -, -, -, -, -, -, h⟩; exact h ⟨rfl, .inl rfl⟩

theorem test_meets_AmendHeatAndReportJudged :
    findRecord 5 (withOrder (.heat (heatIn .active))) = some (rec5 (.heat (heatIn .active))) ∧
    HeatAmendValid warm.gs { hold := some 150, stop := some 1440 } (heatIn .active) 2 ∧
    (∀ c : Fin 8, ¬ HeatAmendValid warm.gs { circuit := some 7 } (heatIn .active) c) ∧
    findRecord 5 (withOrder (.report (reportAt 9))) = some (rec5 (.report (reportAt 9))) ∧
    ¬ ReportAmendValid { slot := some 32 } (reportAt 9) ∧
    (ReportAmendValid { slot := some 31 } (reportAt 9) ∧ SlotTaken (withOrder (.report (reportAt 9))) 5 31 0 0) ∧
    (ReportAmendValid { slot := some 9 } (reportAt 9) ∧ ¬ SlotTaken (withOrder (.report (reportAt 9))) 5 9 0 0) := by
  refine ⟨by decide, ?_, ?_, by decide, ?_, ⟨?_, .inl rfl⟩, ?_, ?_⟩
  · exact ⟨by decide, by decide, by decide, by simp, by simp, by simp, by simp, by decide, by simp [heatIn]⟩
  · rintro c ⟨-, h, hr, -⟩
    have : c = 7 := Fin.ext h
    subst this; exact hr rfl
  · rintro ⟨-, h, -⟩; exact absurd (h 32 rfl).2 (by decide)
  · exact ⟨by decide, by simp, by decide, by decide, by decide, by decide⟩
  · exact ⟨by decide, by simp, by decide, by decide, by decide, by decide⟩
  · rintro (h | ⟨x, hx, hn, -⟩)
    · exact absurd h (by decide)
    · rw [List.mem_singleton.1 hx] at hn
      exact hn rfl

theorem test_meets_RetireAccepted :
    findRecord 5 (withOrder (.fill (fillIn .due))) = some (rec5 (.fill (fillIn .due))) ∧
    isRetiring (.fill (fillIn .due)) = false ∧ inRun (fillIn .due) = false ∧
    findRecord 5 (withOrder (.fill (fillIn .running))) = some (rec5 (.fill (fillIn .running))) ∧
    isRetiring (.fill (fillIn .running)) = false ∧ inRun (fillIn .running) = true := by
  decide

theorem test_meets_LookReturnsRecord :
    findRecord 241 warm = none ∧ findRecord 5 (withOrder (.heat (heatIn .active))) = some (rec5 (.heat (heatIn .active))) := by
  decide

theorem test_meets_ListReturnsNext :
    BookFits (withOrder (.heat (heatIn .active))) ∧
    (∀ x ∈ (withOrder (.heat (heatIn .active))).book.records, x.number ≤ 5) ∧
    rec5 (.heat (heatIn .active)) ∈ (withOrder (.heat (heatIn .active))).book.records ∧
    4 < (rec5 (.heat (heatIn .active))).number := by
  refine ⟨⟨?_, by decide, by decide, by decide, by decide⟩, by decide, by decide, by decide⟩
  exact List.pairwise_singleton _ _

theorem test_withOrder_fits_the_book (b : Body) : BookFits (withOrder b) :=
  ⟨List.pairwise_singleton _ _, by simp [withOrder, rec5], by simp [withOrder, rec5],
    by simp [externalCount, withOrder, rec5], show 5 ≤ 239 by decide⟩

theorem test_meets_RolloverClosesAndReadies :
    (∀ st, st = FillState.due ∨ st = .suspended ∨ st = .running → BookFits (withOrder (.fill (fillIn st))) ∧
      findRecord 5 (withOrder (.fill (fillIn st))) = some (rec5 (.fill (fillIn st))) ∧
      (rec5 (.fill (fillIn st))).origin ≠ .system) ∧
    inRun (fillIn .running) = true ∧ { warm.gs with allowance := 0 }.allowance = 0 ∧ findRecord 6 warm = none :=
  ⟨fun st h => ⟨test_withOrder_fits_the_book _, by rcases h with h | h | h <;> subst h <;> decide, by simp [rec5]⟩, by decide, by decide,
    by decide⟩

theorem test_meets_ReadTowerReturnsPart :
    warm.remote.unlocked = false ∧ (linkUnlocked warm).remote.unlocked = true := by decide

theorem test_meets_ReadGuardReturnsValues :
    let ids : List Byte := [1, 2, 3, 4, 5, 6, 7, 0x10, 0x11, 0x12, 0x13, 0x14, 0x15, 0x18, 0x20, 0x7F]
    (ids.length ≤ 16 ∧ ids.Nodup ∧ ∀ i ∈ ids, (guardFieldOfId i).isSome = true) ∧
    ¬ (1 ≤ ([] : List Byte).length) ∧ ¬ ([1, 1] : List Byte).Nodup ∧ (guardFieldOfId 0).isSome = false := by
  decide

theorem test_meets_WriteGuardJudged :
    quiet.key = false ∧ (keyOn.key = true ∧ (commitOn warm).store.commit = true) ∧
    (warm.store.commit = false ∧ guardFieldOfId 0 = none) ∧
    (guardFieldOfId 3 = some .approachBand ∧ guardInRange .approachBand (guardOperand .approachBand 0xFFFF) = false) ∧
    (guardFieldOfId 5 = some .rearm ∧
      guardRelations (putGuardValue warm.gs .rearm (guardOperand .rearm 17500)) = false) ∧
    (guardFieldOfId 0x71 = some .answerSlot ∧ guardInRange .answerSlot (guardOperand .answerSlot 9) = true ∧
      guardRelations (putGuardValue warm.gs .answerSlot (guardOperand .answerSlot 9)) = true ∧
      writeInUse .answerSlot (putGuardValue warm.gs .answerSlot (guardOperand .answerSlot 9))
        (withOrder (.report (reportAt 9))) = true) ∧
    ((linkUnlocked warm).remote.unlocked = true ∧ (5 : Byte) ≠ 0x7F ∧
      guardInRange .rearm (guardOperand .rearm 16000) = true ∧
      guardRelations (putGuardValue warm.gs .rearm (guardOperand .rearm 16000)) = true ∧
      writeInUse .rearm (putGuardValue warm.gs .rearm (guardOperand .rearm 16000)) warm = false) ∧
    (guardFieldOfId 0x40 = some (.role 0) ∧ warm.gs.role.get 0 = .overflowPipe ∧ warm.gs.role.get 2 ≠ .overflowPipe ∧
      (putGuardValue warm.gs (.role 0) (guardOperand (.role 0) 0)).role.get 0 = .none ∧
      writeInUse (.role 0) (putGuardValue warm.gs (.role 0) (guardOperand (.role 0) 0)) warm = false ∧
      guardFieldOfId 0x50 = some (.probeIndex 0)) := by
  decide

theorem test_meets_TariffAndCommit :
    (commitOn warm).store.commit = true ∧ warm.store.commit = false ∧ ¬ (1 ≤ ([] : List TariffField).length) ∧
    (let es : List TariffField := [⟨0, 0⟩, ⟨1439, 2⟩]
     es.length ≤ 8 ∧ (es.map (·.start)).head? = some 0 ∧ ascending (es.map (·.start)) ∧
       ∀ e ∈ es, e.start ≤ 1439 ∧ e.band ≤ 2) := by
  refine ⟨by decide, by decide, by decide, by decide, by decide, ?_, by decide⟩
  exact List.pairwise_pair.2 (by decide)

theorem test_meets_SetClockTaken :
    synced.clock.trust = .synced ∧ (warm.clock.trust ≠ .synced ∧ ¬ (1440 ≤ 1439)) ∧
    (State.reset.clock.trust ≠ .local ∧ State.reset.clock.trust = .free ∧ 65535 ≤ 65535 ∧ 1439 ≤ 1439 ∧ 59 ≤ 59) := by
  decide

/-- An adjustment within the minute, back over a minute, on over one and into the next day; a discontinuity on the day and off it. -/
theorem test_meets_TimeAdopted :
    (isAdjustment warm 0 600 59 false = true ∧ isAdjustment warm 0 599 0 false = true ∧
      599 ≤ warm.clock.lastMinute ∧ isAdjustment warm 0 601 0 false = true ∧ warm.clock.lastMinute < 601) ∧
    (let late := { warm with clock := { warm.clock with minute := 1439, second := 59 } }
     isAdjustment late 1 0 58 false = true ∧ isAdjustment late 1 0 59 true = false ∧
       isAdjustment late 1 0 59 false = true ∧ isAdjustment late 1 1 0 false = false) ∧
    isAdjustment warm 0 601 1 false = false ∧ isAdjustment State.reset 65535 1439 59 false = false ∧
    (5662310400 : Int) ∣ ((65535 : Nat) : Int) * 86400 + (1439 : Nat) * 60 + (59 : Nat) - ((0 : Nat) * 86400 + (0 : Nat) * 60 + (0 : Nat)) - (-1) := by
  decide

theorem test_meets_CrystalCounts :
    warm.clock.second < 59 ∧ 59 ≤ { warm.clock with second := 59 }.second ∧
    (warm.clock.minute < 1439 ∧ warm.clock.lastMinute < warm.clock.minute + 1) ∧
    warm.clock.minute + 1 ≤ { warm.clock with lastMinute := 601 }.lastMinute ∧
    1439 ≤ { warm.clock with minute := 1439 }.minute := by decide

theorem test_meets_HoldoverCounts :
    (synced.clock.trust = .synced ∧ synced.clock.lastOpener = some 1000 ∧
      1000 + 2 * synced.clock.roundPeriod < { synced with crystal := 120001 }.crystal + (1000 - synced.clock.ms)) ∧
    ¬ (1000 + 2 * synced.clock.roundPeriod < { synced with crystal := 120000 }.crystal + (1000 - synced.clock.ms)) ∧
    { synced.link with line := .sending }.line = .sending ∧
    (let f (c : FrameContent) : FrameDue := { slot := 9, due := 10020, content := c, bytes := [] }
     { synced.link with frameDue := some (f (.report (some 5) 3)) }.frameDue = some (f (.report (some 5) 3)) ∧
       (f (.report (some 5) 3)).content ≠ .answer) ∧
    { warm.clock with trust := .holdover }.trust = .holdover ∧ warm.clock.trust ≠ .holdover ∧
    min 255 (118 + 1) < warm.gs.holdoverLimit ∧ warm.gs.holdoverLimit ≤ min 255 (119 + 1) := by decide

theorem test_meets_TallyAndBand :
    (let charge (s : State) (p : Fin 3) : Nat := if (s.pumps.get p).state = .running then s.gs.rating.get p * s.gs.weightDay else 0
     running.clock.band = .day ∧ charge warm 0 + charge warm 1 + charge warm 2 = 0 ∧
       0 < charge running 0 + charge running 1 + charge running 2) ∧
    State.reset.clock.trust = .free ∧ warm.clock.trust ≠ .free ∧
    (∃ e ∈ warm.store.calendar, e.start ≤ warm.clock.minute ∧
      ∀ x ∈ warm.store.calendar, x.start ≤ warm.clock.minute → x.start ≤ e.start) := by
  decide

theorem test_meets_UnlockAndLockJudged :
    0 < { warm.remote with refusalLeft := 1 }.refusalLeft ∧ (warm.remote.refusalLeft = 0 ∧ warm.gs.accessCode = 0) ∧
    ({ warm.gs with accessCode := 7 }.accessCode ≠ 0 ∧ (7 : BitVec 32) = { warm.gs with accessCode := 7 }.accessCode) ∧
    (8 : BitVec 32) ≠ { warm.gs with accessCode := 7 }.accessCode := by decide

theorem test_meets_PumpServiceTakes :
    warm.remote.unlocked = false ∧ (linkUnlocked warm).remote.unlocked = true ∧
    (pumpIs (pumpIn .stopped)).pumps.p1.state = .stopped ∧
    ((pumpIs (pumpIn .lockout)).pumps.p1.state = .lockout ∧ (pumpIs (pumpIn .lockout)).pumps.p1.pendingStart = none) ∧
    ((pumpIs (pumpIn .faulted)).pumps.p1.state = .faulted ∧ (pumpIs (pumpIn .faulted)).inputs.feedback.get 1 = false ∧
      quiet.overload.get 1 = false) ∧
    running.pumps.p1.state = .running := by decide

theorem test_meets_CircuitResetTakes :
    (linkUnlocked warm).remote.unlocked = true ∧ (warm.frost.circuits.get 7).state ≠ .fault ∧
    ((setCircuit 7 ⟨.fault, none, none⟩ warm).frost.circuits.get 7).state = .fault := by decide

theorem test_meets_AcknowledgeJudged :
    quiet.key = false ∧ keyOn.key = true ∧
    (let s := { warm with guard := { warm.guard with state := .latched } }
     s.guard.state = .latched ∧ s.inputs.float = false ∧ filtered s = some 14200 ∧ 14200 ≤ s.gs.rearm ∧
       14200 < s.guard.ceiling - s.gs.approachBand) ∧
    { warm.inputs with float := true }.float = true ∧
    (∀ p : Fin 3, warm.inputs.feedback.get p = false) ∧ (∃ p : Fin 3, running.inputs.feedback.get p = true) ∧
    { warm.guard with state := .containment }.state = .containment ∧
    (warm.guard.state ≠ .latched ∧ warm.guard.state ≠ .containment) ∧
    { warm.valve with state := .fault }.state = .fault ∧ warm.valve.state ≠ .fault ∧
    ¬ (warm.inputs.openLimit = true ∧ warm.inputs.closedLimit = true) := by
  decide

theorem test_meets_CabinetShowsItsResponse :
    warm.cabinet.state = .idle ∧ { warm.cabinet with state := .working }.state = .working ∧
    (let c : Cabinet := { warm.cabinet with state := .held, held := some (plain .done) }
     c.state = .held ∧ c.held = some (plain .done)) ∧
    (let c (r : Option Response) : Cabinet :=
       { warm.cabinet with state := .working, inFlight := some { request := .look 5, formed := r } }
     (c none).state = .working ∧ (c none).inFlight = some { request := .look 5, formed := none } ∧
       (c (some (plain .done))).inFlight = some { request := .look 5, formed := some (plain .done) }) := by decide

theorem test_meets_CabinetFrameEnds :
    let look := request 0x04 []
    let begun (p : PortState) (n : Nat) : Clocked := { atBegin := p, sdo := List.replicate n 0 }
    ({ warm with cabinet := { warm.cabinet with clocked := some (begun .idle 1) } }.cabinet.clocked = some (begun .idle 1)) ∧
    ¬ ((begun .working 1).atBegin = .idle) ∧ ¬ ((begun .held 9).sdo.length ≤ look.length) ∧
    (begun .held 4).sdo.length ≤ look.length ∧ at8 [] 0 = 0 ∧ at8 look 0 ≠ 0 ∧ ¬ (5 ≤ ([4, 0, 5, 0] : List Byte).length) ∧
    (5 ≤ look.length ∧ at8 look 4 ≤ 96 ∧ 6 + at8 look 4 ≤ look.length) ∧
    (look.take (5 + at8 look 4)).foldl (· + ·) 0 = (look[5 + at8 look 4]?).getD 0 ∧
    (([4, 0, 5, 0, 0, 1] : List Byte).take 5).foldl (· + ·) 0 ≠ 1 ∧ knownCode (at8 (request 0x7E []) 0) = false ∧
    at8 (request 0x20 []) 0 = 0x20 ∧ knownCode (at8 look 0) = true ∧
    parseRequest warm 4 0 5 0 [] = some (.look 5) ∧ parseRequest warm 4 0 5 0 [0] = none ∧
    ((findRecord 5 (withOrder (.fill (fillIn .due)))).map (fun r => amendLength r.body) = some 13 ∧
      (findRecord 5 (withOrder (.heat (heatIn .active)))).map (fun r => amendLength r.body) = some 11 ∧
      (findRecord 5 (withOrder (.report (reportAt 9)))).map (fun r => amendLength r.body) = some 5 ∧
      findRecord 5 warm = none) ∧
    ¬ ((([2, 9] : List Byte)).length = 5) ∧ 13 ∉ [11, 5] ∧ ([3, 0] : List Byte).length % 3 ≠ 1 := by
  decide

theorem test_meets_LineHearsAndChecks :
    warm.link.line = .quiet ∧ { warm.link with line := .receiving }.line = .receiving ∧
    { warm.link with line := .sending }.line = .sending ∧
    frameCheckOk { checked 0 3 0 [] with check := 0 } = false ∧
    ((checked 0 3 0 []).kind ≠ 1 ∧ (checked 0 3 0 []).kind ≠ 2) ∧
    ((checked 9 1 0 []).kind = 1 ∧ (checked 9 1 0 []).dest ≠ 255) ∧
    ((checked 9 2 0 []).kind = 2 ∧ (checked 9 2 0 []).dest.toNat ≠ warm.gs.towerAddress) := by
  decide +kernel

theorem test_meets_OpenerJudged :
    let f (rank slot : Byte) := checked 255 1 0 [63, 0, 0, 2, 88, 30, rank, 0, slot, 232]
    (warm.link.line ≠ .sending ∧ frameCheckOk (f 7 3) = true ∧ (f 7 3).kind = 1 ∧ (f 7 3).dest = 255 ∧ (f 7 3).src = 0) ∧
    openerFields (f 7 3).body = some ⟨63, 0, 600, 30, 7, false, 1000⟩ ∧ warm.clock.trust ≠ .synced ∧
    (let s := { synced with clock := { synced.clock with rank := 3 } }
     s.clock.trust = .synced ∧ ¬ (7 ≤ s.clock.rank) ∧ s.clock.lastOpener = some 1000 ∧
       ¬ (s.clock.roundPeriod ≤ 60999 - 1000) ∧ s.clock.roundPeriod < 61001 - 1000) ∧
    (openerFields (f 7 0).body).map (·.slotLength) = some 232 ∧
    (let s := { synced with clock := { synced.clock with rank := 3 }, choice := 2 }
     s.choice % 2 = 0 ∧ 61000 - 1000 = s.clock.roundPeriod ∧ { s with choice := 3 }.choice % 2 ≠ 0) ∧
    (let d : FrameDue := { slot := 9, due := 61000, content := .answer, bytes := [] }
     { synced.link with frameDue := some d }.frameDue = some d ∧ d.due = 61000 ∧ { d with due := 60999 }.due ≠ 61000) ∧
    (let g := checked 255 1 0 [63, 0, 0]
     frameCheckOk g = true ∧ g.kind = 1 ∧ g.dest = 255 ∧ g.src = 0 ∧ g.body.length ≠ 10) := by
  decide +kernel

theorem test_meets_RequestFrameTaken :
    let f (b : List Byte) := checked 250 2 9 b
    (frameCheckOk (f [4, 0, 5, 0]) = true ∧ (f [4, 0, 5, 0]).kind = 2 ∧ (f [4, 0, 5, 0]).dest.toNat = synced.gs.towerAddress ∧
      (f [4, 0, 5, 0]).src = 0 ∧ synced.link.line ≠ .sending) ∧
    warm.clock.trust ≠ .synced ∧
    (synced.clock.trust = .synced ∧
      synced.link.round = some { count := 3, slotLength := 1000, start := 1000, begun := 1 } ∧
      1000 + 1000 ≤ 2000 ∧ 3000 ≤ 1000 + 2 * 1000) ∧
    synced.remote.answer = none ∧ parseRequest synced 4 0 5 0 [] = some (.look 5) ∧ parseRequest synced 4 0 5 0 [0] = none ∧
    (f []).body = [] ∧ (f [0x15, 0, 0, 0]).body = 0x15 :: [0, 0, 0] ∧ ([0, 5] : List Byte).length < 3 := by
  decide +kernel

theorem test_meets_SlotsSendFrames :
    let s := { withOrder (.report (reportAt 9)) with
      clock := synced.clock, link := { synced.link with plan := [(9, 5)] } }
    let f : FrameDue := { slot := 9, due := 10020, content := .report (some 5) 3, bytes := [] }
    let a : Answer := { seq := 1, code := 4, response := plain .done, refused := none, heldOver := false }
    (s.link.round = some { count := 3, slotLength := 1000, start := 1000, begun := 1 } ∧ s.link.round ≠ none ∧
      s.link.plan.find? (fun e => e.1 = 9) = some (9, 5) ∧ findRecord 5 s = some (rec5 (.report (reportAt 9))) ∧
      s.clock.trust = .synced ∧ s.link.line = .quiet) ∧
    findRecord 5 { s with book := warm.book } = none ∧ warm.link.round = none ∧
    (s.link.plan.find? (fun e => e.1 = 31) = none ∧ s.link.answerSlot = some 31 ∧
      { s.remote with answer := some a }.answer = some a ∧ a.heldOver = false) ∧
    { s.link with frameDue := some f }.frameDue = some f ∧ { s.link with line := .receiving }.line ≠ .quiet ∧
    ({ s.link with line := .sending, sending := some f }.line = .sending ∧ f.content = .report (some 5) 3) ∧
    { f with content := .answer }.content = .answer ∧ { f with content := .report none 3 }.content = .report none 3 := by
  decide

/-- Order 5 waits on pump 1, with no condition against it. -/
def waiting5 : State := withOrder (.fill (fillIn .due))

theorem test_meets_HoldsAndTargets :
    (let near := { waiting5 with guard := { warm.guard with state := .near } }
     near.guard.state = .near) ∧
    (waiting5.guard.state = .normal ∧ filtered { waiting5 with level := State.reset.level } = none) ∧
    { waiting5.valve with state := .closing }.state ≠ .isOpen ∧
    (waiting5.valve.state = .isOpen ∧ (fillIn .due).window = some { start := 480, stop := 720, recur := .every 0 0 } ∧
      720 ≤ { waiting5.clock with minute := 720 }.minute ∧ { waiting5.clock with minute := 479 }.minute < 480) ∧
    ({ fillIn .due with band := .nightOnly }.band = .nightOnly ∧ waiting5.clock.band ≠ .night) ∧
    (waiting5.clock.band ≠ .night ∧ (5 : Nat) ≠ 240 ∧ waiting5.gs.allowance ≤ { waiting5.clock with tally := 65535 }.tally) ∧
    firstHold waiting5 5 (fillIn .due) = none ∧
    (let s := { waiting5 with
       pumps := { warm.pumps with p1 := { pumpIn .lockout with lockout := some 9 } }
       fill := { warm.fill with p1 := { holder := none, lastHolder := some 5, lastCause := some .supply, noFlow := none } } }
     (∀ r ∈ s.book.records, recordAction s r = none) ∧ (s.fill.get 1).lastHolder = some 5 ∧ (s.pumps.get 1).state = .lockout ∧
       pumpIdle s 1 = false) ∧
    (∀ r ∈ (withOrder (.fill (fillIn .pending))).book.records,
      recordAction (withOrder (.fill (fillIn .pending))) r = none) := by
  decide

theorem test_meets_PumpHanded :
    BookFits waiting5 ∧ (∀ r ∈ waiting5.book.records, recordAction waiting5 r = none) ∧ pumpIdle waiting5 1 = true ∧
    ReadyFor waiting5 1 5 (fillIn .due) ∧
    (∀ (k : Nat) (g : FillRecord), ReadyFor waiting5 1 k g → k ≠ 5 → RanksBefore 5 (fillIn .due) k g) ∧
    (∀ (q : Fin 3) (k : Nat) (g : FillRecord), q < 1 → pumpIdle waiting5 q = true → ¬ ReadyFor waiting5 q k g) ∧
    hasClaim (.pump 1) waiting5 = false := by
  have only : ∀ (k : Nat) (g : FillRecord), findFill k waiting5 = some g → k = 5 ∧ g.pump = 1 := by
    intro k g h
    by_cases hk : k = 5
    · subst hk
      have : some (fillIn .due) = some g := h
      exact ⟨rfl, by rw [← Option.some.inj this]; rfl⟩
    · have : findRecord k waiting5 = none := by
        simp [findRecord, waiting5, withOrder, rec5, Ne.symm hk]
      simp [findFill, this] at h
  refine ⟨test_withOrder_fits_the_book _, by decide, by decide, ⟨by decide, by decide, by decide, by decide⟩, ?_, ?_, by decide⟩
  · rintro k g ⟨h, -⟩ hk
    exact absurd (only k g h).1 hk
  · rintro q k g hq - ⟨h, -, hp, -⟩
    rw [(only k g h).2] at hp
    subst hp
    exact absurd hq (by decide)

/-- Order 5 in a run on pump 1 in a channel state. -/
def onPump (q : Pump) (st : FillState) : State :=
  { withOrder (.fill (fillIn st)) with pumps := { warm.pumps with p1 := q } }

theorem test_meets_RunsJudged :
    (let r := rec5 (.fill (fillIn .running))
     let s := onPump (pumpIn .running) .running
     { s.guard with state := .latched }.state = .latched ∧
     ((pumpIn .faulted).state = .faulted ∧ recordAction (onPump (pumpIn .faulted) .running) r = some .pumpFault) ∧
     ((pumpIn .outOfService).state = .outOfService ∧ recordAction (onPump (pumpIn .outOfService) .running) r = some .endStart) ∧
     (targetReached s (fillIn .running) = false ∧ targetReached s { fillIn .running with target := 14200 } = true) ∧
     recordAction { s with clock := { s.clock with minute := 720 } } r = some (.serve .missed) ∧
     recordAction { s with clock := { s.clock with minute := 479 } } r = some (.suspend .time) ∧
     recordAction { s with valve := { s.valve with state := .closing } } r = some (.suspend .valve) ∧
     (firstHold s 5 (fillIn .running) = none ∧ recordAction s r = none ∧
       recordAction (onPump { pumpIn .lockout with lockout := some 3 } .running) r = some (.suspend .pump))) ∧
    (let s := { waiting5 with
       guard := { warm.guard with state := .tripped }
       fill := { warm.fill with p1 := { holder := none, lastHolder := some 5, lastCause := some .supply, noFlow := none } }
       pumps := { warm.pumps with p1 := { pumpIn .lockout with lockout := some 3 } } }
     s.guard.state = .tripped ∧ restingAsLast s 5 (fillIn .suspended) = true ∧ (s.fill.get 1).lastCause = some .supply ∧
       (systemRecord 240 16000 1).origin = .system) ∧
    (let s := onPump (pumpIn .faulted) .due
     (s.pumps.get 1).state = .faulted ∧ recordAction s (systemRecord 240 16000 1) = some (.movePump 0)) ∧
    recordAction waiting5 (rec5 (.fill (fillIn .due))) = none ∧
    recordAction { waiting5 with pumps := Trio.all (pumpIn .faulted) } (systemRecord 240 16000 1) = none ∧
    waiting5.book.records = [] ++ rec5 (.fill (fillIn .due)) :: [] := by
  decide

theorem test_meets_RunsEnd :
    (findRecord 5 running).map (fun r => r.number) = some 5 ∧ inRun (fillIn .running) = true ∧
    (∃ c : Context, (findFill 5 running).bind (·.context) = some c ∧ 0 < c.litres) ∧ (fillIn .running).context = none ∧
    ({ fillIn .running with staged := some ⟨none, some 500, none, none, none, none, none⟩ }.staged =
      some ⟨none, some 500, none, none, none, none, none⟩) ∧
    ((running.fill.get 1).holder = some 5 ∧ (findFill 5 running).map (·.state) = some .running ∧ filtered running = some 14200) ∧
    (let c : Claim := { claimant := .pump 1, units := 10, cls := .fill, seq := 0, reclaiming := true }
     claimReclaiming 1 { running with arbiter := { warm.arbiter with granted := [c] } } = true ∧
       claimReclaiming 1 running = false) ∧
    ((fillIn .starting).state = .starting ∧ (fillIn .retiring).state = .retiring ∧ (pumpIn .stopped).state = .stopped) ∧
    ((suspendFill 5 .valve false running).fill.get 1).lastHolder = some 5 := by
  refine ⟨by decide, by decide, ⟨_, rfl, by decide⟩, by decide, by decide, by decide, by decide, by decide, by decide⟩

theorem test_meets_WindowsJudged :
    BookFits (withOrder (.heat (heatIn .pending))) ∧
    findRecord 5 (withOrder (.heat (heatIn .pending))) = some (rec5 (.heat (heatIn .pending))) ∧
    findRecord 5 (withOrder (.report (reportAt 9))) = some (rec5 (.report (reportAt 9))) ∧
    (findRecord 5 waiting5 = some (rec5 (.fill (fillIn .due))) ∧ inRun (fillIn .due) = false) ∧
    (inRun (fillIn .running) = true ∧ (fillIn .running).window = some { start := 480, stop := 720, recur := .every 0 0 } ∧
      720 ≤ { warm.clock with minute := 720 }.minute ∧ { warm.clock with minute := 479 }.minute < 480 ∧
      480 ≤ warm.clock.minute ∧ warm.clock.minute < 720) ∧
    { fillIn .running with window := none }.window = none ∧ findRecord 6 waiting5 = none :=
  ⟨test_withOrder_fits_the_book _, by decide, by decide, by decide, by decide, by decide, by decide⟩

theorem test_meets_SystemOrders :
    let with241 (st : FillState) : State :=
      { warm with book := { warm.book with
          records := [{ number := 241, origin := .system, revision := 0,
                        body := .fill { fillIn st with window := none, priority := 0 } }] } }
    isLive 241 (with241 .due) = true ∧ isLive 240 warm = false ∧ findFill 241 warm = none ∧
    ((findFill 241 (with241 .suspended)).map (·.state) = some .suspended ∧
      (findFill 241 (with241 .running)).map (·.state) = some .running) ∧
    ((warm.pumps.get 0).state ≠ .faulted ∧ (warm.pumps.get 0).state ≠ .outOfService) ∧
    (∀ x : Fin 3, ({ warm with pumps := Trio.all (pumpIn .faulted) }.pumps.get x).state = .faulted) ∧
    findRecord 5 running = some (rec5 (.fill
      { fillIn .running with context := some { litres := 16777210, first := 14000, interruptions := 0 } })) := by
  decide

theorem test_meets_FlowAndNoFlow :
    (warm.fill.get 1).holder = none ∧ (running.fill.get 1).holder = some 5 ∧
    (findFill 5 running).map (fun f => (f.state, f.context.isSome)) = some (.running, true) ∧
    (findFill 5 (withOrder (.fill (fillIn .starting)))).map (·.state) = some .starting ∧
    ((running.fill.get 1).noFlow = some 1 ∧ 1 < running.gs.noFlowTime ∧ running.gs.noFlowTime ≤ running.gs.noFlowTime) ∧
    (findRecord 5 running).map (fun r => (r.origin, r.revision)) = some (.cabinet, 7) ∧
    (findFill 5 running).map (fun f => (f.state, f.pump)) = some (.running, 1) ∧
    (running.pumps.get 1).state = .running ∧ running.inputs.feedback.get 1 = true ∧
    (systemRecord 240 9000 1).origin = .system := by decide

theorem test_meets_PumpTimersExpire :
    let st := { pumpIn .starting with dwell := some 0, confirm := some 0, judged := true }
    (st.state = .starting ∧ st.dwell.isSome = true ∧ st.confirm.isSome = true ∧ st.attempts + 1 ≤ warm.gs.retries) ∧
    warm.gs.retries < { st with attempts := 2 }.attempts + 1 ∧
    ({ pumpIn .stopping with stopTimer := some 0 }.state = .stopping) ∧
    (let q := { pumpIn .lockout with lockout := some 0 }
     q.state = .lockout ∧ q.lockout.isSome = true ∧ q.pendingStart = none ∧
       { q with pendingStart := some ClaimClass.fill }.pendingStart.isSome = true) := by decide

theorem test_meets_PumpInputsTaken :
    (pumpIn .starting).dwell = none ∧ { pumpIn .starting with dwell := some 3 }.dwell.isSome = true ∧
    ((pumpIn .stopped).state ≠ .starting ∧ (pumpIn .stopped).state ≠ .running ∧ (pumpIn .stopped).state ≠ .stopping) ∧
    ((pumpIn .stopping).stopCause = .none ∧ { pumpIn .stopping with stopCause := .retry }.stopCause = .retry ∧
      { pumpIn .stopping with stopCause := .noStart }.stopCause = .noStart ∧
      { pumpIn .stopping with stopCause := .noFlow }.stopCause = .noFlow ∧
      { pumpIn .stopping with stopCause := .overload }.stopCause = .overload) ∧
    ({ quiet with overload := Trio.all true }.overload.get 1 = true ∧ quiet.overload.get 1 = false) ∧
    { pumpIn .faulted with cause := some .welded, judged := true }.cause = some .welded ∧
    ((running.pumps.get 1).state = .running ∧ running.inputs.feedback.get 1 = true ∧ warm.inputs.feedback.get 1 = false) ∧
    ((pumpIn .claiming).state = .claiming ∧ (pumpIn .outOfService).state = .outOfService) := by decide

theorem test_meets_PumpInputsTaken_commands :
    let given (q : Pump) (closed : Bool) (dwell : Nat) : State :=
      { pumpIs q with
        inputs := { warm.inputs with feedback := { warm.inputs.feedback with p1 := closed } }
        gs := { warm.gs with dwell := { warm.gs.dwell with p1 := dwell } } }
    (∀ st : PumpState, ((given (pumpIn st) true 5).pumps.get 1).state = st) ∧
    (∀ b : Bool, (given (pumpIn .running) b 5).inputs.feedback.get 1 = b) ∧
    ({ pumpIn .stopping with stopCause := .retry }.stopCause = .retry ∧ (pumpIn .stopping).stopCause ≠ .retry) ∧
    ((given (pumpIn .claiming) true 0).gs.dwell.get 1 = 0 ∧ (given (pumpIn .claiming) true 5).gs.dwell.get 1 ≠ 0) := by
  refine ⟨fun st => by cases st <;> decide, fun b => by cases b <;> decide, by decide, by decide⟩

theorem test_meets_ValveInputsTaken :
    let v (st : ValveState) (t : Option Nat) : Valve := { warm.valve with state := st, travel := t }
    ((v .closing (some 1)).state = .closing ∧ warm.inputs.closedLimit = false ∧ warm.inputs.openLimit = false) ∧
    ((v .opening (some 1)).state = .opening ∧ (v .opening (some 1)).travel.isSome = true) ∧
    (v .isOpen none).state = .isOpen ∧ (v .closed none).state = .closed ∧ (v .fault none).state = .fault ∧
    ({ warm.inputs with openLimit := true }.openLimit = true ∧ { warm.inputs with closedLimit := true }.closedLimit = true) := by
  decide

theorem test_meets_ValveCommandsTaken :
    warm.valve.state = .isOpen ∧ { warm.valve with state := .closed }.state = .closed ∧
    { warm.valve with state := .fault }.state = .fault ∧
    ¬ (warm.inputs.openLimit = true ∧ warm.inputs.closedLimit = true) ∧
    (let i := { warm.inputs with openLimit := true, closedLimit := true }
     i.openLimit = true ∧ i.closedLimit = true) := by decide

def claimOf (k : Claimant) (units : Nat) (cls : ClaimClass) : Claim :=
  { claimant := k, units := units, cls := cls, seq := 0, reclaiming := false }

/-- Pump 0 holds a claim in a class, and another claim waits. -/
def contended (held : ClaimClass) (c : Claim) : State :=
  { warm with
    arbiter := { warm.arbiter with granted := [claimOf (.pump 0) 20 held], waiting := [c] }
    pumps := { warm.pumps with p0 := pumpIn .running }, gs := { warm.gs with supplyLimit := 30 } }

/-- At an entry of the guard a claim that waits is withdrawn, not granted by the units another pump's stop gives back (R122). -/
theorem test_guard_entry_withdraws_a_waiting_claim :
    let s := { contended .fill (claimOf (.pump 1) 20 .fill) with
      pumps := { warm.pumps with p0 := { pumpIn .starting with confirm := some 5 }, p1 := pumpIn .claiming }
      level := { warm.level with window := [18000, 18000, 18000, 18000] } }
    let v := handle .guardJudge s
    v.guard.state = .tripped ∧ v.pumps.p0.state = .lockout ∧ v.pumps.p1.state = .stopped ∧ v.arbiter.waiting = [] ∧
      v.arbiter.granted = [] := by
  decide +kernel

/-- A discarded answer is never sent, even where the next opener ends at the instant of sending of its frame (R175). -/
theorem test_discarded_answer_is_never_sent :
    let f : FrameDue := { slot := 31, due := 130000, content := .answer, bytes := [1] }
    let s := { synced with crystal := 120500, link := { synced.link with frameDue := some f } }
    let t := after (.opener 130000 (checked 255 1 0 [4, 0, 0, 2, 88, 30, 0, 0, 3, 232])) (after .holdoverEntry s)
    t.clock.trust = .synced ∧ t.link.frameDue = none ∧ (after .instantOfSending t).link.sending = none := by
  decide +kernel

theorem test_meets_WalkGrantsWithinLimit :
    let fits := contended .fill (claimOf (.circuit 1) 10 .critical)
    let short := contended .fill (claimOf (.circuit 1) 31 .critical)
    let reclaims := contended .frost (claimOf (.circuit 1) 11 .critical)
    (unitSum fits.arbiter.granted ≤ fits.gs.supplyLimit ∧ ClaimsFit fits ∧ fits.arbiter.reclaim = none ∧ 10 ≤ freeUnits fits) ∧
    (ClaimsFit short ∧ freeUnits short < 31 ∧ freeUnits short + unitSum (victimOrder short .critical) < 31) ∧
    (ClaimsFit reclaims ∧ freeUnits reclaims < 11 ∧
      victimOrder reclaims .critical = [claimOf (.pump 0) 20 .frost] ++ [] ∧
      11 ≤ freeUnits reclaims + unitSum [claimOf (.pump 0) 20 .frost] ∧
      ∀ k, k < 1 → freeUnits reclaims + unitSum ([claimOf (.pump 0) 20 .frost].take k) < 11) ∧
    (reclaims.pumps.get 0).state = .running ∧ warm.arbiter.waiting = [] ∧
    (some { serves := .pump 1, need := 10, victims := [.pump 0] : Reclaim }).isSome = true := by
  refine ⟨⟨by decide, ?_, by decide, by decide⟩, ⟨?_, by decide, by decide⟩, ⟨?_, by decide, by decide, by decide, ?_⟩, by decide,
    by decide, by decide⟩
  · unfold ClaimsFit; decide
  · unfold ClaimsFit; decide
  · unfold ClaimsFit; decide
  · intro k hk
    have : k = 0 := by omega
    subst this; decide

theorem test_meets_ClaimsComeAndGo :
    let s := contended .fill (claimOf (.circuit 1) 31 .frost)
    hasClaim (.pump 0) s = true ∧
    (hasClaim (.pump 1) s = false ∧ s.arbiter.waiting = [] ++ [claimOf (.circuit 1) 31 .frost] ∧
      classRank .fill < classRank .frost) ∧
    (s.arbiter.waiting = [claimOf (.circuit 1) 31 .frost] ++ [] ∧ classRank .frost ≤ classRank .frost) ∧
    s.arbiter.reclaim = none ∧
    (let r : Reclaim := { serves := .circuit 1, need := 31, victims := [.pump 0] }
     r.serves ≠ .pump 0 ∧ r.serves = .circuit 1 ∧ r.victims.filter (fun x => x ≠ .pump 0) = [] ∧
       r.victims.filter (fun x => x ≠ .pump 1) ≠ []) := by decide

theorem test_meets_LevelReadingsTaken :
    LevelFits warm ∧ LevelFits running ∧ (0 : Int) ≤ 20000 ∧ (20000 : Int) < 20001 ∧ (-1 : Int) < 0 ∧
    (3 ≤ warm.level.window.length ∧ State.reset.level.window.length < 3) ∧
    ({ warm.level with timer := some 1 }.timer = some 1 ∧ 1 < 2 ∧ warm.level.timer = some 2) ∧
    (filtered warm = some 14200 ∧ { warm.level with newSample := some 20000 }.newSample = some 20000) ∧
    filtered State.reset = none :=
  ⟨⟨by decide, by decide, by decide, by decide⟩, ⟨by decide, by decide, by decide, by decide⟩, by decide, by decide, by decide,
    by decide, by decide, by decide, by decide⟩

theorem test_meets_GuardJudgedByTable :
    let s (st : GuardState) (l : Nat) (b : Bool) : State :=
      { warm with
        guard := { warm.guard with state := st }, level := { warm.level with window := [l, l, l, l] }
        inputs := { warm.inputs with float := b } }
    let ec := warm.guard.ceiling
    ({ warm with level := { warm.level with window := [] } }.level.window = []) ∧
    (filtered (s .near 17499 true) = some 17499 ∧ 17499 < ec - warm.gs.disagreement) ∧
    (filtered (s .normal 17500 true) = some 17500 ∧ ec - warm.gs.disagreement ≤ 17500) ∧
    (filtered (s .near 18000 false) = some 18000 ∧ ec ≤ 18000) ∧
    (filtered (s .normal 17700 false) = some 17700 ∧ ec - warm.gs.approachBand ≤ 17700 ∧ 17700 < ec) ∧
    (filtered (s .near 17649 false) = some 17649 ∧ 17649 < ec - warm.gs.approachBand - 50) ∧ true ≠ warm.inputs.float := by
  decide

theorem test_meets_GuardElsewhere :
    let s (st : GuardState) (w : List Nat) (b : Bool) : State :=
      { warm with
        guard := { warm.guard with state := st }, level := { warm.level with window := w }
        inputs := { warm.inputs with float := b } }
    let at_ (l : Nat) := List.replicate 4 l
    let ec := warm.guard.ceiling
    ((s .blind [] true).inputs.float = true ∧ filtered (s .blind [] false) = none) ∧
    (filtered (s .blind (at_ 18000) false) = some 18000 ∧ ec ≤ 18000) ∧
    (filtered (s .blind (at_ 17700) false) = some 17700 ∧ 17700 < ec ∧ ec - warm.gs.approachBand ≤ 17700) ∧
    (filtered (s .blind (at_ 17699) false) = some 17699 ∧ 17699 < ec - warm.gs.approachBand) ∧
    (filtered (s .tripped (at_ 17499) true) = some 17499 ∧ 17499 < ec - warm.gs.disagreement) ∧
    (filtered (s .tripped (at_ 16500) false) = some warm.gs.rearm ∧ warm.gs.rearm < ec - warm.gs.approachBand) ∧
    (filtered (s .tripped (at_ 17500) true) = some 17500 ∧ ¬ (17500 < ec - warm.gs.disagreement)) ∧
    ((s .latched [] false).guard.state = .latched ∧ (s .containment [] false).guard.state = .containment) ∧
    ((handle .guardJudge warm).guard.state = warm.guard.state ∧
      (handle .guardJudge (s .normal [] false)).guard.state ≠ .normal) ∧
    (filtered (s .normal (at_ 0) false) = some 0 ∧ 0 < warm.gs.reserveFloor) ∧
    ((pumpIn .claiming).state = .claiming ∧ (pumpIn .starting).state = .starting ∧ warm.inputs.feedback.get 1 = false ∧
      warm.arbiter.waiting = []) ∧
    (warm.guard.ceiling = warm.gs.ceiling ∧ warm.frost.pipe.isSome = false ∧ State.reset.frost.pipe.isSome = true ∧
      warm.guard.ceiling ≠ warm.gs.ceiling - warm.gs.coldMargin) := by
  decide +kernel

theorem test_meets_ProbesAndPipeJudged :
    ((-550 : Int) ≤ 1250 ∧ (-551 : Int) < -550 ∧ (1250 : Int) < 1251) ∧
    ((warm.frost.probes.get 0).silence = some 30 ∧ { warm.frost.probes.get 0 with silence := some 29 }.silence = some 29) ∧
    ((warm.frost.probes.get 0).condition ≠ .invalid ∧ probeInUse warm 0 = true) ∧
    ({ warm.frost.probes.get 0 with condition := .invalid }.condition = .invalid ∧ warm.gs.role.get 0 = .overflowPipe ∧
      (∀ k : Fin 8, k < 0 → warm.gs.role.get k ≠ .overflowPipe) ∧
      ∀ c : Fin 8, { warm.gs with role := Octo.all .none }.role.get c ≠ .overflowPipe) ∧
    { warm.gs with tankProbe := some 4 }.tankProbe = some 4 ∧
    pipeProbe warm = some 0 ∧ (State.reset.frost.probes.get 0).condition ≠ .valid ∧
    ((warm.frost.probes.get 0).condition = .valid ∧ (warm.frost.probes.get 0).reading = some 100 ∧ warm.frost.pipe = none) ∧
    State.reset.frost.pipe = some .noReading ∧ { warm.frost with pipe := some .cold }.pipe = some .cold ∧
    (judgePipe State.reset).frost.pipe.isSome = State.reset.frost.pipe.isSome ∧
    (judgePipe { warm with frost := { warm.frost with pipe := some .cold } }).frost.pipe.isSome ≠ true := by decide

theorem test_meets_CircuitsJudged :
    let s (st : CircuitState) (t : Int) : State :=
      setProbe 2 ⟨.valid, some t, some 30⟩ (setCircuit 2 ⟨st, some 30, some 30⟩ warm)
    (warm.gs.role.get 2 ≠ .none ∧ warm.gs.probeIndex.get 2 = 2 ∧ ((s .off 20).frost.probes.get 2).reading = some 20 ∧
      20 ≤ 30 - warm.gs.hysteresis) ∧
    ((s .off 21).frost.probes.get 2).reading = some 21 ∧ ¬ ((21 : Int) ≤ 30 - warm.gs.hysteresis) ∧
    (((s .heating 30).frost.circuits.get 2).state = .heating ∧ ((s .heating 30).frost.circuits.get 2).setpoint = some 30 ∧
      ((s .heating 30).frost.probes.get 2).reading = some 30) ∧
    ((s .calling 29).frost.circuits.get 2).state = .calling ∧ ((s .shed 30).frost.circuits.get 2).state = .shed ∧
    ((s .fault 0).frost.circuits.get 2).state = .fault ∧
    (let r : Reclaim := { serves := .pump 0, need := 9, victims := [.circuit 2, .pump 1] }
     (.pump 1 : Claimant) ∈ r.victims ∧ (.pump 1 : Claimant) ≠ .circuit 2) ∧
    ((s .heating 0).frost.circuits.get 2).timer.isSome = true ∧
    (∀ x ∈ (s .heating 0).arbiter.waiting, x.claimant ≠ .circuit 2) ∧
    { warm.inputs with current := warm.inputs.current.set 2 true }.current.get 2 = true := by decide

theorem test_meets_TurnoverJudged :
    let s (t : Int) : State :=
      { setProbe 4 ⟨.valid, some t, some 30⟩ warm with
        gs := { warm.gs with tankProbe := some 4 }, frost := { (setProbe 4 ⟨.valid, some t, some 30⟩ warm).frost with stagnation := 4320 } }
    let cold := (s 0).gs.tankCold
    ((s (cold + 1)).gs.tankProbe.map (fun i => (s (cold + 1)).frost.probes.get i)) = some ⟨.valid, some (cold + 1), some 30⟩ ∧
    { warm.gs with tankProbe := none }.tankProbe = none ∧
    ((s cold).gs.stagnationTime * 60 ≤ (s cold).frost.stagnation ∧ filtered (s cold) = some 14200 ∧
      (s cold).guard.state = .normal ∧ 14200 + (s cold).gs.turnoverDepth + (s cold).gs.approachBand ≤ (s cold).guard.ceiling ∧
      isLive 241 (s cold) = false) ∧
    ({ s cold with guard := { warm.guard with state := .near } }.guard.state ≠ .normal) ∧
    (let u := { s cold with book := { warm.book with records :=
        [{ number := 241, origin := .system, revision := 0, body := .fill { fillIn .due with window := none, hold := some .pump } }] } }
     isLive 241 u = true ∧ (findFill 241 u).map (fun f => (f.state, f.hold)) = some (.due, some .pump)) ∧
    (13700 + warm.gs.turnoverDepth ≤ 14200 ∧ 14200 < 13701 + warm.gs.turnoverDepth) ∧
    (let u (first : Nat) := { s cold with book := { warm.book with records :=
        [{ number := 241, origin := .system, revision := 0,
           body := .fill { fillIn .suspended with window := none, context := some { litres := 5, first := first, interruptions := 0 } } }] } }
     (findFill 241 (u 13700)).map (fun f => (f.state, f.context.map (·.first))) = some (.suspended, some 13700) ∧
       (handle .withdrawTurnover (u 13700)).frost.stagnation = 0 ∧ (handle .withdrawTurnover (u 13701)).frost.stagnation = 4320) := by
  decide +kernel

theorem test_meets_FieldCommandFrame :
    groupOf (.overloadTrip 1) = .pump ∧ groupOf (.floatChange true) = .valveFloatHeater ∧
    groupOf (.probeReading 0 5 false) = .reading ∧ ∃ t, exec (.overloadTrip 1) warm = .next t :=
  ⟨rfl, rfl, rfl, _, rfl⟩

theorem test_meets_RequestsFrame :
    groupOf (.retire .cabinet 5 none) = .orderChange ∧ groupOf (.setTariff .cabinet []) = .guardStore ∧
    groupOf (.acknowledge .cabinet quiet) = .service ∧ groupOf (.setClock .cabinet 0 0 0) = .setClock ∧
    ∃ t, exec (.retire .cabinet 5 none) (withOrder (.heat (heatIn .active))) = .next t :=
  ⟨rfl, rfl, rfl, rfl, _, rfl⟩

theorem test_meets_TimeFrame :
    groupOf .minuteEvent = .crystal ∧ groupOf .holdoverEntry = .head ∧
    (groupOf (.opener 5 (checked 255 1 0 [])) = .head ∧ (checked 255 1 0 []).kind = 1) ∧
    ∃ t, exec .minuteEvent warm = .next t :=
  ⟨rfl, rfl, ⟨rfl, rfl⟩, _, rfl⟩

/-- Order 5 runs on pump 1, which holds its claim. -/
def supplied : State :=
  { running with arbiter := { warm.arbiter with granted := [claimOf (.pump 1) (warm.gs.rating.get 1) .fill] } }

theorem test_meets_ClaimsKept : ClaimsFit supplied ∧ ClaimsMatch supplied := by
  have h : ClaimsFit supplied := by unfold ClaimsFit; decide
  refine ⟨h, h, ?_, ?_⟩
  · intro p; unfold PumpClaimsMatch PumpFeedbackFits; revert p; decide
  · intro c; unfold CircuitClaimsMatch; revert c; decide

theorem test_meets_AssignmentsKept : BookFits supplied ∧ AssignmentsFit supplied := by
  refine ⟨test_withOrder_fits_the_book _, ?_, ?_, ?_⟩
  · intro p n h
    match p with
    | 0 => exact absurd h (by simp [supplied, running, warm, State.reset, Trio.get, Trio.all])
    | 1 =>
      have : n = 5 := by simpa [supplied, running, Trio.get, eq_comm] using h
      subst this
      exact ⟨_, rfl, rfl, .inl rfl⟩
    | 2 => exact absurd h (by simp [supplied, running, warm, State.reset, Trio.get, Trio.all])
  · intro n f h _
    by_cases hn : n = 5
    · subst hn
      have hf : some { fillIn .running with context := some { litres := 16777210, first := 14000, interruptions := 0 } } = some f := h
      rw [← Option.some.inj hf]; rfl
    · have : findRecord n supplied = none := by simp [findRecord, supplied, running, withOrder, rec5, Ne.symm hn]
      simp [findFill, this] at h
  · have h1 : holderOf supplied 1 = some { fillIn .running with
        context := some { litres := 16777210, first := 14000, interruptions := 0 } } := rfl
    have h0 : holderOf supplied 0 = none := rfl
    have h2 : holderOf supplied 2 = none := rfl
    intro p
    match p with
    | 0 => rw [h0]; exact ⟨by decide, by simp; rfl, by decide⟩
    | 1 => rw [h1]; exact ⟨fun _ => ⟨_, rfl, rfl⟩, ⟨fun _ => ⟨_, rfl, rfl⟩, fun _ => rfl⟩, by decide⟩
    | 2 => rw [h2]; exact ⟨by decide, by simp; rfl, by decide⟩

/-- The other laws of Safety hold of such towers, which also take a step. -/
theorem test_meets_laws_kept_by_steps :
    GuardStopsPumps running ∧ PumpsFit warm ∧ ValveFits warm ∧ LevelFits warm ∧ BookFits warm ∧
    LockFits (linkUnlocked warm) ∧ PortFits warm ∧ ∃ t, step { warm with pending := [.overloadTrip 1] } = .next t := by
  refine ⟨?_, ?_, ⟨by decide, by decide⟩, ⟨by decide, by decide, by decide, by decide⟩, ⟨List.Pairwise.nil, by decide, by decide,
    by decide, by decide⟩, ⟨by decide, by decide, by decide⟩, ⟨by decide, by decide⟩, _, rfl⟩
  · intro p; revert p; decide
  · intro p; unfold PumpItemsFit; revert p; decide

end Sys2Proof.Tests
end

/-! LIST over a book whose numbers rise: the first record above the starting value is the lowest one above it (R25). -/

namespace Sys2Proof.Machine

open Sys2Proof.Safety

/-! ### Searching rising numbers -/

/-- Among records whose numbers rise, a search for the first number above `n` stops at the lowest such number: every record before it
has a smaller number, so one above `n` there would be lower still. -/
theorem find_above_of_lowest {n : Nat} {r : Record} {rs : List Record} (hasc : ascending (rs.map (·.number))) (hr : r ∈ rs)
    (hn : n < r.number) (hlow : ∀ x ∈ rs, n < x.number → r.number ≤ x.number) :
    rs.find? (fun x => n < x.number) = some r := by
  obtain ⟨before, after, rfl⟩ := List.append_of_mem hr
  obtain ⟨-, -, hbefore⟩ := List.pairwise_append.1 (List.pairwise_map.1 hasc)
  refine List.find?_eq_some_iff_append.2 ⟨by simpa using hn, before, after, rfl, fun x hx => ?_⟩
  have hsmaller : x.number < r.number := hbefore x hx r List.mem_cons_self
  have hnotAbove : ¬ n < x.number := fun h =>
    absurd (hlow x (List.mem_append_left _ hx) h) (Nat.not_le.2 hsmaller)
  simpa using hnotAbove

/-! ### The result of LIST -/

/-- With no live number above the starting value the result is NONE (R25). -/
theorem listNow_of_none_above {n : Nat} {s : State} (h : ∀ x ∈ s.book.records, x.number ≤ n) : listNow n s = plain .none := by
  have hfind : s.book.records.find? (fun r => n < r.number) = none :=
    List.find?_eq_none.2 fun x hx => by simpa using h x hx
  unfold listNow; rw [hfind]

/-- The lowest live number above the starting value is returned with its record's kind and state (R25). -/
theorem listNow_of_lowest_above {n : Nat} {r : Record} {s : State} (hfit : BookFits s) (hr : r ∈ s.book.records)
    (hn : n < r.number) (hlow : ∀ x ∈ s.book.records, n < x.number → r.number ≤ x.number) :
    listNow n s = doneWith [BitVec.ofNat 8 r.number, BitVec.ofNat 8 (kindCode r.body), BitVec.ofNat 8 (recordState r)] := by
  obtain ⟨hasc, -⟩ := hfit
  unfold listNow; rw [find_above_of_lowest hasc hr hn hlow]; rfl

/-- LIST leaves nothing but its result, from either port (R25, R176). -/
theorem exec_list_result (port : Port) (n : Nat) (s : State) :
    exec (.list port n) s =
      .next (noteFormed port (.list n) (listNow n s) { s with lastResult := some (listNow n s) }) :=
  congrArg Host.Outcome.next (takeRequest_refused port (.list n) (listNow n s) s (carryOut_list port n s) rfl)

/-- Settles O11: LIST leaves only its result, and over a book whose numbers rise the first record above the starting value is the
lowest. -/
theorem listReturnsNext : Obligations.ListReturnsNext := by
  unfold Obligations.ListReturnsNext
  intro port n s hfit gives
  have gives_listNow : gives (listNow n s) := exec_list_result port n s
  refine ⟨fun hnone => ?_, fun r hr hn hlow => ?_⟩
  · rw [listNow_of_none_above hnone] at gives_listNow
    exact gives_listNow
  · rw [listNow_of_lowest_above hfit hr hn hlow] at gives_listNow
    exact gives_listNow

end Sys2Proof.Machine

/-! The guard judged in NORMAL and NEAR: the three lines of the trip judgement come first, the approach band after them (R117). -/

namespace Sys2Proof.Machine

/-! ### The trip judgement -/

/-- An active float with the level well below the effective ceiling disagrees with it (R117, first line). -/
theorem tripJudgement_active_below {g : GuardSet} {ec l : Nat} (h : l < ec - g.disagreement) :
    tripJudgement g ec true (some l) = some .latched := by
  simp [tripJudgement, h]

/-- An active float with the level near the effective ceiling agrees with it (R117, second line). -/
theorem tripJudgement_active_above {g : GuardSet} {ec l : Nat} (h : ec - g.disagreement ≤ l) :
    tripJudgement g ec true (some l) = some .tripped := by
  simp [tripJudgement, h, Nat.not_lt.2 h]

/-- Without the float the level alone trips, at the effective ceiling (R117, second line). -/
theorem tripJudgement_inactive_above {g : GuardSet} {ec l : Nat} (h : ec ≤ l) :
    tripJudgement g ec false (some l) = some .tripped := by
  simp [tripJudgement, h]

/-- Without the float and below the effective ceiling no line of the trip judgement applies. -/
theorem tripJudgement_inactive_below {g : GuardSet} {ec l : Nat} (h : l < ec) :
    tripJudgement g ec false (some l) = none := by
  simp [tripJudgement, h]

/-! ### The state a judgement gives -/

/-- In NORMAL and NEAR a line of the trip judgement that applies decides the judgement. -/
theorem judgedState_of_trip {s : State} {x : GuardState} (hstate : s.guard.state = .normal ∨ s.guard.state = .near)
    (htrip : tripJudgement s.gs s.guard.ceiling s.inputs.float (filtered s) = some x) : judgedState s = x := by
  unfold judgedState
  rcases hstate with hnormal | hnear
  · rw [hnormal]; simp only [judgeFromNormal, htrip]
  · rw [hnear]; simp only [judgeFromNear, htrip]

/-- In NORMAL, with no trip, the guard enters NEAR from the approach band up (R117, fourth line). -/
theorem judgedState_normal_of_no_trip {s : State} {l : Nat} (hstate : s.guard.state = .normal) (hlevel : filtered s = some l)
    (htrip : tripJudgement s.gs s.guard.ceiling s.inputs.float (some l) = none) :
    judgedState s = if s.guard.ceiling - s.gs.approachBand ≤ l then .near else .normal := by
  unfold judgedState
  rw [hstate]; simp only [judgeFromNormal, hlevel, htrip]

/-- In NEAR, with no trip, the guard leaves for NORMAL only more than 50 mm below the approach band (R117, fifth line). -/
theorem judgedState_near_of_no_trip {s : State} {l : Nat} (hstate : s.guard.state = .near) (hlevel : filtered s = some l)
    (htrip : tripJudgement s.gs s.guard.ceiling s.inputs.float (some l) = none) :
    judgedState s = if l < s.guard.ceiling - s.gs.approachBand - 50 then .normal else .near := by
  unfold judgedState
  rw [hstate]; simp only [judgeFromNear, hlevel, htrip]

/-- After a judgement the guard stands in the state judged: neither REARM nor the reserve condition moves it. -/
theorem judgeGuard_state (s : State) : (judgeGuard s).guard.state = judgedState s := by
  unfold judgeGuard
  rw [judgeReserve_state, enterGuard_guard]

/-! ### The float input -/

theorem finish_inputs (s : State) : (finish s).inputs = s.inputs := congrArg Still.inputs (finish_still s)

theorem takeFloat_inputs (b : Bool) (s : State) : (takeFloat b s).inputs = { s.inputs with float := b } := by
  unfold takeFloat; dsimp only; split <;> rfl

/-- A change of the float input is announced to the guard, for one judgement (R116). -/
theorem takeFloat_agenda_of_change {b : Bool} {s : State} (h : b ≠ s.inputs.float) :
    (takeFloat b s).agenda = s.agenda ++ [.guardJudge] := by
  unfold takeFloat; rw [if_neg h]; rfl

theorem exec_floatChange (b : Bool) (s : State) : exec (.floatChange b) s = .next (finish (takeFloat b s)) :=
  conclude_eq (takeFloat b) s

/-- Settles O48, line by line of the table: the trip judgement by the float and the level, then the approach band by the state in
force. -/
theorem guardJudgedByTable : Obligations.GuardJudgedByTable := by
  unfold Obligations.GuardJudgedByTable
  intro s ec a d new
  have new_eq : new = judgedState s := judgeGuard_state s
  refine ⟨fun hstate => ?_, fun b => ⟨exec_floatChange b s, ?_, takeFloat_agenda_of_change⟩⟩
  · have trip_decides : ∀ {float : Bool} {level : Option Nat} {x : GuardState}, s.inputs.float = float → filtered s = level →
        tripJudgement s.gs ec float level = some x → new = x := by
      rintro _ _ x rfl rfl htrip
      exact new_eq.trans (judgedState_of_trip hstate htrip)
    refine ⟨fun hfloat hnone => trip_decides hfloat hnone rfl, fun hfloat hnone => trip_decides hfloat hnone rfl,
      fun l hlevel => ⟨fun hfloat hbelow => ?_, fun hfloat habove => ?_, fun hfloat habove => ?_, fun hfloat hbelow => ?_⟩⟩
    · exact trip_decides hfloat hlevel (tripJudgement_active_below hbelow)
    · exact trip_decides hfloat hlevel (tripJudgement_active_above habove)
    · exact trip_decides hfloat hlevel (tripJudgement_inactive_above habove)
    · have no_trip : tripJudgement s.gs s.guard.ceiling s.inputs.float (some l) = none := by
        rw [hfloat]; exact tripJudgement_inactive_below hbelow
      exact ⟨fun hnormal => new_eq.trans (judgedState_normal_of_no_trip hnormal hlevel no_trip),
        fun hnear => new_eq.trans (judgedState_near_of_no_trip hnear hlevel no_trip)⟩
  · exact (finish_inputs _).trans (takeFloat_inputs b s)

end Sys2Proof.Machine

/-! CIRCUIT RESET: its refusals in order, and a circuit in FAULT, which enters OFF and is judged at once. No judgement and no granting
walk brings a circuit back to FAULT; only an expired feedback timer does that (R142, R143). -/

namespace Sys2Proof.Machine

/-! ### What leaves the frost controller as it stands -/

theorem reportReclaim_frost (k : Claimant) (s : State) : (reportReclaim k s).frost = s.frost := by
  unfold reportReclaim; repeat' split
  all_goals rfl

theorem enterClaim_frost (k : Claimant) (u : Nat) (cls : ClaimClass) (s : State) : (enterClaim k u cls s).frost = s.frost := by
  unfold enterClaim; split <;> rfl

theorem dropWaiting_frost (k : Claimant) (s : State) : (dropWaiting k s).frost = s.frost := by
  unfold dropWaiting; dsimp only; repeat' split
  all_goals rfl

theorem takePumpGrant_frost (p : Fin 3) (s : State) : (takePumpGrant p s).frost = s.frost := by
  unfold takePumpGrant; dsimp only; repeat' split
  all_goals rfl

/-! ### A circuit out of FAULT stays out of it -/

/-- The circuit stands in a state other than FAULT. -/
def OutOfFault (c : Fin 8) (s : State) : Prop := (s.frost.circuits.get c).state ≠ .fault

theorem outOfFault_of_frost {c : Fin 8} {s t : State} (h : t.frost = s.frost) (hs : OutOfFault c s) : OutOfFault c t := by
  unfold OutOfFault; rw [h]; exact hs

/-- Writing a circuit in a state other than FAULT brings no circuit to FAULT. -/
theorem setCircuit_outOfFault {c d : Fin 8} {q : Circuit} {s : State} (hq : q.state ≠ .fault) (hs : OutOfFault c s) :
    OutOfFault c (setCircuit d q s) := by
  unfold OutOfFault
  by_cases h : c = d
  · subst h; rwa [setCircuit_circuits, octo_get_set_same]
  · rwa [setCircuit_circuits, octo_get_set_other _ _ _ _ h]

/-- A grant takes a circuit to HEATING only (R140, R142). -/
theorem takeGrant_outOfFault {c : Fin 8} (k : Claimant) {s : State} (hs : OutOfFault c s) : OutOfFault c (takeGrant k s) := by
  cases k with
  | pump p => exact outOfFault_of_frost (takePumpGrant_frost p s) hs
  | circuit d =>
    show OutOfFault c (takeCircuitGrant d s)
    unfold takeCircuitGrant; dsimp only; split
    · exact setCircuit_outOfFault nofun hs
    · exact hs

/-- A reclaim takes a circuit to SHED only (R141). -/
theorem shedCircuit_outOfFault {c : Fin 8} {w : State → State} (hw : ∀ t, OutOfFault c t → OutOfFault c (w t)) (k : Claimant)
    {s : State} (hs : OutOfFault c s) : OutOfFault c (shedCircuit w k s) := by
  cases k with
  | pump p => exact hs
  | circuit d =>
    have released : OutOfFault c (w (dropGranted (.circuit d)
        (setCircuit d { s.frost.circuits.get d with state := .shed, timer := none } s))) :=
      hw _ (outOfFault_of_frost rfl (setCircuit_outOfFault nofun hs))
    exact hw _ (outOfFault_of_frost (enterClaim_frost _ _ _ _) released)

theorem walk_outOfFault {c : Fin 8} (n : Nat) {s : State} (hs : OutOfFault c s) : OutOfFault c (walk n s) := by
  induction n generalizing s with
  | zero => exact hs
  | succ n ih =>
    unfold walk; dsimp only; repeat' split
    · exact hs
    · exact hs
    · exact ih (takeGrant_outOfFault _ hs)
    · exact hs
    · refine foldl_keeps (OutOfFault c) _ (fun t k ht => shedCircuit_outOfFault (fun _ => ih) k ht) _ _ ?_
      exact foldl_keeps (OutOfFault c) _ (fun t k ht => outOfFault_of_frost (reportReclaim_frost k t) ht) _ _ hs

/-- A judgement takes a circuit to CALLING or OFF, and the walk that follows takes it no further than HEATING or SHED (R139 to R141). -/
theorem judgeCircuit_outOfFault {c : Fin 8} (d : Fin 8) {s : State} (hs : OutOfFault c s) : OutOfFault c (judgeCircuit d s) := by
  have calls : OutOfFault c (circuitCalls d s) :=
    walk_outOfFault 64 (outOfFault_of_frost (enterClaim_frost _ _ _ _) (setCircuit_outOfFault nofun hs))
  have givesUp : OutOfFault c (circuitGivesUp d s) :=
    walk_outOfFault 64 (outOfFault_of_frost (dropWaiting_frost _ _) (setCircuit_outOfFault nofun hs))
  have stops : OutOfFault c (circuitStops d .off s) :=
    walk_outOfFault 64 (outOfFault_of_frost rfl (setCircuit_outOfFault nofun hs))
  unfold judgeCircuit; dsimp only; repeat' split
  all_goals assumption

/-- A circuit reset from FAULT is out of it: it enters OFF, and the judgement does not bring it back (R143). -/
theorem resetCircuitFault_outOfFault (c : Fin 8) (s : State) : OutOfFault c (resetCircuitFault c s) := by
  refine judgeCircuit_outOfFault c ?_
  unfold OutOfFault
  rw [setCircuit_circuits, octo_get_set_same]
  exact nofun

/-! ### What a request taken leaves of the frost controller and the events -/

theorem noteFormed_frost (port : Port) (q : Request) (r : Response) (s : State) : (noteFormed port q r s).frost = s.frost := by
  unfold noteFormed; split
  · split <;> rfl
  · rfl

theorem markRemote_frost (port : Port) (q : Request) (r : Response) (before after : State) :
    (markRemote port q r before after).frost = after.frost := by
  unfold markRemote; split
  · rfl
  · split <;> rfl

/-- The frost controller after a request is as its owner left it. -/
theorem takeRequest_frost (port : Port) (q : Request) (s : State) :
    (takeRequest port q s).frost = (carryOut port q s).1.frost := by
  unfold takeRequest; dsimp only; rw [noteFormed_frost]; exact markRemote_frost _ _ _ _ _

/-- A flag just set is set (R188). -/
theorem eventIsSet_setEvent (f : EventFlag) (s : State) : eventIsSet f (setEvent f s) = true := by
  have mask_kept : (s.events ||| flagMask f) &&& flagMask f = flagMask f := by
    ext i hi; simp +contextual
  have mask_nonzero : flagMask f ≠ 0#17 := by cases f <;> decide
  unfold eventIsSet; rw [setEvent_events, mask_kept]
  exact bne_iff_ne.2 mask_nonzero

/-- A request that changes the tower over the link sets REMOTE (R176). -/
theorem takeRequest_district_remote {q : Request} {s : State} (h : changesTower q (carryOut .district q s).2 s = true) :
    eventIsSet .remote (takeRequest .district q s) = true := by
  rw [takeRequest_district]
  unfold markRemote; rw [if_pos h]
  exact eventIsSet_setEvent .remote (carryOut .district q s).1

/-! ### The cases of CIRCUIT RESET -/

/-- Only the link refuses, and only while it is locked (R179). -/
theorem linkRefuses_eq_false_iff {port : Port} {s : State} :
    linkRefuses port s = false ↔ port = .cabinet ∨ s.remote.unlocked = true := by
  cases port <;> simp [linkRefuses]

theorem circuitOf_of_le {n : Nat} (h : 8 ≤ n) : circuitOf n = none := dif_neg (Nat.not_lt.2 h)

theorem circuitOf_val (c : Fin 8) : circuitOf c.val = some c := dif_pos c.isLt

theorem circuitResetNow_locked {port : Port} {s : State} (n : Nat) (h : linkRefuses port s = true) :
    circuitResetNow port n s = (s, plain .locked) := by
  unfold circuitResetNow; rw [if_pos h]

theorem circuitResetNow_invalid {port : Port} {n : Nat} {s : State} (hfree : linkRefuses port s = false) (hn : 8 ≤ n) :
    circuitResetNow port n s = (s, plain .invalid) := by
  simp [circuitResetNow, hfree, circuitOf_of_le hn]

theorem circuitResetNow_inUse {port : Port} {c : Fin 8} {s : State} (hfree : linkRefuses port s = false)
    (h : (s.frost.circuits.get c).state ≠ .fault) : circuitResetNow port c s = (s, plain .inUse) := by
  simp [circuitResetNow, hfree, circuitOf_val, h]

theorem circuitResetNow_of_fault {port : Port} {c : Fin 8} {s : State} (hfree : linkRefuses port s = false)
    (h : (s.frost.circuits.get c).state = .fault) : circuitResetNow port c s = (resetCircuitFault c s, plain .done) := by
  simp [circuitResetNow, hfree, circuitOf_val, h]

theorem exec_circuitReset (port : Port) (n : Nat) (s : State) :
    exec (.circuitReset port n) s = .next (finish (takeRequest port (.circuitReset n) s)) :=
  conclude_eq (takeRequest port (.circuitReset n)) s

/-- A refused CIRCUIT RESET leaves nothing but its result. -/
theorem exec_circuitReset_refused {port : Port} {n : Nat} {code : ResultCode} {s : State}
    (hnow : circuitResetNow port n s = (s, plain code)) (hcode : accepts (plain code) = false) :
    exec (.circuitReset port n) s =
      .next (finish (noteFormed port (.circuitReset n) (plain code) { s with lastResult := some (plain code) })) := by
  rw [exec_circuitReset,
    takeRequest_refused port _ (plain code) s ((carryOut_circuitReset port n s).trans hnow) hcode]

/-- Settles O24: the refusals by the first check that fails, and the circuit in FAULT by what its owner leaves, which the request's
own bookkeeping does not touch. -/
theorem circuitResetTakes : Obligations.CircuitResetTakes := by
  unfold Obligations.CircuitResetTakes
  intro port n s refused free u
  have linkFree : free → linkRefuses port s = false := linkRefuses_eq_false_iff.2
  refine ⟨fun hlocked => ?_, fun hfree hn => ?_, fun c hfree hn => ⟨fun hstate => ?_, fun hfault => ?_⟩⟩
  · have hrefuses : linkRefuses port s = true := by
      rw [← Bool.not_eq_false]; exact fun h => hlocked (linkRefuses_eq_false_iff.1 h)
    exact exec_circuitReset_refused (circuitResetNow_locked n hrefuses) rfl
  · exact exec_circuitReset_refused (circuitResetNow_invalid (linkFree hfree) hn) rfl
  · subst hn
    exact exec_circuitReset_refused (circuitResetNow_inUse (linkFree hfree) hstate) rfl
  · subst hn
    have carried : carryOut port (.circuitReset c) s = (resetCircuitFault c s, plain .done) :=
      circuitResetNow_of_fault (linkFree hfree) hfault
    have frost_reset : u.frost = (resetCircuitFault c s).frost := by
      rw [takeRequest_frost, carried]
    refine ⟨exec_circuitReset port c s, ?_, ?_, frost_reset, outOfFault_of_frost frost_reset (resetCircuitFault_outOfFault c s)⟩
    · rw [finish_lastResult, takeRequest_lastResult, carried]
    · rintro rfl
      exact takeRequest_district_remote (by rw [carried]; rfl)

end Sys2Proof.Machine

/-! UNLOCK and LOCK: the cases of R178 by what the owner leaves of the link lock, and what the bookkeeping of a request adds to it. -/

namespace Sys2Proof.Machine

/-! ### What a request taken leaves of its owner's state -/

/-- A formed result reaches the cabinet port only (R186). -/
theorem noteFormed_frame (port : Port) (q : Request) (r : Response) (s : State) :
    noteFormed port q r s = { s with cabinet := (noteFormed port q r s).cabinet } := by
  unfold noteFormed; split
  · split <;> rfl
  · rfl

theorem markRemote_frame (port : Port) (q : Request) (r : Response) (before after : State) :
    markRemote port q r before after = { after with events := (markRemote port q r before after).events } := by
  unfold markRemote; split
  · rfl
  · split <;> rfl

/-- The bookkeeping of a request is about the events, the last result and the cabinet port only; all else is its owner's. -/
theorem takeRequest_frame (port : Port) (q : Request) (s : State) :
    takeRequest port q s =
      { (carryOut port q s).1 with
        events := (takeRequest port q s).events
        lastResult := (takeRequest port q s).lastResult
        cabinet := (takeRequest port q s).cabinet } := by
  unfold takeRequest; dsimp only
  rw [noteFormed_frame, markRemote_frame]

theorem takeRequest_remote (port : Port) (q : Request) (s : State) :
    (takeRequest port q s).remote = (carryOut port q s).1.remote := by
  rw [takeRequest_frame]

theorem takeRequest_events (port : Port) (q : Request) (s : State) :
    (takeRequest port q s).events = (markRemote port q (carryOut port q s).2 s (carryOut port q s).1).events := by
  unfold takeRequest; dsimp only; rw [noteFormed_frame]

theorem finish_remote (s : State) : (finish s).remote = s.remote := congrArg Still.remote (finish_still s)

/-! ### The cases of UNLOCK -/

theorem unlockNow_refusing {s : State} (code : BitVec 32) (hrounds : 0 < s.remote.refusalLeft) :
    unlockNow code s = (s, plain .locked) := if_pos hrounds

theorem unlockNow_noCode {s : State} (code : BitVec 32) (hrounds : s.remote.refusalLeft = 0) (hcode : s.gs.accessCode = 0) :
    unlockNow code s = (s, plain .locked) := by
  simp [unlockNow, hrounds, hcode]

theorem unlockNow_rightCode {code : BitVec 32} {s : State} (hrounds : s.remote.refusalLeft = 0) (hcode : s.gs.accessCode ≠ 0)
    (hright : code = s.gs.accessCode) :
    unlockNow code s = ({ s with remote := { s.remote with unlocked := true, unlockLeft := 16 } }, plain .done) := by
  unfold unlockNow; rw [if_neg (by omega), if_neg hcode, if_pos hright]

theorem unlockNow_wrongCode {code : BitVec 32} {s : State} (hrounds : s.remote.refusalLeft = 0) (hcode : s.gs.accessCode ≠ 0)
    (hwrong : code ≠ s.gs.accessCode) :
    unlockNow code s =
      ({ s with remote := { s.remote with unlocked := false, unlockLeft := 0, refusalLeft := 16 } }, plain .locked) := by
  unfold unlockNow; rw [if_neg (by omega), if_neg hcode, if_neg hwrong]

theorem exec_unlock (port : Port) (code : BitVec 32) (s : State) :
    exec (.unlock port code) s = .next (takeRequest port (.unlock code) s) := rfl

/-- From the cabinet port UNLOCK leaves nothing but its NOT_HERE. -/
theorem exec_unlock_cabinet (code : BitVec 32) (s : State) :
    exec (.unlock .cabinet code) s =
      .next (noteFormed .cabinet (.unlock code) (plain .notHere) { s with lastResult := some (plain .notHere) }) := by
  rw [exec_unlock, takeRequest_refused .cabinet _ (plain .notHere) s (carryOut_unlock .cabinet code s) rfl]

/-- Over the link UNLOCK leaves what its owner leaves, with REMOTE when it was accepted (R176). -/
theorem exec_unlock_district {code : BitVec 32} {s t : State} {r : Response} (howner : unlockNow code s = (t, r)) :
    exec (.unlock .district code) s =
      .next { (if accepts r then setEvent .remote t else t) with lastResult := some r } := by
  have carried : carryOut .district (.unlock code) s = (t, r) := howner
  rw [exec_unlock, takeRequest_district, carried]
  rfl

/-! ### A cabinet write of the access code -/

/-- No block acts on a new access code, so a write of it, accepted or refused, leaves the link lock (R178). -/
theorem writeGuardNow_accessCode_remote (port : Port) (v : BitVec 32) (s : State) :
    (writeGuardNow port 0x7F v s).1.remote = s.remote := by
  have names_accessCode : guardFieldOfId 0x7F = some .accessCode := by decide
  unfold writeGuardNow; dsimp only; rw [names_accessCode]; dsimp only; repeat' split
  all_goals rfl

theorem exec_writeGuard (port : Port) (x : Sample) (id : Byte) (v : BitVec 32) (s : State) :
    exec (.writeGuard port x id v) s = .next (finish (takeRequest port (.writeGuard id v) (takeSample x s))) :=
  conclude_eq (takeRequest port (.writeGuard id v)) (takeSample x s)

theorem exec_writeGuard_accessCode_remote (port : Port) (x : Sample) (v : BitVec 32) (s : State) :
    ∃ t, exec (.writeGuard port x 0x7F v) s = .next t ∧ t.remote = s.remote := by
  refine ⟨_, exec_writeGuard port x 0x7F v s, ?_⟩
  rw [finish_remote, takeRequest_remote, carryOut_writeGuard, writeGuardNow_accessCode_remote, takeSample_remote]

/-! ### LOCK -/

/-- LOCK sets REMOTE only over a link that it finds unlocked (R176). -/
theorem takeRequest_lock_events (port : Port) (s : State) :
    (takeRequest port .lock s).events =
      if port = .district ∧ s.remote.unlocked = true then s.events ||| flagMask .remote else s.events := by
  rw [takeRequest_events, carryOut_lock]
  cases port with
  | cabinet => rfl
  | district => cases hlock : s.remote.unlocked <;> simp [markRemote, changesTower, hlock, lockNow]

/-- Settles O22: each case of UNLOCK by its owner's case, with REMOTE when it is accepted; LOCK by the bookkeeping's frame. -/
theorem unlockAndLockJudged : Obligations.UnlockAndLockJudged := by
  unfold Obligations.UnlockAndLockJudged
  refine ⟨fun code s => ⟨exec_unlock_cabinet code s, fun hrounds => ?_, fun hrounds hcode => ?_, fun hrounds hcode hright => ?_,
    fun hrounds hcode hwrong => ?_, fun x v => ?_⟩, fun port s => ?_⟩
  · exact exec_unlock_district (unlockNow_refusing code hrounds)
  · exact exec_unlock_district (unlockNow_noCode code hrounds hcode)
  · exact exec_unlock_district (unlockNow_rightCode hrounds hcode hright)
  · exact exec_unlock_district (unlockNow_wrongCode hrounds hcode hwrong)
  · obtain ⟨t, hexec, hremote⟩ := exec_writeGuard_accessCode_remote .cabinet x v s
    exact ⟨t, hexec, by rw [hremote], by rw [hremote]⟩
  · exact ⟨takeRequest port .lock s, rfl, takeRequest_lastResult port .lock s, takeRequest_remote port .lock s,
      takeRequest_lock_events port s, by rw [takeRequest_remote]; exact takeRequest_frame port .lock s⟩

end Sys2Proof.Machine

/-! CLEAR EVENTS, SET EVENT ENABLES and the two lines: the seventeen flags are the seventeen bits of the event set, so a line stands
exactly while some flag of it is set and enabled (R188 to R191). -/

namespace Sys2Proof.Machine

/-! ### The flags and the bits of the event set -/

/-- The flags in the order of their bits (chapter 12.3). -/
def flagsInBitOrder : List EventFlag :=
  [.trip, .rearm, .latch, .contain, .blind, .pumpFault, .valveFault, .circuitFault, .probeFault, .frozen, .outcome, .allowance, .time,
    .discontinuity, .remote, .defaulted, .powerUp]

theorem flagsInBitOrder_flagBit (f : EventFlag) : flagsInBitOrder[flagBit f]? = some f := by
  cases f <;> rfl

theorem flagBit_inj {f g : EventFlag} : flagBit f = flagBit g ↔ f = g := by
  refine ⟨fun h => ?_, congrArg flagBit⟩
  have same_entry : some f = some g := by rw [← flagsInBitOrder_flagBit f, h, flagsInBitOrder_flagBit g]
  exact Option.some.inj same_entry

theorem flagBit_lt (f : EventFlag) : flagBit f < 17 :=
  (List.getElem?_eq_some_iff.1 (flagsInBitOrder_flagBit f)).1

/-- Every bit of the event set is the bit of a flag. -/
theorem exists_flagBit_eq {i : Nat} (hi : i < 17) : ∃ f, flagBit f = i := by
  have entry_bit : ∀ j : Fin 17, flagBit (flagsInBitOrder[j]'j.isLt) = j := by decide
  exact ⟨_, entry_bit ⟨i, hi⟩⟩

/-- A flag's mask holds that flag alone. -/
theorem flagMask_getLsbD (f g : EventFlag) : (flagMask f).getLsbD (flagBit g) = decide (f = g) := by
  have mask_twoPow : flagMask f = BitVec.twoPow 17 (flagBit f) := rfl
  rw [mask_twoPow, BitVec.getLsbD_twoPow]
  simp [flagBit_lt, flagBit_inj]

/-- Setting a flag leaves every other flag (R188). -/
theorem setEvent_getLsbD (f g : EventFlag) (s : State) :
    (setEvent f s).events.getLsbD (flagBit g) = (decide (f = g) || s.events.getLsbD (flagBit g)) := by
  rw [setEvent_events, BitVec.getLsbD_or, flagMask_getLsbD, Bool.or_comm]

/-! ### The lines -/

theorem ne_zero_iff_exists_flag (x : BitVec 17) : x ≠ 0#17 ↔ ∃ f, x.getLsbD (flagBit f) = true := by
  constructor
  · intro hx
    by_contra hnone
    refine hx (BitVec.eq_of_getLsbD_eq fun i hi => ?_)
    obtain ⟨f, rfl⟩ := exists_flagBit_eq hi
    rw [BitVec.getLsbD_zero, Bool.eq_false_iff]
    exact fun hf => hnone ⟨f, hf⟩
  · rintro ⟨f, hf⟩ rfl
    simp at hf

/-- The flags of the ALERT line by name (R188). -/
theorem alertFlags_getLsbD (f : EventFlag) :
    alertFlags.getLsbD (flagBit f) = decide (f ∈ [EventFlag.trip, .latch, .contain, .pumpFault, .valveFault, .defaulted]) := by
  cases f <;> rfl

/-- A line stands while one of its flags is both set and enabled (R189). -/
theorem line_iff (events enables line : BitVec 17) :
    (events &&& enables &&& line != 0#17) = true ↔
      ∃ f, line.getLsbD (flagBit f) = true ∧ events.getLsbD (flagBit f) = true ∧ enables.getLsbD (flagBit f) = true := by
  rw [bne_iff_ne, ne_zero_iff_exists_flag]
  refine exists_congr fun f => ?_
  rw [BitVec.getLsbD_and, BitVec.getLsbD_and, Bool.and_eq_true, Bool.and_eq_true, and_comm]

theorem alertLine_iff (s : State) :
    alertLine s = true ↔ ∃ f : EventFlag, f ∈ [EventFlag.trip, .latch, .contain, .pumpFault, .valveFault, .defaulted] ∧
      s.events.getLsbD (flagBit f) = true ∧ s.enables.getLsbD (flagBit f) = true := by
  unfold alertLine
  simp only [line_iff, alertFlags_getLsbD, decide_eq_true_eq]

theorem noticeLine_iff (s : State) :
    noticeLine s = true ↔ ∃ f : EventFlag, f ∉ [EventFlag.trip, .latch, .contain, .pumpFault, .valveFault, .defaulted] ∧
      s.events.getLsbD (flagBit f) = true ∧ s.enables.getLsbD (flagBit f) = true := by
  have others (f : EventFlag) : (~~~alertFlags).getLsbD (flagBit f) = !alertFlags.getLsbD (flagBit f) := by
    simp [flagBit_lt]
  unfold noticeLine
  simp only [line_iff, others, alertFlags_getLsbD, Bool.not_eq_true', decide_eq_false_iff_not]

/-! ### The two requests -/

/-- A request from the cabinet port leaves its owner's state and its result, which the port may hold as formed (R186). -/
theorem takeRequest_cabinet (q : Request) (s : State) :
    takeRequest .cabinet q s =
      noteFormed .cabinet q (carryOut .cabinet q s).2
        { (carryOut .cabinet q s).1 with lastResult := some (carryOut .cabinet q s).2 } := rfl

theorem noteFormed_district (q : Request) (r : Response) (s : State) : noteFormed .district q r s = s := rfl

/-- Over the link a request of the cabinet port leaves nothing but its NOT_HERE (R174). -/
theorem takeRequest_district_notHere {q : Request} {s : State} (howner : carryOut .district q s = (s, plain .notHere))
    (hkeeps : changesTower q (plain .notHere) s = false) :
    takeRequest .district q s = { s with lastResult := some (plain .notHere) } := by
  rw [takeRequest_refused .district q _ s howner hkeeps, noteFormed_district]

theorem eventBytes_eq (e : BitVec 17) :
    eventBytes e = [BitVec.ofNat 8 (e.toNat / 65536), BitVec.ofNat 8 (e.toNat / 256), BitVec.ofNat 8 e.toNat] := rfl

theorem exec_clearEvents (port : Port) (flags : BitVec 17) (s : State) :
    exec (.clearEvents port flags) s = .next (takeRequest port (.clearEvents flags) s) := rfl

theorem exec_setEventEnables (port : Port) (flags : BitVec 17) (s : State) :
    exec (.setEventEnables port flags) s = .next (takeRequest port (.setEventEnables flags) s) := rfl

/-- From the cabinet port CLEAR EVENTS leaves the flags it does not name, and its result carries them (R190). -/
theorem exec_clearEvents_cabinet (flags : BitVec 17) (s : State) :
    exec (.clearEvents .cabinet flags) s =
      .next (noteFormed .cabinet (.clearEvents flags) (doneWith (eventBytes (s.events &&& ~~~flags)))
        { s with events := s.events &&& ~~~flags, lastResult := some (doneWith (eventBytes (s.events &&& ~~~flags))) }) := by
  have carried : carryOut .cabinet (.clearEvents flags) s = clearEventsNow flags s := carryOut_clearEvents .cabinet flags s
  rw [exec_clearEvents, takeRequest_cabinet, carried]
  rfl

/-- From the cabinet port SET EVENT ENABLES leaves the enables it carries, and its result carries them (R191). -/
theorem exec_setEventEnables_cabinet (flags : BitVec 17) (s : State) :
    exec (.setEventEnables .cabinet flags) s =
      .next (noteFormed .cabinet (.setEventEnables flags) (doneWith (eventBytes flags))
        { s with enables := flags, lastResult := some (doneWith (eventBytes flags)) }) := by
  have carried : carryOut .cabinet (.setEventEnables flags) s = setEnablesNow flags s :=
    carryOut_setEventEnables .cabinet flags s
  rw [exec_setEventEnables, takeRequest_cabinet, carried]
  rfl

/-! ### The enables after a reset -/

theorem finish_enables (s : State) : (finish s).enables = s.enables := congrArg Still.enables (finish_still s)

theorem judgeAllowance_enables (s : State) : (judgeAllowance s).enables = s.enables :=
  congrArg Still.enables (judgeAllowance_still s)

/-- The flags that reset sets leave the enables. -/
theorem resetEvents_enables (good : Bool) (x : Pins) (s : State) : (resetEvents good x s).enables = s.enables := by
  unfold resetEvents; dsimp only; repeat' split
  all_goals rfl

/-- Every reset turns every enable on (R188, R191). -/
theorem resetNow_enables (x : Pins) (s : State) : (resetNow x s).enables = BitVec.allOnes 17 := by
  unfold resetNow
  rw [emitFree_enables, judgeAllowance_enables, resetEvents_enables]
  rfl

theorem exec_reset (x : Pins) (s : State) : exec (.reset x) s = .next (finish (resetNow x s)) :=
  conclude_eq (resetNow x) s

/-- Settles O26: the requests by what their owner leaves on each port, the reset by its blocks, the lines by their flags' bits. -/
theorem eventsAndEnables : Obligations.EventsAndEnables := by
  unfold Obligations.EventsAndEnables
  refine ⟨fun flags s => ⟨?_, ?_⟩, fun flags s => ⟨?_, ?_⟩, fun pins s => ⟨_, exec_reset pins s, ?_⟩,
    fun s => ⟨alertLine_iff s, noticeLine_iff s, fun f g => ⟨setEvent_getLsbD f g s, setEvent_enables f s⟩⟩⟩
  · rw [← eventBytes_eq, exec_clearEvents_cabinet]
  · rw [exec_clearEvents, takeRequest_district_notHere (carryOut_clearEvents .district flags s) rfl]
  · rw [← eventBytes_eq, exec_setEventEnables_cabinet]
  · rw [exec_setEventEnables, takeRequest_district_notHere (carryOut_setEventEnables .district flags s) rfl]
  · rw [finish_enables, resetNow_enables]

end Sys2Proof.Machine

/-! The laws that every step keeps: a step is a command's own effect and the cascade of its announcements, so a law that the primitive
operations of the blocks keep is kept by every step. The primitives are listed once; what is built from them is followed once. -/

namespace Sys2Proof.Machine

open Sys2Proof.Safety

/-! ### What a command itself leaves -/

/-- The state that a command itself leaves, before any announcement of it is taken. -/
def ownEffect (i : Instr) (s : State) : State :=
  match i with
  | .place port o => takeRequest port (.place o) s
  | .amend port n e a => takeRequest port (.amend n e a) s
  | .retire port n e => takeRequest port (.retire n e) s
  | .look port n => takeRequest port (.look n) s
  | .list port n => takeRequest port (.list n) s
  | .readTower port x n => takeRequest port (.readTower n) (takeSample x s)
  | .readGuard port ids => takeRequest port (.readGuard ids) s
  | .writeGuard port x id v => takeRequest port (.writeGuard id v) (takeSample x s)
  | .setTariff port es => takeRequest port (.setTariff es) s
  | .readTariff port => takeRequest port .readTariff s
  | .setClock port d m c => takeRequest port (.setClock d m c) s
  | .unlock port c => takeRequest port (.unlock c) s
  | .lock port => takeRequest port .lock s
  | .pumpServiceOut port x p => takeRequest port (.pumpService p 0) (takeSample x s)
  | .pumpServiceReturn port x p => takeRequest port (.pumpService p 1) (takeSample x s)
  | .circuitReset port c => takeRequest port (.circuitReset c) s
  | .acknowledge port x => takeRequest port .acknowledge (takeSample x s)
  | .clearEvents port f => takeRequest port (.clearEvents f) s
  | .setEventEnables port f => takeRequest port (.setEventEnables f) s
  | .cabinetFrameBegin => beginCabinetFrame s
  | .cabinetFrameEnd x sdi => endCabinetFrame sdi (takeSample x s)
  | .frameStart => startFrame s
  | .frameCutShort => cutFrame s
  | .byteGapTimeout => cutFrame s
  | .discardedFrame f => receiveFrame s.crystal f s
  | .ignoredFrame f => receiveFrame s.crystal f s
  | .opener t f => receiveFrame t f (reachInstant t s)
  | .requestFrame t x f => receiveFrame t f (takeSample x (reachInstant t s))
  | .slotStart n => beginSlot n s
  | .instantOfSending => sendDue s
  | .transmissionEnd => endSending s
  | .minuteEvent => advanceToMinute s
  | .holdoverEntry => enterHoldover s
  | .holdoverRound => countHoldover s
  | .flowPulse p => takeFlowPulse p s
  | .noFlowExpiry p => takeNoFlow p s
  | .dwellExpiry p => pumpDwellExpiry p s
  | .confirmExpiry p => pumpConfirmExpiry p s
  | .feedbackCloses p => pumpFeedbackCloses p s
  | .feedbackOpens p x => pumpFeedbackOpens p (takeSample x s)
  | .overloadTrip p => pumpOverloadTrip p s
  | .stopTimerExpiry p => pumpStopExpiry p s
  | .lockoutExpiry p => pumpLockoutExpiry p s
  | .valveLimitChange o c => valveLimits o c s
  | .travelTimerExpiry => valveTravelExpiry s
  | .levelReading v e => takeLevel v e s
  | .validityTimerExpiry => validityExpiry s
  | .floatChange b => takeFloat b s
  | .probeReading k t e => takeProbe k t e s
  | .silenceTimerExpiry k => silenceExpires k s
  | .heaterCurrentChange c b => heaterCurrent c b s
  | .feedbackTimerExpiry c => circuitTimerExpiry c s
  | .commitEnd => endCommit s
  | .reset x => resetNow x s
  | .ownerFormsResult x => formResult (takeSample x s)
  | .secondAdvance => advanceSecond s

/-- Every command answers a next state: what it itself leaves, with its announcements taken or with none to take. -/
theorem exec_ownEffect (i : Instr) (s : State) :
    exec i s = .next (finish (ownEffect i s)) ∨ exec i s = .next (ownEffect i s) := by
  cases i
  all_goals first
    | exact .inl (conclude_eq _ _)
    | exact .inr rfl

/-- A step takes the front command, or idles. -/
theorem step_cases {s t : State} (h : step s = .next t) :
    t = s ∨ ∃ i rest, t = finish (ownEffect i { s with pending := rest }) ∨ t = ownEffect i { s with pending := rest } := by
  unfold step at h
  split at h
  · exact .inl (Host.Outcome.next.inj h).symm
  · rename_i c rest _
    refine .inr ⟨c, rest, ?_⟩
    rcases exec_ownEffect c { s with pending := rest } with e | e <;> rw [e] at h
    · exact .inl (Host.Outcome.next.inj h).symm
    · exact .inr (Host.Outcome.next.inj h).symm

/-- A law that does not speak of the model's own bookkeeping, and that every announcement and every command's own effect keep, is kept
by every step. -/
theorem keptByStep_of_effects {P : State → Prop}
    (book : ∀ s q a c k, P s → P { s with pending := q, agenda := a, choice := c, freeCount := k })
    (note : ∀ n s, P s → P (handle n s)) (own : ∀ i s, P s → P (ownEffect i s)) : KeptByStep P := by
  intro s t hs hstep
  obtain rfl | ⟨i, rest, h⟩ := step_cases hstep
  · exact hs
  · have left : P (ownEffect i { s with pending := rest }) := own i _ (book s rest s.agenda s.choice s.freeCount hs)
    rcases h with rfl | rfl
    · exact finish_keeps P note (fun u l hu => book u u.pending l u.choice u.freeCount hu)
        (fun u c k hu => book u u.pending u.agenda c k hu) _ left
    · exact left

end Sys2Proof.Machine

/-! What a law must be kept by, so that every step keeps it: the parts of the state that the laws speak of, the operations of the pump
channels, the circuits, the arbiter, the valve and the guard, and those of the fill controller and the book. What is built from them is
followed here, once for every law. -/

namespace Sys2Proof.Machine

open Sys2Proof.Safety

/-! ### The parts the laws speak of -/

/-- The parts of the state that the laws of the blocks speak of. -/
structure LawParts where
  records : List Record
  lastAssigned : Nat
  fill : Trio Assignment
  pumps : Trio Pump
  arbiter : Arbiter
  circuits : Octo CircuitState
  guard : GuardState
  feedback : Trio Bool
  valve : Valve

def lawParts (s : State) : LawParts :=
  { records := s.book.records, lastAssigned := s.book.lastAssigned, fill := s.fill, pumps := s.pumps, arbiter := s.arbiter,
    circuits := s.frost.circuits.map (·.state), guard := s.guard.state, feedback := s.inputs.feedback, valve := s.valve }

theorem octo_map_set_same {α β : Type} (f : α → β) (t : Octo α) (c : Fin 8) (v : α) (hv : f v = f (t.get c)) :
    (t.set c v).map f = t.map f := by
  fin_cases c <;> simp_all [Octo.map, Octo.set, Octo.get]

/-- A circuit written in the state it has leaves the parts the laws speak of. -/
theorem setCircuit_lawParts {c : Fin 8} {q : Circuit} {s : State} (hq : q.state = (s.frost.circuits.get c).state) :
    lawParts (setCircuit c q s) = lawParts s := by
  unfold lawParts
  rw [setCircuit_circuits, octo_map_set_same _ _ _ _ hq]
  rfl

/-- The order of a FILL record neither runs nor stands in RETIRING: it holds no pump. -/
def Idle (f : FillRecord) : Prop := inRun f = false ∧ f.state ≠ .retiring

/-- A FILL record is replaced by one that holds the same pump in the same state, or both hold none. -/
def SameHold (f g : FillRecord) : Prop := (g.state = f.state ∧ g.pump = f.pump) ∨ (Idle f ∧ Idle g)

/-- A record keeps its number, its origin and, in a run or RETIRING, its state and its pump. -/
def SameOrder (r q : Record) : Prop :=
  q.number = r.number ∧ q.origin = r.origin ∧
    match r.body, q.body with
    | .fill f, .fill g => g.state = f.state ∧ g.pump = f.pump
    | .fill _, _ => False
    | _, .fill _ => False
    | _, _ => True

/-! ### The primitive operations -/

/-- The law speaks of those parts alone, and the operations of the pump channels, the circuits, the arbiter, the valve and the guard
keep it. -/
structure PlantLaw (P : State → Prop) : Prop where
  frame : ∀ {s t : State}, P s → lawParts t = lawParts s → P t
  runWalk : ∀ s, P s → P (runWalk s)
  stopCommand : ∀ p b s, P s → P (stopCommand p b s)
  enterGuard : ∀ g s, P s → P (enterGuard g s)
  judgeCircuit : ∀ c s, P s → P (judgeCircuit c s)
  circuitTimerExpiry : ∀ c s, P s → P (circuitTimerExpiry c s)
  roleGone : ∀ c s, P s → P (roleGone c s)
  faultCleared : ∀ c s, (s.frost.circuits.get c).state = .fault → P s →
    P (setCircuit c { s.frost.circuits.get c with state := .off, timer := none } s)
  pumpDwellExpiry : ∀ p s, P s → P (pumpDwellExpiry p s)
  pumpConfirmExpiry : ∀ p s, P s → P (pumpConfirmExpiry p s)
  pumpFeedbackCloses : ∀ p s, P s → P (pumpFeedbackCloses p s)
  pumpFeedbackOpens : ∀ p s, P s → P (pumpFeedbackOpens p s)
  pumpOverloadTrip : ∀ p s, P s → P (pumpOverloadTrip p s)
  pumpStopExpiry : ∀ p s, P s → P (pumpStopExpiry p s)
  pumpLockoutExpiry : ∀ p s, P s → P (pumpLockoutExpiry p s)
  serviceOut : ∀ p s t, P s → serviceOut p s = some t → P t
  serviceReturn : ∀ p s t, P s → serviceReturn p s = some t → P t
  openCommand : ∀ s, P s → P (openCommand s)
  valveLimits : ∀ o c s, P s → P (valveLimits o c s)
  valveTravelExpiry : ∀ s, P s → P (valveTravelExpiry s)
  tickTimers : ∀ n s, P s → P (tickTimers n s)
  resetNow : ∀ x s, P s → P (resetNow x s)

/-- The operations of the fill controller and the book keep the law. -/
structure FillLaw (P : State → Prop) : Prop where
  serveOn : ∀ day n o s f, P s → findFill n s = some f → f.state ≠ .retiring → P (serveOn day n o s)
  suspendFill : ∀ n h b s f, P s → findFill n s = some f → inRun f = true → P (suspendFill n h b s)
  act : ∀ r a s, P s → firstAction s s.book.records = some (r, a) → P (actOn r a s)
  handPump : ∀ p n f s, P s → firstHanding s pumpNumbers = some (p, n, f) → P (handPump n f p s)
  takeNoFlow : ∀ p s, P s → P (takeNoFlow p s)
  takeRunningConfirmed : ∀ p s, P s → P (takeRunningConfirmed p s)
  takePumpChanged : ∀ p s, P s → P (takePumpChanged p s)
  takeFlowPulse : ∀ p s, P s → P (takeFlowPulse p s)
  putFill : ∀ n f g s, P s → findFill n s = some f → SameHold f g → P (putFill n g s)
  putHeat : ∀ n h g s, P s → findHeat n s = some h → P (putHeat n g s)
  mapRecords : ∀ g s, P s → (∀ r, SameOrder r (g r)) → P (setRecords (s.book.records.map g) s)
  amendReport : ∀ n a q s r, P s → findRecord n s = some r → r.body = .report q → P (amendReport n a q s).1
  removeRecord : ∀ n s, P s → (∀ f, findFill n s = some f → Idle f) → P (removeRecord n s)
  enterRecord : ∀ port b s, P s → ¬ 30 ≤ externalCount s → (∀ f, b = .fill f → Idle f) → P (enterRecord (allocate s) port b s)
  placeSystem : ∀ n t s, P s → n = 240 ∨ n = 241 → P (placeSystem n t s)
  beginRetiring : ∀ n f s, P s → findFill n s = some f → inRun f = true → P (beginRetiring n f s)

/-- The law is kept by every primitive operation. -/
structure StepLaw (P : State → Prop) : Prop extends PlantLaw P, FillLaw P

/-! ### Finding a FILL or a HEAT record -/

theorem findFill_eq_some {n : Nat} {s : State} {f : FillRecord} :
    findFill n s = some f ↔ ∃ r, findRecord n s = some r ∧ r.body = .fill f := by
  unfold findFill
  constructor
  · intro h
    split at h
    · rename_i e; obtain rfl := Option.some.inj h; exact ⟨_, e, rfl⟩
    · exact absurd h nofun
  · rintro ⟨⟨n, o, v, b⟩, hr, hb⟩
    simp only at hb; subst hb; rw [hr]

theorem findHeat_eq_some {n : Nat} {s : State} {f : HeatRecord} :
    findHeat n s = some f ↔ ∃ r, findRecord n s = some r ∧ r.body = .heat f := by
  unfold findHeat
  constructor
  · intro h
    split at h
    · rename_i e; obtain rfl := Option.some.inj h; exact ⟨_, e, rfl⟩
    · exact absurd h nofun
  · rintro ⟨⟨n, o, v, b⟩, hr, hb⟩
    simp only at hb; subst hb; rw [hr]

/-- Equal books hold equal FILL records. -/
theorem findFill_congr {s t : State} (h : s.book.records = t.book.records) (n : Nat) : findFill n s = findFill n t := by
  unfold findFill findRecord; rw [h]

theorem findHeat_congr {s t : State} (h : s.book.records = t.book.records) (n : Nat) : findHeat n s = findHeat n t := by
  unfold findHeat findRecord; rw [h]

theorem idle_of_state {f : FillRecord} (h : f.state = .pending ∨ f.state = .due ∨ f.state = .suspended ∨ f.state = .served) :
    Idle f := by
  rcases h with h | h | h | h <;> simp [Idle, inRun, h]

theorem sameHold_refl (f : FillRecord) : SameHold f f := .inl ⟨rfl, rfl⟩

/-- A record of a FILL order is of no other kind. -/
theorem findFill_none_of_heat {n : Nat} {s : State} {h : HeatRecord} (hh : findHeat n s = some h) : findFill n s = none := by
  obtain ⟨r, hr, hb⟩ := findHeat_eq_some.1 hh
  rw [Option.eq_none_iff_forall_ne_some]
  intro f hf
  obtain ⟨r', hr', hb'⟩ := findFill_eq_some.1 hf
  rw [hr] at hr'
  obtain rfl := Option.some.inj hr'
  rw [hb] at hb'
  exact absurd hb' nofun

end Sys2Proof.Machine

/-! The cascade keeps a law that the primitive operations keep. -/

namespace Sys2Proof.Machine

open Sys2Proof.Safety

section
variable {P : State → Prop} (h : StepLaw P)
include h

/-! ### Announcements -/

theorem emit_kept (n : Note) {s : State} (hs : P s) : P (emit n s) := h.frame hs rfl

theorem clock_kept (c : Clock) {s : State} (hs : P s) : P { s with clock := c } := h.frame hs rfl

theorem emitFree_kept (ns : List Note) {s : State} (hs : P s) : P (emitFree ns s) := h.frame hs rfl

/-! ### Orders judged by their windows -/

theorem bookChanged_kept (n : Nat) {s : State} (hs : P s) : P (bookChanged n s) := by
  unfold bookChanged; dsimp only; split <;> exact h.frame hs rfl

theorem serveFill_kept (n : Nat) (o : Served) {s : State} {f : FillRecord} (hs : P s) (hf : findFill n s = some f)
    (hr : f.state ≠ .retiring) : P (serveFill n o s) := h.serveOn _ n o s f hs hf hr

/-- The judgement of a changed FILL order serves it, or moves it between states that hold no pump (R16). -/
theorem judgeChangedFill_kept (n : Nat) {s : State} (hs : P s) : P (judgeChangedFill n s) := by
  unfold judgeChangedFill
  split
  · exact hs
  · rename_i f hf
    have waits (hw : f.state = .pending ∨ f.state = .due ∨ f.state = .suspended ∨ f.state = .served) (g : FillRecord)
        (hg : g.state = .pending ∨ g.state = .due ∨ g.state = .suspended ∨ g.state = .served) : P (putFill n g s) :=
      h.putFill n f g s hs hf (.inr ⟨idle_of_state hw, idle_of_state hg⟩)
    split
    · exact hs
    · dsimp only
      split
      · rename_i e
        split
        · exact waits (.inl e) _ (by simp only [openedState]; split <;> simp)
        · exact hs
      · rename_i e
        repeat' split
        · exact serveFill_kept h n _ hs hf (by rw [e]; nofun)
        · exact hs
        · exact waits (.inr (.inl e)) _ (.inl rfl)
      · rename_i e
        repeat' split
        · exact serveFill_kept h n _ hs hf (by rw [e]; nofun)
        · exact hs
        · exact waits (.inr (.inr (.inl e))) _ (.inl rfl)
      · exact hs

theorem judgeRunAtJump_kept (m n : Nat) {f : FillRecord} (w : Window) {s : State} (hs : P s) (hf : findFill n s = some f)
    (hrun : inRun f = true) : P (judgeRunAtJump m n f w s) := by
  have notRetiring : f.state ≠ .retiring := by rintro e; simp [inRun, e] at hrun
  unfold judgeRunAtJump; repeat' split
  · exact serveFill_kept h n _ hs hf notRetiring
  · exact h.suspendFill n _ _ s f hs hf hrun
  · exact hs

theorem judgeWindow_kept (m : Nat) (jump : Bool) (n : Nat) {s : State} (hs : P s) : P (judgeWindow m jump s n) := by
  unfold judgeWindow
  split
  · exact hs
  · rename_i f hf
    have waits (hw : f.state = .pending ∨ f.state = .due ∨ f.state = .suspended ∨ f.state = .served) (g : FillRecord)
        (hg : g.state = .pending ∨ g.state = .due ∨ g.state = .suspended ∨ g.state = .served) :
        P (bookChanged n (putFill n g s)) :=
      bookChanged_kept h n (h.putFill n f g s hs hf (.inr ⟨idle_of_state hw, idle_of_state hg⟩))
    split
    · exact hs
    · split
      · rename_i e
        split
        · exact waits (.inl e) _ (by simp only [openedState]; split <;> simp)
        · exact hs
      · rename_i e
        repeat' split
        · exact serveFill_kept h n _ hs hf (by rw [e]; nofun)
        · exact waits (.inr (.inl e)) _ (.inl rfl)
        · exact hs
      · rename_i e
        repeat' split
        · exact serveFill_kept h n _ hs hf (by rw [e]; nofun)
        · exact waits (.inr (.inr (.inl e))) _ (.inl rfl)
        · exact hs
      · rename_i e
        split
        · exact judgeRunAtJump_kept h m n _ hs hf (by simp [inRun, e])
        · exact hs
      · rename_i e
        split
        · exact judgeRunAtJump_kept h m n _ hs hf (by simp [inRun, e])
        · exact hs
      · exact hs

theorem judgeWindows_kept (m : Nat) (jump : Bool) {s : State} (hs : P s) : P (judgeWindows m jump s) :=
  emit_kept h _ (foldl_keeps P _ (fun _ n ht => judgeWindow_kept h m jump n ht) _ s hs)

theorem serveHeatOn_kept (day n : Nat) {q : HeatRecord} {s : State} (hs : P s) (hq : findHeat n s = some q) :
    P (serveHeatOn day n q s) := by
  obtain ⟨r, hr, -⟩ := findHeat_eq_some.1 hq
  have served : P (putHeat n { q with state := .served, servedDay := some day } s) := h.putHeat n q _ s hs hq
  have stillHeat : findHeat n (putHeat n { q with state := .served, servedDay := some day } s) =
      some { q with state := .served, servedDay := some day } := findHeat_eq_some.2 ⟨_, putHeat_finds n _ s r hr, rfl⟩
  unfold serveHeatOn; dsimp only
  refine bookChanged_kept h n ?_
  split
  · exact h.removeRecord n _ served (fun f hf => by rw [findFill_none_of_heat stillHeat] at hf; exact absurd hf nofun)
  · exact served

theorem judgeHeatWindow_kept (m : Nat) (jump : Bool) (n : Nat) {s : State} (hs : P s) : P (judgeHeatWindow m jump s n) := by
  unfold judgeHeatWindow
  split
  · exact hs
  · rename_i q hq
    repeat' split
    · exact bookChanged_kept h n (h.putHeat n q _ s hs hq)
    · exact hs
    · exact bookChanged_kept h n (h.putHeat n q _ s hs hq)
    · exact serveHeatOn_kept h _ n hs hq
    · exact hs
    · exact hs

/-! ### The circuits -/

theorem refreshSetpoint_kept (c : Fin 8) {s : State} (hs : P s) : P (refreshSetpoint s c) := by
  unfold refreshSetpoint; dsimp only; split
  · exact hs
  · exact h.judgeCircuit c _ (h.frame hs (setCircuit_lawParts rfl))

theorem refreshSetpoints_kept {s : State} (hs : P s) : P (refreshSetpoints s) :=
  foldl_keeps P _ (fun _ c ht => refreshSetpoint_kept h c ht) _ s hs

theorem judgeHeatWindows_kept (m : Nat) (jump : Bool) {s : State} (hs : P s) : P (judgeHeatWindows m jump s) :=
  refreshSetpoints_kept h (foldl_keeps P _ (fun _ n ht => judgeHeatWindow_kept h m jump n ht) _ s hs)

theorem judgeCircuits_kept {s : State} (hs : P s) (cs : List (Fin 8)) : P (cs.foldl (fun t c => judgeCircuit c t) s) :=
  foldl_keeps P _ (fun t c ht => h.judgeCircuit c t ht) cs s hs

theorem judgePipe_kept {s : State} (hs : P s) : P (judgePipe s) := by
  unfold judgePipe; dsimp only; repeat' split
  all_goals exact h.frame hs rfl

theorem setFallback_kept (b : Bool) {s : State} (hs : P s) : P (setFallback b s) := by
  unfold setFallback; split
  · exact hs
  · exact refreshSetpoints_kept h (h.frame hs rfl)

theorem judgeTurned_kept (first : Option Nat) {s : State} (hs : P s) : P (judgeTurned first s) := by
  unfold judgeTurned; repeat' split
  · exact setFallback_kept h false (h.frame hs rfl)
  · exact hs
  · exact hs

theorem judgeFrost_kept {s : State} (hs : P s) : P (judgeFrost s) := by
  have flagged : P (setFallback (fallbackAfter s) s) := setFallback_kept h _ hs
  unfold judgeFrost; dsimp only; repeat' split
  all_goals exact h.frame flagged rfl

theorem probeTaken_kept (i : Fin 8) {s : State} (hs : P s) : P (probeTaken i s) := by
  have judged := judgeCircuits_kept h hs (eightNumbers.filter (fun c => s.gs.probeIndex.get c = i))
  have piped := judgePipe_kept h judged
  unfold probeTaken; dsimp only
  repeat' split
  · exact emit_kept h _ piped
  · exact piped
  · exact emit_kept h _ judged
  · exact judged

theorem probeInvalid_kept (i : Fin 8) {s : State} (hs : P s) : P (probeInvalid i s) := by
  unfold probeInvalid; dsimp only; split
  · exact h.frame hs rfl
  · refine probeTaken_kept h i ?_
    split <;> exact h.frame hs rfl

/-! ### The guard -/

theorem judgeReserve_kept {s : State} (hs : P s) : P (judgeReserve s) := by
  unfold judgeReserve; dsimp only; split <;> exact h.frame hs rfl

theorem judgeGuard_kept {s : State} (hs : P s) : P (judgeGuard s) := by
  unfold judgeGuard; dsimp only
  refine judgeReserve_kept h (h.enterGuard _ _ ?_)
  split <;> exact h.frame hs rfl

theorem takeWeld_kept (p : Fin 3) {s : State} (hs : P s) : P (takeWeld p s) :=
  judgeReserve_kept h (h.enterGuard _ _ (h.frame hs rfl))

theorem refreshCeiling_kept {s : State} (hs : P s) : P (refreshCeiling s) := by
  unfold refreshCeiling; dsimp only; split <;> exact h.frame hs rfl

theorem acknowledgeGuard_kept {s : State} (hs : P s) : P (acknowledgeGuard s).1 := by
  unfold acknowledgeGuard; repeat' split
  · exact hs
  · exact judgeReserve_kept h (h.enterGuard _ _ hs)
  · exact hs
  · exact hs
  · exact judgeReserve_kept h (h.enterGuard _ _ (h.openCommand _ hs))
  · exact judgeReserve_kept h (h.openCommand _ hs)
  · exact hs

/-! ### The fill controller -/

theorem writeHolds_kept {s : State} (hs : P s) : P (writeHolds s) := by
  have same : ∀ r, SameOrder r (holdWritten s r) := by
    rintro ⟨n, o, v, b⟩
    unfold holdWritten SameOrder
    cases b with
    | fill f => cases hf : f.state <;> simp [hf]
    | heat q => simp
    | report q => simp
  have written := h.mapRecords _ s hs same
  unfold writeHolds; dsimp only; split
  · exact written
  · exact h.frame written rfl

theorem evaluateFill_kept {s : State} (hs : P s) : P (evaluateFill s) := by
  unfold evaluateFill; split
  · rename_i e; exact h.act _ _ s hs e
  · split
    · rename_i e; exact h.handPump _ _ _ s hs e
    · exact writeHolds_kept h hs

theorem takeFeedbackDrop_kept (p : Fin 3) {s : State} (hs : P s) : P (takeFeedbackDrop p s) := by
  unfold takeFeedbackDrop
  split
  · exact hs
  · split
    · exact hs
    · rename_i f hf
      split
      · rename_i e; exact h.suspendFill _ _ _ s f hs hf (by simp [inRun, e])
      · exact hs

theorem takeReclaimReport_kept (p : Fin 3) {s : State} (hs : P s) : P (takeReclaimReport p s) := by
  unfold takeReclaimReport
  split
  · exact hs
  · split
    · exact hs
    · rename_i f hf
      split
      · rename_i e; exact h.suspendFill _ _ _ s f hs hf (by simp_all)
      · exact hs

theorem takeWithdrawal_kept {s : State} (hs : P s) : P (takeWithdrawal s) := by
  unfold takeWithdrawal
  split
  · rename_i f hf
    split
    · rename_i e
      refine bookChanged_kept h _ (judgeTurned_kept h _ (h.removeRecord 241 s hs fun g hg => ?_))
      rw [hf] at hg; obtain rfl := Option.some.inj hg
      exact idle_of_state (by tauto)
    · exact hs
  · exact hs

/-! ### The book's day and the clock -/

theorem closeOrder_kept (day n : Nat) {s : State} (hs : P s) : P (closeOrder day s n) := by
  unfold closeOrder
  split
  · rename_i f e
    split
    · rename_i hw
      refine h.serveOn day n _ s f hs (findFill_eq_some.2 ⟨_, e, rfl⟩) ?_
      rintro hr; rw [hr] at hw; simp at hw
    · exact hs
  · rename_i q e
    split
    · exact serveHeatOn_kept h day n hs (findHeat_eq_some.2 ⟨_, e, rfl⟩)
    · exact hs
  · exact hs

theorem closeDay_kept (day : Nat) {s : State} (hs : P s) : P (closeDay day s) :=
  h.frame (foldl_keeps P _ (fun _ n ht => closeOrder_kept h day n ht) _ s hs) rfl

theorem renewOrder_kept (old new n : Nat) {s : State} (hs : P s) : P (renewOrder old new s n) := by
  unfold renewOrder
  split
  · rename_i f e
    have hf : findFill n s = some f := findFill_eq_some.2 ⟨_, e, rfl⟩
    split
    · exact hs
    · split
      · exact hs
      · rename_i hp
        split
        · exact h.serveOn old n _ s f hs hf (by rw [hp]; nofun)
        · exact h.putFill n f _ s hs hf (.inl ⟨rfl, rfl⟩)
      · rename_i hp
        refine h.putFill n f _ s hs hf (.inr ⟨idle_of_state (.inr (.inr (.inr hp))), idle_of_state ?_⟩)
        dsimp only; split <;> simp
      · exact h.putFill n f _ s hs hf (.inl ⟨rfl, rfl⟩)
  · rename_i q e
    have hq : findHeat n s = some q := findHeat_eq_some.2 ⟨_, e, rfl⟩
    repeat' split
    · exact serveHeatOn_kept h old n hs hq
    · exact hs
    · exact h.putHeat n q _ s hs hq
    · exact hs
    · exact hs
  · exact hs

theorem newDay_kept (old new : Nat) {s : State} (hs : P s) : P (newDay old new s) :=
  h.frame (foldl_keeps P _ (fun _ n ht => renewOrder_kept h old new n ht) _ s hs) rfl

theorem judgeAllowance_kept {s : State} (hs : P s) : P (judgeAllowance s) := by
  unfold judgeAllowance; split
  · exact h.frame hs rfl
  · exact hs

theorem chargeTally_kept {s : State} (hs : P s) : P (chargeTally s) := by
  unfold chargeTally; dsimp only; split
  · exact hs
  · exact emit_kept h _ (judgeAllowance_kept h (h.frame hs rfl))

theorem rebandNow_kept {s : State} (hs : P s) : P (rebandNow s) := by
  unfold rebandNow; dsimp only; split
  · exact hs
  · exact h.frame hs rfl

theorem rollover_kept (old new : Nat) {s : State} (hs : P s) : P (rollover old new s) := by
  have renewed := newDay_kept h old new (closeDay_kept h old hs)
  have judged : P (judgeAllowance { newDay old new (closeDay old s) with
      clock := { (newDay old new (closeDay old s)).clock with tally := 0, reachedToday := false } }) :=
    judgeAllowance_kept h (h.frame renewed rfl)
  exact emit_kept h _ (emit_kept h _ (refreshSetpoints_kept h judged))

theorem takeRollTo_kept (day second : Nat) {s : State} (hs : P s) : P (takeRollTo day second s) :=
  emit_kept h _ (emitFree_kept h _ (emit_kept h _ (rollover_kept h s.clock.day day (h.frame hs rfl))))

theorem takeDiscontinuity_kept {s : State} (hs : P s) : P (takeDiscontinuity s) := by
  unfold takeDiscontinuity; dsimp only; split
  · exact judgeHeatWindows_kept h _ _ (judgeWindows_kept h _ _ (h.frame hs rfl))
  · exact judgeWindows_kept h _ _ (judgeHeatWindows_kept h _ _ (h.frame hs rfl))

/-- Taking one announcement keeps the law. -/
theorem handle_kept (n : Note) {s : State} (hs : P s) : P (handle n s) := by
  cases n with
  | evalFill => exact evaluateFill_kept h hs
  | pumpChanged p => exact h.takePumpChanged p s hs
  | runningConfirmed p => exact h.takeRunningConfirmed p s hs
  | feedbackDrop p => exact takeFeedbackDrop_kept h p hs
  | reclaimReport p => exact takeReclaimReport_kept h p hs
  | weld p => exact takeWeld_kept h p hs
  | walk => exact h.runWalk s hs
  | guardJudge => exact judgeGuard_kept h hs
  | ceiling => exact refreshCeiling_kept h hs
  | reserveRequest => exact h.placeSystem 240 _ s hs (.inl rfl)
  | frostJudge => exact judgeFrost_kept h hs
  | served first => exact judgeTurned_kept h first hs
  | turnoverRequest t => exact h.placeSystem 241 t s hs (.inr rfl)
  | withdrawTurnover => exact takeWithdrawal_kept h hs
  | charge => exact chargeTally_kept h hs
  | reband => exact rebandNow_kept h hs
  | fillWindows m => exact judgeWindows_kept h m false hs
  | heatMinute m => exact emit_kept h _ (judgeHeatWindows_kept h m false (h.frame hs rfl))
  | heatWindows m => exact judgeHeatWindows_kept h m false hs
  | sample => exact h.frame hs rfl
  | rollTo day second => exact takeRollTo_kept h day second hs
  | discontinuity => exact takeDiscontinuity_kept h hs

end

end Sys2Proof.Machine

/-! Every command's own effect keeps a law that the primitive operations keep, and so does every step. -/

namespace Sys2Proof.Machine

open Sys2Proof.Safety

section
variable {P : State → Prop} (h : StepLaw P)
include h

/-! ### Time -/

theorem takeTrust_kept (x : Trust) {s : State} (hs : P s) : P (takeTrust x s) := by
  unfold takeTrust; dsimp only; repeat' split
  all_goals exact h.frame hs rfl

theorem announceTrust_kept (x : Trust) {s : State} (hs : P s) : P (announceTrust x s) := by
  unfold announceTrust; split
  · exact hs
  · exact h.frame hs rfl

theorem changeTrust_kept (x : Trust) {s : State} (hs : P s) : P (changeTrust x s) :=
  announceTrust_kept h _ (takeTrust_kept h x hs)

theorem judgeHoldover_kept {s : State} (hs : P s) : P (judgeHoldover s) := by
  unfold judgeHoldover; split
  · exact changeTrust_kept h _ hs
  · exact hs

theorem countHoldover_kept {s : State} (hs : P s) : P (countHoldover s) := by
  unfold countHoldover; split
  · exact judgeHoldover_kept h (h.frame hs rfl)
  · exact hs

theorem enterHoldover_kept {s : State} (hs : P s) : P (enterHoldover s) := by
  unfold enterHoldover; split
  · exact changeTrust_kept h _ (h.frame hs rfl)
  · exact hs

theorem minuteEventNow_kept {s : State} (hs : P s) : P (minuteEventNow s) := h.frame hs rfl

theorem dayEnd_kept (day second : Nat) {s : State} (hs : P s) : P (dayEnd day second s) := h.frame hs rfl

theorem advanceMinute_kept {s : State} (hs : P s) : P (advanceMinute s) := by
  unfold advanceMinute; dsimp only; repeat' split
  all_goals exact h.frame hs rfl

theorem advanceSecond_kept {s : State} (hs : P s) : P (advanceSecond s) := by
  have ticked : P (tickTimers 1 { s with crystal := s.crystal + (1000 - s.clock.ms) }) := h.tickTimers 1 _ (h.frame hs rfl)
  unfold advanceSecond; dsimp only; split
  · exact clock_kept h _ ticked
  · exact advanceMinute_kept h ticked

theorem advanceToMinute_kept {s : State} (hs : P s) : P (advanceToMinute s) :=
  advanceMinute_kept h (h.tickTimers _ _ (h.frame hs rfl))

theorem adjustTime_kept (day minute second : Nat) {s : State} (hs : P s) : P (adjustTime day minute second s) := by
  unfold adjustTime; dsimp only; repeat' split
  all_goals exact h.frame hs rfl

theorem discontinuity_kept (day minute second : Nat) {s : State} (hs : P s) : P (discontinuity day minute second s) := by
  have set : P (setEvent .discontinuity (setTime day minute second s)) := h.frame hs rfl
  unfold discontinuity; dsimp only
  split
  · exact h.frame set rfl
  · exact emit_kept h _ (clock_kept h _ (emit_kept h .discontinuity (rollover_kept h s.clock.day day set)))

theorem adoptTime_kept (day minute second : Nat) (timeSet : Bool) {s : State} (hs : P s) :
    P (adoptTime day minute second timeSet s) := by
  unfold adoptTime; split
  · exact adjustTime_kept h _ _ _ hs
  · exact discontinuity_kept h _ _ _ hs

theorem clockTakesOpener_kept (instant day minute second rank : Nat) (timeSet : Bool) {s : State} (hs : P s) :
    P (clockTakesOpener instant day minute second rank timeSet s) := by
  have timed : P (if rank = s.clock.rank then s else setEvent .time s) := by
    split
    · exact hs
    · exact h.frame hs rfl
  exact announceTrust_kept h _ (adoptTime_kept h _ _ _ _ (clock_kept h _ (takeTrust_kept h .synced timed)))

theorem setClockNow_kept (day minute second : Nat) {s : State} (hs : P s) : P (setClockNow day minute second s).1 := by
  unfold setClockNow; repeat' split
  · exact hs
  · exact announceTrust_kept h _ (adoptTime_kept h _ _ _ _ (takeTrust_kept h _ hs))
  · exact hs

/-! ### The order requests -/

theorem placeOrder_kept (port : Port) (o : PlaceFields) {s : State} (hs : P s) : P (placeOrder port o s).1 := by
  unfold placeOrder
  split
  · exact hs
  · rename_i room
    have entered := fun b hb => h.enterRecord port b s hs room hb
    cases o with
    | fill f =>
      dsimp only; split
      · exact hs
      · rename_i r hr
        refine judgeChangedFill_kept h _ (entered _ fun g hg => ?_)
        obtain rfl := Body.fill.inj hg
        refine idle_of_state (.inl ?_)
        unfold fillPlaced at hr; repeat' split at hr
        · obtain rfl := Option.some.inj hr; rfl
        · exact absurd hr nofun
        · exact absurd hr nofun
    | heat q =>
      dsimp only; split
      · exact hs
      · rename_i r _
        dsimp only
        exact refreshSetpoints_kept h
          (judgeHeatWindow_kept h s.clock.minute true (allocate s) (entered (.heat r) (by simp)))
    | report q =>
      dsimp only; repeat' split
      · exact hs
      · exact hs
      · exact entered _ (by simp)

theorem bumpRevision_kept (n : Nat) {s : State} (hs : P s) : P (bumpRevision n s) := by
  refine h.mapRecords _ s hs fun r => ?_
  obtain ⟨k, o, v, b⟩ := r
  split <;> cases b <;> simp [SameOrder]

theorem amendFill_kept (n : Nat) (a : FillAmend) {f : FillRecord} {s : State} (hs : P s) (hf : findFill n s = some f)
    (hr : f.state ≠ .retiring) : P (amendFill n a f s).1 := by
  obtain ⟨r, hr0, hb⟩ := findFill_eq_some.1 hf
  have bumped : findFill n (bumpRevision n s) = some f := findFill_eq_some.2 ⟨_, bumpRevision_finds n s r hr0, hb⟩
  have put := fun g => h.putFill n f g _ (bumpRevision_kept h n hs) bumped
  unfold amendFill; split
  · exact hs
  · split
    · exact bookChanged_kept h n (put _ (.inl ⟨rfl, rfl⟩))
    · rename_i hrun
      have idle : Idle f := ⟨by simpa using hrun, hr⟩
      exact judgeChangedFill_kept h n (bookChanged_kept h n (put _ (.inr ⟨idle, idle⟩)))

theorem amendHeat_kept (n : Nat) (a : HeatAmend) {q : HeatRecord} {s : State} (hs : P s) (hq : findHeat n s = some q) :
    P (amendHeat n a q s).1 := by
  obtain ⟨r, hr, hb⟩ := findHeat_eq_some.1 hq
  have bumped : findHeat n (bumpRevision n s) = some q := findHeat_eq_some.2 ⟨_, bumpRevision_finds n s r hr, hb⟩
  unfold amendHeat; split
  · exact hs
  · dsimp only
    exact refreshSetpoints_kept h (judgeHeatWindow_kept h _ _ _
      (bookChanged_kept h n (h.putHeat n q _ _ (bumpRevision_kept h n hs) bumped)))

theorem amendOrder_kept (n : Nat) (e : Option Nat) (a : AmendFields) {s : State} (hs : P s) : P (amendOrder n e a s).1 := by
  unfold amendOrder; split
  · exact hs
  · split
    · exact hs
    · rename_i r hr
      split
      · exact hs
      split
      · exact hs
      split
      · exact hs
      · rename_i hretiring
        split
        · exact hs
        split
        · rename_i f hb
          refine amendFill_kept h n _ hs (findFill_eq_some.2 ⟨r, hr, hb⟩) ?_
          simpa [hb, isRetiring] using hretiring
        · rename_i q hb; exact amendHeat_kept h n _ hs (findHeat_eq_some.2 ⟨r, hr, hb⟩)
        · rename_i q hb; exact h.amendReport n _ _ s r hs hr hb
        · exact hs

theorem retireNow_kept (n : Nat) {s : State} (hs : P s) (hidle : ∀ f, findFill n s = some f → Idle f) : P (retireNow n s) :=
  refreshSetpoints_kept h (bookChanged_kept h n (h.removeRecord n s hs hidle))

theorem retireOrder_kept (n : Nat) (e : Option Nat) {s : State} (hs : P s) : P (retireOrder n e s).1 := by
  unfold retireOrder; split
  · exact hs
  · split
    · exact hs
    · rename_i r hr
      split
      · exact hs
      split
      · exact hs
      split
      · exact hs
      · rename_i hretiring
        have sameRecord : ∀ f, findFill n s = some f → r.body = .fill f := by
          intro f hf
          obtain ⟨r', hr', hb⟩ := findFill_eq_some.1 hf
          rw [hr] at hr'; obtain rfl := Option.some.inj hr'; exact hb
        split
        · rename_i f hb
          have hf : findFill n s = some f := findFill_eq_some.2 ⟨r, hr, hb⟩
          split
          · rename_i hrun; exact h.beginRetiring n f s hs hf hrun
          · rename_i hrun
            dsimp only
            refine retireNow_kept h n hs fun g hg => ?_
            rw [hf] at hg; obtain rfl := Option.some.inj hg
            exact ⟨by simpa using hrun, by simpa [hb, isRetiring] using hretiring⟩
        · rename_i hother
          dsimp only
          exact retireNow_kept h n hs fun g hg => absurd (sameRecord g hg) (hother g)

/-! ### The guard store -/

theorem roleWritten_kept (c : Fin 8) (old : Role) {s : State} (hs : P s) : P (roleWritten c old s) := by
  have gone : P (if s.gs.role.get c = .none then roleGone c s else s) := by
    split
    · exact h.roleGone c s hs
    · exact hs
  have judged := h.judgeCircuit c _ (refreshSetpoints_kept h gone)
  unfold roleWritten; dsimp only; split
  · exact judgePipe_kept h judged
  · exact judged

theorem ownerActs_kept (f : GuardField) (old : GuardSet) {s : State} (hs : P s) : P (ownerActs f old s) := by
  have floors : P (judgeCircuits (refreshSetpoints s)) := judgeCircuits_kept h (refreshSetpoints_kept h hs) eightNumbers
  cases f with
  | reserveFloor => exact judgeReserve_kept h hs
  | holdoverLimit => exact judgeHoldover_kept h hs
  | allowance => exact emit_kept h _ (judgeAllowance_kept h hs)
  | supplyLimit => exact h.runWalk s hs
  | role c => exact roleWritten_kept h c _ hs
  | probeIndex c =>
    have judged := h.judgeCircuit c s hs
    unfold ownerActs; dsimp only; split
    · exact judgePipe_kept h judged
    · exact judged
  | floorOverflow => exact floors
  | floorRiser => exact floors
  | floorChamber => exact floors
  | hysteresis => exact floors
  | tankCold => exact emit_kept h _ floors
  | frozenThreshold => exact judgePipe_kept h hs
  | thawThreshold => exact judgePipe_kept h hs
  | _ => exact h.frame hs rfl

theorem writeGuardNow_kept (port : Port) (id : Byte) (v : BitVec 32) {s : State} (hs : P s) :
    P (writeGuardNow port id v s).1 := by
  unfold writeGuardNow; dsimp only; repeat' split
  case h_2.isFalse.isFalse => exact ownerActs_kept h _ _ (h.frame hs rfl)
  all_goals exact hs

theorem setTariffNow_kept (es : List TariffField) {s : State} (hs : P s) : P (setTariffNow es s).1 := by
  unfold setTariffNow; repeat' split
  · exact hs
  · exact hs
  · exact rebandNow_kept h (h.frame hs rfl)

/-! ### The other requests -/

theorem pumpServiceNow_kept (port : Port) (n o : Nat) {s : State} (hs : P s) : P (pumpServiceNow port n o s).1 := by
  unfold pumpServiceNow
  split
  · exact hs
  split
  · exact hs
  · rename_i p _
    dsimp only
    split
    · exact hs
    · exact hs
    · rename_i t e
      split at e
      · exact h.serviceOut p s t hs (Option.some.inj e)
      · exact h.serviceReturn p s t hs (Option.some.inj e)
      · exact absurd e nofun

theorem circuitResetNow_kept (port : Port) (n : Nat) {s : State} (hs : P s) : P (circuitResetNow port n s).1 := by
  unfold circuitResetNow
  split
  · exact hs
  split
  · exact hs
  · rename_i c _
    split
    · rename_i hfault; exact h.judgeCircuit c _ (h.faultCleared c s hfault hs)
    · exact hs

theorem unlockNow_kept (code : BitVec 32) {s : State} (hs : P s) : P (unlockNow code s).1 := by
  unfold unlockNow; repeat' split
  all_goals exact h.frame hs rfl

omit h in
theorem cabinetOnly_kept (port : Port) {act : State → State × Response} {s : State} (hs : P s) (hact : P (act s).1) :
    P (cabinetOnly port act s).1 := by
  cases port
  · exact hact
  · exact hs

theorem carryOut_kept (port : Port) (q : Request) {s : State} (hs : P s) : P (carryOut port q s).1 := by
  cases q with
  | place o => exact placeOrder_kept h port o hs
  | amend n e a => exact amendOrder_kept h n e a hs
  | retire n e => exact retireOrder_kept h n e hs
  | writeGuard id v => exact writeGuardNow_kept h port id v hs
  | setTariff es => exact setTariffNow_kept h es hs
  | setClock d m x => exact cabinetOnly_kept port hs (setClockNow_kept h d m x hs)
  | unlock c =>
    cases port
    · exact hs
    · exact unlockNow_kept h c hs
  | lock => exact h.frame hs rfl
  | pumpService p o => exact pumpServiceNow_kept h port p o hs
  | circuitReset c => exact circuitResetNow_kept h port c hs
  | acknowledge => exact cabinetOnly_kept port hs (acknowledgeGuard_kept h hs)
  | clearEvents f => exact cabinetOnly_kept port hs (h.frame hs rfl)
  | setEventEnables f => exact cabinetOnly_kept port hs (h.frame hs rfl)
  | _ => exact hs

theorem takeRequest_kept (port : Port) (q : Request) {s : State} (hs : P s) : P (takeRequest port q s) := by
  rw [takeRequest_frame]
  exact h.frame (carryOut_kept h port q hs) rfl

/-! ### The two ports' frames -/

theorem judgeCabinetFrame_kept (sdi : List Byte) {s : State} (hs : P s) : P (judgeCabinetFrame sdi s) := by
  unfold judgeCabinetFrame; repeat' split
  all_goals exact h.frame hs rfl

theorem endCabinetFrame_kept (sdi : List Byte) {s : State} (hs : P s) : P (endCabinetFrame sdi s) := by
  have ended : P { s with cabinet := { s.cabinet with clocked := none } } := h.frame hs rfl
  unfold endCabinetFrame; dsimp only; repeat' split
  · exact hs
  · exact judgeCabinetFrame_kept h sdi ended
  · exact ended
  · exact judgeCabinetFrame_kept h sdi ended
  · exact ended

theorem formResult_kept {s : State} (hs : P s) : P (formResult s) := by
  unfold formResult; repeat' split
  · exact h.frame hs rfl
  · exact h.frame (takeRequest_kept h .cabinet _ hs) rfl
  · exact hs

theorem takeOpener_kept (instant : Nat) (body : List Byte) {s : State} (hs : P s) : P (takeOpener instant body s) := by
  unfold takeOpener; dsimp only; repeat' split
  · exact hs
  · rename_i o _ _
    exact h.frame (clockTakesOpener_kept h instant o.day o.minute o.second o.rank o.timeSet
      (s := { s with choice := s.choice / 2 }) (h.frame hs rfl)) rfl
  · exact h.frame hs rfl

theorem takeRequestFrame_kept (instant : Nat) (seq : Byte) (b : List Byte) {s : State} (hs : P s) :
    P (takeRequestFrame instant seq b s) := by
  unfold takeRequestFrame; repeat' split
  · exact h.frame hs rfl
  · unfold carryRemote; dsimp only; split
    · exact h.frame hs rfl
    · exact h.frame (takeRequest_kept h .district _ hs) rfl
  · exact hs

theorem receiveFrame_kept (instant : Nat) (f : Frame) {s : State} (hs : P s) : P (receiveFrame instant f s) := by
  have quiet : P (lineQuiet s) := h.frame hs rfl
  unfold receiveFrame; dsimp only; repeat' split
  · exact hs
  · exact quiet
  · exact takeOpener_kept h _ _ quiet
  · exact takeRequestFrame_kept h _ _ _ quiet
  · exact quiet

theorem beginSlot_kept (n : Nat) {s : State} (hs : P s) : P (beginSlot n s) := by
  unfold beginSlot startAnswerSlot; dsimp only; repeat' split
  all_goals exact h.frame hs rfl

theorem sendDue_kept {s : State} (hs : P s) : P (sendDue s) := by
  unfold sendDue; dsimp only; repeat' split
  all_goals exact h.frame hs rfl

theorem setLastSent_kept (n round : Nat) {s : State} (hs : P s) : P (setLastSent n round s) := by
  refine h.mapRecords _ s hs fun r => ?_
  obtain ⟨k, o, v, b⟩ := r
  split <;> cases b <;> simp [SameOrder]

theorem endSending_kept {s : State} (hs : P s) : P (endSending s) := by
  have quiet : P { s with link := { s.link with line := .quiet, sending := none } } := h.frame hs rfl
  unfold endSending; dsimp only; repeat' split
  · exact h.frame (setLastSent_kept h _ _ quiet) rfl
  · exact h.frame quiet rfl
  · exact h.frame quiet rfl
  · exact hs

/-! ### The field inputs -/

theorem takeLevel_kept (v : Int) (e : Bool) {s : State} (hs : P s) : P (takeLevel v e s) := by
  unfold takeLevel; dsimp only; repeat' split
  all_goals exact h.frame hs rfl

theorem validityExpiry_kept {s : State} (hs : P s) : P (validityExpiry s) := by
  unfold validityExpiry; dsimp only; repeat' split
  all_goals exact h.frame hs rfl

theorem takeProbe_kept (i : Fin 8) (t : Int) (e : Bool) {s : State} (hs : P s) : P (takeProbe i t e s) := by
  unfold takeProbe; split
  · exact probeTaken_kept h i (h.frame hs rfl)
  · exact probeInvalid_kept h i hs

theorem silenceExpires_kept (i : Fin 8) {s : State} (hs : P s) : P (silenceExpires i s) := by
  unfold silenceExpires; split
  · exact probeInvalid_kept h i hs
  · exact hs

theorem takeFloat_kept (b : Bool) {s : State} (hs : P s) : P (takeFloat b s) := by
  unfold takeFloat; dsimp only; split <;> exact h.frame hs rfl

theorem heaterCurrent_kept (c : Fin 8) (b : Bool) {s : State} (hs : P s) : P (heaterCurrent c b s) := by
  have shown : P { s with inputs := { s.inputs with current := s.inputs.current.set c b } } := h.frame hs rfl
  unfold heaterCurrent; dsimp only; repeat' split
  · exact shown
  · exact h.frame shown (setCircuit_lawParts rfl)
  · exact h.frame shown (setCircuit_lawParts rfl)
  · exact shown

theorem endCommit_kept {s : State} (hs : P s) : P (endCommit s) := by
  unfold endCommit; split
  · exact h.frame hs rfl
  · exact hs

/-! ### Every step -/

/-- What a command itself leaves keeps the law. -/
theorem ownEffect_kept (i : Instr) {s : State} (hs : P s) : P (ownEffect i s) := by
  have sampled : ∀ x : Sample, P (takeSample x s) := fun x => h.frame hs rfl
  have reached : ∀ t, P (reachInstant t s) := fun t => h.frame hs rfl
  cases i with
  | readTower port x n => exact takeRequest_kept h port _ (sampled x)
  | writeGuard port x id v => exact takeRequest_kept h port _ (sampled x)
  | pumpServiceOut port x p => exact takeRequest_kept h port _ (sampled x)
  | pumpServiceReturn port x p => exact takeRequest_kept h port _ (sampled x)
  | acknowledge port x => exact takeRequest_kept h port _ (sampled x)
  | cabinetFrameBegin => exact h.frame hs rfl
  | cabinetFrameEnd x sdi => exact endCabinetFrame_kept h sdi (sampled x)
  | frameStart => show P (startFrame s); unfold startFrame; split <;> exact h.frame hs rfl
  | frameCutShort => show P (cutFrame s); unfold cutFrame; split <;> exact h.frame hs rfl
  | byteGapTimeout => show P (cutFrame s); unfold cutFrame; split <;> exact h.frame hs rfl
  | discardedFrame f => exact receiveFrame_kept h _ f hs
  | ignoredFrame f => exact receiveFrame_kept h _ f hs
  | opener t f => exact receiveFrame_kept h t f (reached t)
  | requestFrame t x f => exact receiveFrame_kept h t f (s := takeSample x (reachInstant t s)) (h.frame (reached t) rfl)
  | slotStart n => exact beginSlot_kept h n hs
  | instantOfSending => exact sendDue_kept h hs
  | transmissionEnd => exact endSending_kept h hs
  | minuteEvent => exact advanceToMinute_kept h hs
  | holdoverEntry => exact enterHoldover_kept h hs
  | holdoverRound => exact countHoldover_kept h hs
  | flowPulse p => exact h.takeFlowPulse p s hs
  | noFlowExpiry p => exact h.takeNoFlow p s hs
  | dwellExpiry p => exact h.pumpDwellExpiry p s hs
  | confirmExpiry p => exact h.pumpConfirmExpiry p s hs
  | feedbackCloses p => exact h.pumpFeedbackCloses p s hs
  | feedbackOpens p x => exact h.pumpFeedbackOpens p _ (sampled x)
  | overloadTrip p => exact h.pumpOverloadTrip p s hs
  | stopTimerExpiry p => exact h.pumpStopExpiry p s hs
  | lockoutExpiry p => exact h.pumpLockoutExpiry p s hs
  | valveLimitChange o c => exact h.valveLimits o c s hs
  | travelTimerExpiry => exact h.valveTravelExpiry s hs
  | levelReading v e => exact takeLevel_kept h v e hs
  | validityTimerExpiry => exact validityExpiry_kept h hs
  | floatChange b => exact takeFloat_kept h b hs
  | probeReading k t e => exact takeProbe_kept h k t e hs
  | silenceTimerExpiry k => exact silenceExpires_kept h k hs
  | heaterCurrentChange c b => exact heaterCurrent_kept h c b hs
  | feedbackTimerExpiry c => exact h.circuitTimerExpiry c s hs
  | commitEnd => exact endCommit_kept h hs
  | reset x => exact h.resetNow x s hs
  | ownerFormsResult x => exact formResult_kept h (sampled x)
  | secondAdvance => exact advanceSecond_kept h hs
  | _ => exact takeRequest_kept h _ _ hs

/-- A law that the primitive operations keep is kept by every step. -/
theorem keptByStep_of_stepLaw : KeptByStep P :=
  keptByStep_of_effects (fun _ _ _ _ _ hs => h.frame hs rfl) (fun n _ hs => handle_kept h n hs)
    (fun i _ hs => ownEffect_kept h i hs)

end

end Sys2Proof.Machine

/-! What the pump channels, the arbiter, the circuits and the valve do by themselves: no channel begins to want its pump (only a start
command does that), its items go on fitting its state, and the book, the assignments and the guard state stand. -/

namespace Sys2Proof.Machine

open Sys2Proof.Safety

/-! ### One channel -/

/-- The channel runs, starts or claims, or holds a pending start. -/
def Wants (q : Pump) : Prop := pumpsFluid q.state = true ∨ q.pendingStart.isSome = true

/-- A channel at rest holds no pending start. -/
def RestFits (q : Pump) : Prop :=
  q.state = .stopped ∨ q.state = .faulted ∨ q.state = .outOfService → q.pendingStart = none

/-- A channel goes from the first to the second without a start command. -/
def Settles (q r : Pump) : Prop := (PumpItemsFit q → PumpItemsFit r) ∧ (Wants r → Wants q) ∧ (RestFits q → RestFits r)

theorem Settles.refl (q : Pump) : Settles q q := ⟨id, id, id⟩

theorem Settles.trans {q r x : Pump} (h : Settles q r) (h' : Settles r x) : Settles q x :=
  ⟨fun e => h'.1 (h.1 e), fun e => h.2.1 (h'.2.1 e), fun e => h'.2.2 (h.2.2 e)⟩

/-- Every channel goes from the first state to the second without a start command. -/
def Settling (s t : State) : Prop := ∀ p : Fin 3, Settles (s.pumps.get p) (t.pumps.get p)

theorem Settling.refl (s : State) : Settling s s := fun _ => Settles.refl _

theorem Settling.trans {s t u : State} (h : Settling s t) (h' : Settling t u) : Settling s u := fun p => (h p).trans (h' p)

theorem settling_of_pumps {s t : State} (h : t.pumps = s.pumps) : Settling s t := by
  intro p; rw [h]; exact Settles.refl _

/-- One channel is moved and the others stand. -/
theorem settling_at {s t : State} (p : Fin 3) (hother : ∀ k, k ≠ p → t.pumps.get k = s.pumps.get k)
    (hp : Settles (s.pumps.get p) (t.pumps.get p)) : Settling s t := by
  intro k
  by_cases hk : k = p
  · subst hk; exact hp
  · rw [hother k hk]; exact Settles.refl _

theorem settling_setPump {s : State} {p : Fin 3} {q : Pump} (h : Settles (s.pumps.get p) q) : Settling s (setPump p q s) :=
  settling_at p (fun k hk => trio_get_set_other _ _ _ _ hk) (by simpa using h)

/-! ### The arbiter -/

/-- A channel in STARTING confirms running (R80). -/
theorem confirmRunning_settling (p : Fin 3) {s : State} (hq : (s.pumps.get p).state = .starting) :
    Settling s (confirmRunning p s) := by
  refine settling_setPump (p := p) ?_
  simp [Settles, PumpItemsFit, Wants, RestFits, pumpsFluid, hq]
  tauto

/-- A grant takes a channel from CLAIMING to STARTING or RUNNING (R80). -/
theorem takePumpGrant_settling (p : Fin 3) (s : State) : Settling s (takePumpGrant p s) := by
  unfold takePumpGrant; dsimp only; split
  · exact Settling.refl s
  · rename_i hq
    have hq : (s.pumps.get p).state = .claiming := by simpa using hq
    have starts (d : Option Nat) : Settling s (emit (.pumpChanged p) (setPump p
        { s.pumps.get p with state := .starting, judged := s.inputs.feedback.get p, dwell := d,
                             confirm := some (s.gs.dwell.get p + s.gs.confirmTime) } s)) := by
      refine settling_setPump (p := p) ?_
      simp [Settles, PumpItemsFit, Wants, RestFits, pumpsFluid, hq]
      tauto
    split
    · exact (starts _).trans (confirmRunning_settling p (by simp))
    · exact starts _

theorem takeCircuitGrant_pumps (c : Fin 8) (s : State) : (takeCircuitGrant c s).pumps = s.pumps := by
  unfold takeCircuitGrant; dsimp only; split <;> rfl

theorem takeGrant_settling (k : Claimant) (s : State) : Settling s (takeGrant k s) := by
  cases k with
  | pump p => exact takePumpGrant_settling p s
  | circuit c => exact settling_of_pumps (takeCircuitGrant_pumps c s)

theorem walk_settling (n : Nat) (s : State) : Settling s (walk n s) := by
  induction n generalizing s with
  | zero => exact Settling.refl s
  | succ n ih =>
    unfold walk; dsimp only; repeat' split
    · exact Settling.refl s
    · exact Settling.refl s
    · rename_i c _ _ _
      have granted : Settling s (takeGrant c.claimant (moveToGranted c s)) := takeGrant_settling c.claimant (moveToGranted c s)
      exact granted.trans (ih _)
    · exact Settling.refl s
    · refine foldl_keeps (Settling s) _ (fun t k ht => ht.trans ?_) _ _ ?_
      · cases k with
        | pump p => exact Settling.refl t
        | circuit c =>
          unfold shedCircuit; dsimp only
          refine Settling.trans ?_ (ih _)
          refine Settling.trans ?_ (settling_of_pumps (enterClaim_pumps _ _ _ _))
          exact ih (dropGranted (.circuit c)
            (setCircuit c { t.frost.circuits.get c with state := .shed, timer := none } t))
      · exact foldl_keeps (Settling s) _ (fun t k ht => ht.trans (settling_of_pumps (reportReclaim_pumps k t))) _ _
          (Settling.refl s)

theorem runWalk_settling (s : State) : Settling s (runWalk s) := walk_settling 64 s

theorem releaseClaim_settling (k : Claimant) (s : State) : Settling s (releaseClaim k s) := walk_settling 64 (dropGranted k s)

theorem withdrawClaim_settling (k : Claimant) (s : State) : Settling s (withdrawClaim k s) :=
  (settling_of_pumps (dropWaiting_pumps k s)).trans (walk_settling 64 _)

theorem placeClaim_settling (k : Claimant) (u : Nat) (c : ClaimClass) (s : State) : Settling s (placeClaim k u c s) :=
  (settling_of_pumps (enterClaim_pumps k u c s)).trans (walk_settling 64 _)

/-! ### Stops -/

theorem enterLockout_other (p k : Fin 3) (s : State) (h : k ≠ p) : (enterLockout p s).pumps.get k = s.pumps.get k :=
  trio_get_set_other _ _ _ _ h

theorem enterLockout_self (p : Fin 3) (s : State) :
    (enterLockout p s).pumps.get p = { s.pumps.get p with state := .lockout, lockout := some s.gs.lockoutTime } :=
  trio_get_set_same _ _ _

theorem enterFaulted_self (p : Fin 3) (why : FaultCause) (s : State) :
    (enterFaulted p why s).pumps.get p =
      { s.pumps.get p with state := .faulted, cause := some why, pendingStart := none, stopCause := .none, dwell := none,
                           confirm := none, stopTimer := none, lockout := none } := by
  unfold enterFaulted; dsimp only; split <;> exact trio_get_set_same _ _ _

/-- A channel that fails is FAULTED with its timers stopped and no pending start (R88). -/
theorem enterFaulted_settling (p : Fin 3) (why : FaultCause) (s : State) : Settling s (enterFaulted p why s) := by
  refine settling_at p (fun k hk => enterFaulted_other p k why s hk) ?_
  rw [enterFaulted_self]
  simp [Settles, PumpItemsFit, Wants, RestFits, pumpsFluid]

/-- A stop that completes takes a STOPPING channel to LOCKOUT or FAULTED (R86). -/
theorem completeStopBy_settling {w : State → State} (hw : ∀ t, Settling t (w t)) (p : Fin 3) {s : State}
    (hq : (s.pumps.get p).state = .stopping) : Settling s (completeStopBy w p s) := by
  have lockout : Settling s (enterLockout p (setPump p { s.pumps.get p with stopTimer := none, stopCause := .none } s)) := by
    refine settling_at p (fun k hk => ?_) ?_
    · rw [enterLockout_other p k _ hk]; exact trio_get_set_other _ _ _ _ hk
    · rw [enterLockout_self, setPump_pumps, trio_get_set_same]
      simp [Settles, PumpItemsFit, Wants, RestFits, pumpsFluid, hq]
      tauto
  have faulted (why : FaultCause) :
      Settling s (enterFaulted p why (setPump p { s.pumps.get p with stopTimer := none, stopCause := .none } s)) := by
    refine settling_at p (fun k hk => ?_) ?_
    · rw [enterFaulted_other p k _ _ hk]; exact trio_get_set_other _ _ _ _ hk
    · rw [enterFaulted_self, setPump_pumps, trio_get_set_same]
      simp [Settles, PumpItemsFit, Wants, RestFits, pumpsFluid]
  unfold completeStopBy; dsimp only
  refine Settling.trans ?_ (hw _)
  cases (s.pumps.get p).stopCause with
  | none => exact lockout
  | retry => exact lockout
  | noStart => exact faulted _
  | noFlow => exact faulted _
  | overload => exact faulted _

/-- A stop of a run takes the channel to STOPPING, or on to LOCKOUT or FAULTED (R86). -/
theorem enterStoppingBy_settling {w : State → State} (hw : ∀ t, Settling t (w t)) (p : Fin 3) (why : StopCause) {s : State}
    (hq : (s.pumps.get p).state = .starting ∨ (s.pumps.get p).state = .running) :
    Settling s (enterStoppingBy w p why s) := by
  have stopping : Settling s (emit (.pumpChanged p) (setPump p
      { s.pumps.get p with state := .stopping, stopCause := why, dwell := none, confirm := none,
                           stopTimer := some s.gs.stopConfirmTime, judged := s.inputs.feedback.get p } s)) := by
    refine settling_setPump (p := p) ?_
    rcases hq with hq | hq <;> simp [Settles, PumpItemsFit, Wants, RestFits, pumpsFluid, hq] <;> tauto
  unfold enterStoppingBy; dsimp only; split
  · exact stopping
  · exact stopping.trans (completeStopBy_settling hw p (by simp))

/-- A dropped pending start. -/
theorem dropPending_settling (p : Fin 3) (s : State) :
    Settling s (setPump p { s.pumps.get p with pendingStart := none } s) :=
  settling_setPump ⟨id, fun h => h.elim .inl nofun, fun _ _ => rfl⟩

theorem stopBy_settling {w : State → State} (hw : ∀ t, Settling t (w t)) (p : Fin 3) (b : Bool) (s : State) :
    Settling s (stopBy w p b s) := by
  have run (hq : (s.pumps.get p).state = .starting ∨ (s.pumps.get p).state = .running) (c : StopCause) :
      Settling s (enterStoppingBy w p c (setPump p { s.pumps.get p with pendingStart := none } s)) :=
    (dropPending_settling p s).trans (enterStoppingBy_settling hw p c (by simpa using hq))
  unfold stopBy; dsimp only; split
  · rename_i hq
    refine Settling.trans ?_ (hw _)
    refine Settling.trans (t := setPump p { s.pumps.get p with state := .stopped, pendingStart := none } s) ?_
      (settling_of_pumps (dropWaiting_pumps _ _))
    refine settling_setPump ?_
    simp [Settles, PumpItemsFit, Wants, RestFits, pumpsFluid, hq]
  · rename_i hq; exact run (.inl hq) _
  · rename_i hq; exact run (.inr hq) _
  · rename_i hq
    refine settling_setPump ?_
    simp [Settles, PumpItemsFit, Wants, RestFits, pumpsFluid, hq]
  · exact dropPending_settling p s
  · exact Settling.refl s

theorem stopCommand_settling (p : Fin 3) (b : Bool) (s : State) : Settling s (stopCommand p b s) :=
  stopBy_settling runWalk_settling p b s

theorem stopAllPumps_settling (s : State) : Settling s (stopAllPumps s) := by
  have stopped : Settling s (pumpNumbers.foldl (fun u p => stopBy id p false u) s) :=
    foldl_keeps (Settling s) _ (fun t p ht => ht.trans (stopBy_settling (fun _ => Settling.refl _) p false t)) _ _
      (Settling.refl s)
  unfold stopAllPumps; dsimp only; split
  · exact stopped
  · exact stopped.trans (runWalk_settling _)

/-! ### What else stands -/

/-- From the first state to the second no channel takes a start command, and the guard state, the book and the assignments stand. -/
structure Mild (s t : State) : Prop where
  pumps : Settling s t
  guard : t.guard.state = s.guard.state
  book : t.book = s.book
  fill : t.fill = s.fill

/-- The valve stands besides. -/
structure Gentle (s t : State) : Prop extends Mild s t where
  valve : t.valve = s.valve

theorem Mild.refl (s : State) : Mild s s := ⟨Settling.refl s, rfl, rfl, rfl⟩

theorem Mild.trans {s t u : State} (h : Mild s t) (h' : Mild t u) : Mild s u :=
  ⟨h.pumps.trans h'.pumps, h'.guard.trans h.guard, h'.book.trans h.book, h'.fill.trans h.fill⟩

theorem Gentle.refl (s : State) : Gentle s s := ⟨Mild.refl s, rfl⟩

theorem Gentle.trans {s t u : State} (h : Gentle s t) (h' : Gentle t u) : Gentle s u :=
  ⟨h.toMild.trans h'.toMild, h'.valve.trans h.valve⟩

theorem gentle_of_low {s t : State} (hp : Settling s t) (h : low t = low s) : Gentle s t :=
  ⟨⟨hp, congrArg Guard.state (calm_guard (low_calm h)), low_book h, low_fill h⟩, calm_valve (low_calm h)⟩

theorem mild_of_eq {s t : State} (hp : t.pumps = s.pumps) (hg : t.guard.state = s.guard.state) (hb : t.book = s.book)
    (hf : t.fill = s.fill) : Mild s t := ⟨settling_of_pumps hp, hg, hb, hf⟩

theorem gentle_of_eq {s t : State} (hp : t.pumps = s.pumps) (hg : t.guard.state = s.guard.state) (hb : t.book = s.book)
    (hf : t.fill = s.fill) (hv : t.valve = s.valve) : Gentle s t := ⟨mild_of_eq hp hg hb hf, hv⟩

theorem emit_gentle (n : Note) (s : State) : Gentle s (emit n s) := gentle_of_eq rfl rfl rfl rfl rfl

/-! ### The circuits -/

theorem judgeCircuit_gentle (c : Fin 8) (s : State) : Gentle s (judgeCircuit c s) := by
  refine gentle_of_low ?_ (judgeCircuit_low c s)
  have off : Settling s (circuitGivesUp c s) := withdrawClaim_settling (.circuit c) (setCircuit c _ s)
  unfold judgeCircuit; dsimp only; repeat' split
  · exact placeClaim_settling (.circuit c) _ _ (setCircuit c _ s)
  · exact Settling.refl s
  · exact Settling.refl s
  · exact off
  · exact Settling.refl s
  · exact off
  · exact Settling.refl s
  · exact releaseClaim_settling (.circuit c) (setCircuit c _ s)
  · exact Settling.refl s
  · exact Settling.refl s

theorem circuitStops_gentle (c : Fin 8) (x : CircuitState) (s : State) : Gentle s (circuitStops c x s) :=
  gentle_of_low (releaseClaim_settling (.circuit c) (setCircuit c _ s)) (circuitStops_low c x s)

theorem circuitTimerExpiry_gentle (c : Fin 8) (s : State) : Gentle s (circuitTimerExpiry c s) := by
  unfold circuitTimerExpiry; dsimp only; split
  · exact (circuitStops_gentle c .fault s).trans (gentle_of_eq rfl rfl rfl rfl rfl)
  · exact Gentle.refl s

theorem roleGone_gentle (c : Fin 8) (s : State) : Gentle s (roleGone c s) := by
  have off : Gentle s (circuitGivesUp c s) :=
    gentle_of_low (withdrawClaim_settling (.circuit c) (setCircuit c _ s)) (circuitGivesUp_low c s)
  unfold roleGone; split
  · exact Gentle.refl s
  · exact off
  · exact off
  · exact circuitStops_gentle c .off s
  · exact gentle_of_eq rfl rfl rfl rfl rfl

/-! ### The inputs and timers of a pump -/

/-- A channel in STARTING confirms running (R80). -/
theorem confirmRunning_gentle (p : Fin 3) {s : State} (hq : (s.pumps.get p).state = .starting) :
    Gentle s (confirmRunning p s) :=
  gentle_of_low (confirmRunning_settling p hq) (confirmRunning_low p s)

theorem setPump_gentle {p : Fin 3} {q : Pump} {s : State} (h : Settles (s.pumps.get p) q) : Gentle s (setPump p q s) :=
  gentle_of_low (settling_setPump h) (setPump_low p q s)

/-- The judged items of a channel are of no account here. -/
theorem settles_judged (q : Pump) (b o : Bool) : Settles q { q with judged := b, overload := o } := ⟨id, id, id⟩

theorem enterStopping_gentle (p : Fin 3) (why : StopCause) {s : State}
    (hq : (s.pumps.get p).state = .starting ∨ (s.pumps.get p).state = .running) : Gentle s (enterStopping p why s) :=
  gentle_of_low (enterStoppingBy_settling runWalk_settling p why hq) (enterStopping_low p why s)

theorem enterFaulted_gentle (p : Fin 3) (why : FaultCause) (s : State) : Gentle s (enterFaulted p why s) :=
  gentle_of_low (enterFaulted_settling p why s) (enterFaulted_low p why s)

theorem failedAttempt_gentle (p : Fin 3) (keep : Bool) {s : State}
    (hq : (s.pumps.get p).state = .starting ∨ (s.pumps.get p).state = .running) : Gentle s (failedAttempt p keep s) := by
  have counted (n : Nat) (x : Option ClaimClass) :
      Gentle s (setPump p { s.pumps.get p with attempts := n, pendingStart := x } s) := by
    refine setPump_gentle ⟨id, ?_, ?_⟩
    · rintro -; exact .inl (by rcases hq with hq | hq <;> simp [pumpsFluid, hq])
    · rcases hq with hq | hq <;> simp [RestFits, hq]
  unfold failedAttempt; dsimp only; split
  · exact (counted _ _).trans (enterStopping_gentle p _ (by simpa using hq))
  · exact (counted _ _).trans (enterStopping_gentle p _ (by simpa using hq))

theorem pumpDwellExpiry_gentle (p : Fin 3) (s : State) : Gentle s (pumpDwellExpiry p s) := by
  unfold pumpDwellExpiry; dsimp only; split
  · rename_i hq
    obtain ⟨hq, -⟩ := hq
    have expired : Gentle s (setPump p { s.pumps.get p with dwell := none } s) := by
      refine setPump_gentle ?_
      simp [Settles, PumpItemsFit, Wants, RestFits, pumpsFluid, hq]
    split
    · exact expired.trans (confirmRunning_gentle p (by simpa using hq))
    · exact expired
  · exact Gentle.refl s

theorem pumpConfirmExpiry_gentle (p : Fin 3) (s : State) : Gentle s (pumpConfirmExpiry p s) := by
  unfold pumpConfirmExpiry; dsimp only; split
  · rename_i hq; exact failedAttempt_gentle p true (.inl hq.1)
  · exact Gentle.refl s

/-- A channel's judged feedback follows its input. -/
theorem judge_gentle {p : Fin 3} (b : Bool) (s : State) : Gentle s (setPump p { s.pumps.get p with judged := b } s) :=
  setPump_gentle (settles_judged _ b _)

theorem feedback_gentle (p : Fin 3) (b : Bool) (s : State) :
    Gentle s { s with inputs := { s.inputs with feedback := s.inputs.feedback.set p b } } :=
  gentle_of_eq rfl rfl rfl rfl rfl

theorem pumpFeedbackCloses_gentle (p : Fin 3) (s : State) : Gentle s (pumpFeedbackCloses p s) := by
  have shown := feedback_gentle p true s
  unfold pumpFeedbackCloses; dsimp only; split
  · rename_i hq
    split
    · exact (shown.trans (judge_gentle (p := p) true _)).trans (confirmRunning_gentle p (by simpa using hq))
    · exact shown.trans (judge_gentle (p := p) true _)
  · exact shown.trans (judge_gentle (p := p) true _)
  · exact shown.trans (judge_gentle (p := p) true _)
  · exact shown

theorem runningFeedbackOpens_gentle (p : Fin 3) {s : State} (hq : (s.pumps.get p).state = .running) :
    Gentle s (runningFeedbackOpens p s) := by
  have judged : Gentle s (setPump p { s.pumps.get p with judged := false, overload := s.inputs.overload.get p } s) :=
    setPump_gentle (settles_judged _ _ _)
  unfold runningFeedbackOpens; dsimp only; split
  · refine (judged.trans (enterFaulted_gentle p .overload _)).trans ?_
    exact gentle_of_low (releaseClaim_settling _ _) (releaseClaim_low _ _)
  · refine judged.trans (Gentle.trans (emit_gentle (.feedbackDrop p) _) ?_)
    exact failedAttempt_gentle p false (.inr (by simpa using hq))

theorem completeStop_gentle (p : Fin 3) {s : State} (hq : (s.pumps.get p).state = .stopping) : Gentle s (completeStop p s) :=
  gentle_of_low (completeStopBy_settling runWalk_settling p hq) (completeStop_low p s)

theorem weldOpens_gentle (p : Fin 3) (s : State) : Gentle s (weldOpens p s) := by
  have opened : Gentle s { setPump p { s.pumps.get p with judged := false } s with
      guard := { s.guard with held := s.guard.held.set p false } } :=
    (judge_gentle (p := p) false s).trans (gentle_of_eq rfl rfl rfl rfl rfl)
  exact opened.trans (gentle_of_low (releaseClaim_settling _ _) (releaseClaim_low _ _))

theorem pumpFeedbackOpens_gentle (p : Fin 3) (s : State) : Gentle s (pumpFeedbackOpens p s) := by
  have shown := feedback_gentle p false s
  unfold pumpFeedbackOpens; dsimp only; split
  · exact shown.trans (judge_gentle (p := p) false _)
  · rename_i hq; exact shown.trans (runningFeedbackOpens_gentle p hq)
  · rename_i hq
    exact (shown.trans (judge_gentle (p := p) false _)).trans (completeStop_gentle p (by simpa using hq))
  · split
    · exact shown.trans (weldOpens_gentle p _)
    · exact shown
  · exact shown

theorem pumpOverloadTrip_gentle (p : Fin 3) (s : State) : Gentle s (pumpOverloadTrip p s) := by
  have tripped : Gentle s (setPump p { s.pumps.get p with overload := true }
      { s with inputs := { s.inputs with overload := s.inputs.overload.set p true } }) :=
    (gentle_of_eq rfl rfl rfl rfl rfl : Gentle s { s with inputs := { s.inputs with overload := s.inputs.overload.set p true } }).trans
      (setPump_gentle (settles_judged _ _ true))
  have run (hq : (s.pumps.get p).state = .starting ∨ (s.pumps.get p).state = .running) :=
    (tripped.trans (gentle_of_low (dropPending_settling p _) (setPump_low _ _ _))).trans
      (enterStopping_gentle p .overload (by simpa using hq))
  simp only [setPump_pumps, trio_get_set_same] at run
  unfold pumpOverloadTrip; dsimp only; split
  · exact tripped.trans (enterFaulted_gentle p _ _)
  · exact tripped.trans (enterFaulted_gentle p _ _)
  · exact (tripped.trans (enterFaulted_gentle p _ _)).trans
      (gentle_of_low (withdrawClaim_settling _ _) (withdrawClaim_low _ _))
  · rename_i hq; exact run (.inl hq)
  · rename_i hq; exact run (.inr hq)
  · rename_i hq
    refine tripped.trans (setPump_gentle ?_)
    have hq : (s.pumps.get p).state = .stopping := hq
    simp [Settles, PumpItemsFit, Wants, RestFits, pumpsFluid, hq]
  · exact tripped

theorem pumpStopExpiry_gentle (p : Fin 3) (s : State) : Gentle s (pumpStopExpiry p s) := by
  unfold pumpStopExpiry; dsimp only; split
  · exact (enterFaulted_gentle p _ s).trans (gentle_of_eq rfl rfl rfl rfl rfl)
  · exact Gentle.refl s

theorem pumpLockoutExpiry_gentle (p : Fin 3) (s : State) : Gentle s (pumpLockoutExpiry p s) := by
  unfold pumpLockoutExpiry; dsimp only; split
  · rename_i hq
    obtain ⟨hq, -⟩ := hq
    split
    · rename_i cls hcls
      have claims : Gentle s (setPump p { s.pumps.get p with state := .claiming, lockout := none } s) := by
        refine setPump_gentle ?_
        simp +contextual [Settles, PumpItemsFit, Wants, RestFits, pumpsFluid, hq, hcls]
      refine claims.trans (Gentle.trans (emit_gentle (.pumpChanged p) _) ?_)
      exact gentle_of_low (placeClaim_settling _ _ _ _) (claimPump_low _ _ _)
    · rename_i hcls
      refine Gentle.trans (setPump_gentle ?_) (gentle_of_eq rfl rfl rfl rfl rfl)
      simp +contextual [Settles, PumpItemsFit, Wants, RestFits, pumpsFluid, hq, hcls]
  · exact Gentle.refl s

/-! ### Service -/

theorem serviceOut_gentle {p : Fin 3} {s t : State} (h : serviceOut p s = some t) : Gentle s t := by
  have out (hq : (s.pumps.get p).state = .stopped ∨ (s.pumps.get p).state = .faulted ∨
        (s.pumps.get p).state = .lockout ∧ (s.pumps.get p).pendingStart = none) :
      Gentle s (emit (.pumpChanged p) (setPump p
        { s.pumps.get p with state := .outOfService, cause := none, lockout := none, judged := s.inputs.feedback.get p,
                             overload := s.inputs.overload.get p } s)) := by
    refine Gentle.trans (setPump_gentle ?_) (gentle_of_eq rfl rfl rfl rfl rfl)
    rcases hq with hq | hq | ⟨hq, hn⟩
    · simp [Settles, PumpItemsFit, Wants, RestFits, pumpsFluid, hq]
    · simp [Settles, PumpItemsFit, Wants, RestFits, pumpsFluid, hq]
    · simp [Settles, PumpItemsFit, Wants, RestFits, pumpsFluid, hq, hn]
  unfold serviceOut at h; dsimp only at h; split at h
  · rename_i hq; obtain rfl := Option.some.inj h; exact out (.inl hq)
  · rename_i hq
    split at h
    · rename_i hn; obtain rfl := Option.some.inj h; exact out (.inr (.inr ⟨hq, by simpa using hn⟩))
    · exact absurd h nofun
  · rename_i hq
    split at h
    · exact absurd h nofun
    · obtain rfl := Option.some.inj h; exact out (.inr (.inl hq))
  · exact absurd h nofun

theorem serviceReturn_gentle {p : Fin 3} {s t : State} (h : serviceReturn p s = some t) : Gentle s t := by
  unfold serviceReturn at h; dsimp only at h; split at h
  · rename_i hq
    obtain ⟨hq, -, -⟩ := hq
    obtain rfl := Option.some.inj h
    refine gentle_of_low (settling_at p (fun k hk => ?_) ?_) (by simp)
    · rw [enterLockout_other p k _ hk]; exact trio_get_set_other _ _ _ _ hk
    · rw [enterLockout_self, setPump_pumps, trio_get_set_same]
      rcases hq with hq | hq <;> simp [Settles, PumpItemsFit, Wants, RestFits, pumpsFluid, hq]
  · exact absurd h nofun

/-! ### The valve and the guard -/

theorem changeValve_mild (v : Valve) (s : State) : Mild s (changeValve v s) := mild_of_eq rfl rfl rfl rfl

theorem faultValve_mild (d : Direction) (s : State) : Mild s (faultValve d s) := mild_of_eq rfl rfl rfl rfl

theorem judgeLimits_mild (s : State) : Mild s (judgeLimits s) := by
  unfold judgeLimits; split
  · exact faultValve_mild _ s
  · exact Mild.refl s

theorem driveOpen_mild (s : State) : Mild s (driveOpen s) := (changeValve_mild _ s).trans (judgeLimits_mild _)

theorem driveClose_mild (s : State) : Mild s (driveClose s) := (changeValve_mild _ s).trans (judgeLimits_mild _)

theorem openCommand_mild (s : State) : Mild s (openCommand s) := by
  unfold openCommand; split
  · exact driveOpen_mild s
  · exact driveOpen_mild s
  · exact driveOpen_mild s
  · exact Mild.refl s
  · exact Mild.refl s

theorem closeCommand_mild (s : State) : Mild s (closeCommand s) := by
  unfold closeCommand; split
  · exact driveClose_mild s
  · exact driveClose_mild s
  · exact driveClose_mild s
  · exact Mild.refl s
  · exact Mild.refl s

theorem valveLimits_mild (o c : Bool) (s : State) : Mild s (valveLimits o c s) := by
  have shown : Mild s { s with inputs := { s.inputs with openLimit := o, closedLimit := c } } :=
    mild_of_eq rfl rfl rfl rfl
  unfold valveLimits; dsimp only; repeat' split
  · exact shown.trans (judgeLimits_mild _)
  · exact shown.trans (changeValve_mild _ _)
  · exact shown
  · exact shown.trans (changeValve_mild _ _)
  · exact shown
  · exact shown.trans (driveOpen_mild _)
  · exact shown
  · exact shown.trans (driveClose_mild _)
  · exact shown
  · exact shown

theorem valveTravelExpiry_mild (s : State) : Mild s (valveTravelExpiry s) := by
  unfold valveTravelExpiry; repeat' split
  · exact Mild.refl s
  · exact faultValve_mild _ s
  · exact faultValve_mild _ s
  · exact Mild.refl s

/-- An entry of the guard stops channels and starts none, and the book and the assignments stand. -/
theorem enterGuard_settling (g : GuardState) (s : State) :
    Settling s (enterGuard g s) ∧ (enterGuard g s).book = s.book ∧ (enterGuard g s).fill = s.fill := by
  let Keeps := fun t : State => Settling s t ∧ t.book = s.book ∧ t.fill = s.fill
  have mild {t u : State} (ht : Keeps t) (hu : Mild t u) : Keeps u :=
    ⟨ht.1.trans hu.pumps, hu.book.trans ht.2.1, hu.fill.trans ht.2.2⟩
  have entered : Keeps { s with guard := { s.guard with state := g } } := ⟨settling_of_pumps rfl, rfl, rfl⟩
  have stopAll (t : State) : Mild t (stopAllPumps t) :=
    (gentle_of_low (stopAllPumps_settling t) (stopAllPumps_low t)).toMild
  have quiet (t : State) (e : EventFlag) : Mild t (setEvent e t) := mild_of_eq rfl rfl rfl rfl
  have told (t : State) (ns : List Note) : Mild t (emitFree ns t) := mild_of_eq rfl rfl rfl rfl
  show Keeps (enterGuard g s)
  unfold enterGuard; dsimp only; split
  · exact ⟨Settling.refl s, rfl, rfl⟩
  · refine mild ?_ (told _ _)
    have flagged : Keeps (match entryEvent g with
        | some e => setEvent e { s with guard := { s.guard with state := g } }
        | none => { s with guard := { s.guard with state := g } }) := by
      split
      · exact mild entered (quiet _ _)
      · exact entered
    have stopped : ∀ t, Keeps t → Keeps (if stopsPumps g = true then stopAllPumps t else t) := by
      intro t ht; split
      · exact mild ht (stopAll t)
      · exact ht
    split
    · exact mild (stopped _ flagged) (closeCommand_mild _)
    · exact stopped _ flagged

end Sys2Proof.Machine

/-! A law of the pump channels and the arbiter alone is kept by the fill controller and the book, which reach them only through stop and
start commands; the laws of the channels' items and of the guard's stops. -/

namespace Sys2Proof.Machine

open Sys2Proof.Safety

/-! ### Laws that do not speak of the book -/

/-- The parts of the state that a law of the plant speaks of. -/
structure PlantParts where
  pumps : Trio Pump
  arbiter : Arbiter
  circuits : Octo CircuitState
  guard : GuardState
  feedback : Trio Bool
  valve : Valve

def plantParts (s : State) : PlantParts :=
  { pumps := s.pumps, arbiter := s.arbiter, circuits := s.frost.circuits.map (·.state), guard := s.guard.state,
    feedback := s.inputs.feedback, valve := s.valve }

theorem plantParts_of_lawParts {s t : State} (h : lawParts t = lawParts s) : plantParts t = plantParts s :=
  congrArg (fun x : LawParts => PlantParts.mk x.pumps x.arbiter x.circuits x.guard x.feedback x.valve) h

@[simp] theorem bookChanged_plantParts (n : Nat) (s : State) : plantParts (bookChanged n s) = plantParts s := by
  unfold bookChanged; dsimp only; split <;> rfl

@[simp] theorem emit_plantParts (n : Note) (s : State) : plantParts (emit n s) = plantParts s := rfl
@[simp] theorem setEvent_plantParts (f : EventFlag) (s : State) : plantParts (setEvent f s) = plantParts s := rfl
@[simp] theorem setAssign_plantParts (p : Fin 3) (a : Assignment) (s : State) : plantParts (setAssign p a s) = plantParts s := rfl
@[simp] theorem setRecords_plantParts (rs : List Record) (s : State) : plantParts (setRecords rs s) = plantParts s := rfl
@[simp] theorem putFill_plantParts (n : Nat) (f : FillRecord) (s : State) : plantParts (putFill n f s) = plantParts s := rfl
@[simp] theorem putHeat_plantParts (n : Nat) (h : HeatRecord) (s : State) : plantParts (putHeat n h s) = plantParts s := rfl
@[simp] theorem removeRecord_plantParts (n : Nat) (s : State) : plantParts (removeRecord n s) = plantParts s := rfl
@[simp] theorem countOutcome_plantParts (o : Served) (s : State) : plantParts (countOutcome o s) = plantParts s := rfl

/-! ### Handing a pump -/

/-- A ready order waits, names the pump and meets no condition of R53. -/
theorem readyFor_eq_some {s : State} {p : Fin 3} {r : Record} {f : FillRecord} :
    readyFor s p r = some f ↔
      r.body = .fill f ∧ (f.state = .due ∨ f.state = .suspended) ∧ f.pump = p ∧ firstHold s r.number f = none := by
  unfold readyFor
  constructor
  · intro h
    split at h
    · rename_i g hb
      split at h
      · rename_i hg; obtain rfl := Option.some.inj h; exact ⟨hb, hg⟩
      · exact absurd h nofun
    · exact absurd h nofun
  · rintro ⟨hb, hf⟩
    rw [hb]; exact if_pos hf

/-- The winner of a contention is one of the ready orders. -/
theorem contend_mem {s : State} {p : Fin 3} {rs : List Record} {n : Nat} {f : FillRecord} (h : contend s p rs = some (n, f)) :
    ∃ r ∈ rs, r.number = n ∧ readyFor s p r = some f := by
  induction rs generalizing n f with
  | nil => exact absurd h nofun
  | cons r rest ih =>
    have later (h' : contend s p rest = some (n, f)) : ∃ x ∈ r :: rest, x.number = n ∧ readyFor s p x = some f := by
      obtain ⟨x, hx, e⟩ := ih h'; exact ⟨x, List.mem_cons_of_mem _ hx, e⟩
    have first (g : FillRecord) (hr : readyFor s p r = some g) (e : some (r.number, g) = some (n, f)) :
        ∃ x ∈ r :: rest, x.number = n ∧ readyFor s p x = some f := by
      obtain ⟨rfl, rfl⟩ := Prod.mk.inj (Option.some.inj e); exact ⟨r, by simp, rfl, hr⟩
    unfold contend at h
    split at h
    · exact later h
    · rename_i g hr _; exact first g hr h
    · rename_i g w hr hw
      split at h
      · exact later (hw.trans h)
      · exact first g hr h

/-- A pump is handed to a winner when it is idle. -/
theorem firstHanding_eq_some {s : State} {ps : List (Fin 3)} {p : Fin 3} {n : Nat} {f : FillRecord}
    (h : firstHanding s ps = some (p, n, f)) : pumpIdle s p = true ∧ contend s p s.book.records = some (n, f) := by
  induction ps with
  | nil => exact absurd h nofun
  | cons q rest ih =>
    unfold firstHanding at h
    split at h
    · rename_i hq
      split at h
      · rename_i hw
        obtain ⟨rfl, e⟩ := Prod.mk.inj (Option.some.inj h)
        obtain ⟨rfl, rfl⟩ := Prod.mk.inj e
        exact ⟨hq, hw⟩
      · exact ih h
    · exact ih h

/-- Only in NORMAL does no condition of R53 hold an order. -/
theorem firstHold_none_guard {s : State} {n : Nat} {f : FillRecord} (h : firstHold s n f = none) : s.guard.state = .normal := by
  unfold firstHold guardCuts at h
  cases hg : s.guard.state <;> simp [hg] at h ⊢

section
variable {P : State → Prop} (frame : ∀ {s t : State}, P s → plantParts t = plantParts s → P t)
  (stop : ∀ p b s, P s → P (stopCommand p b s))

include frame

theorem bookChanged_of_frame (n : Nat) {s : State} (hs : P s) : P (bookChanged n s) := frame hs (bookChanged_plantParts n s)

include stop

theorem endRun_of_plant (n : Nat) (p : Fin 3) (b : Bool) (c : Option Hold) {s : State} (hs : P s) : P (endRun n p b c s) :=
  frame (stop p b s hs) rfl

theorem serveOn_of_plant (day n : Nat) (o : Served) {s : State} (hs : P s) : P (serveOn day n o s) := by
  unfold serveOn; split
  · rename_i f _
    have ended : P (if inRun f = true then endRun n f.pump false none s else s) := by
      split
      · exact endRun_of_plant frame stop n f.pump false none hs
      · exact hs
    dsimp only
    generalize (if inRun f = true then endRun n f.pump false none s else s) = u at ended
    refine bookChanged_of_frame frame n (frame ended ?_)
    repeat' split
    all_goals simp
  · exact hs

theorem judgeChangedFill_of_plant (n : Nat) {s : State} (hs : P s) : P (judgeChangedFill n s) := by
  unfold judgeChangedFill; dsimp only; repeat' split
  all_goals first
    | exact hs
    | exact serveOn_of_plant frame stop _ n _ hs
    | exact frame hs rfl

theorem judgeApplied_of_plant (n : Nat) (f : FillRecord) {s : State} (hs : P s) : P (judgeApplied n f s) := by
  unfold judgeApplied; split
  · exact judgeChangedFill_of_plant frame stop n hs
  · exact hs

theorem suspendFill_of_plant (n : Nat) (x : Hold) (b : Bool) {s : State} (hs : P s) : P (suspendFill n x b s) := by
  have ended (p : Fin 3) (c : Option Hold) (g : FillRecord) : P (putFill n g (endRun n p false c s)) :=
    frame (endRun_of_plant frame stop n p false c hs) (putFill_plantParts _ _ _)
  unfold suspendFill; dsimp only; repeat' split
  · exact hs
  · exact serveOn_of_plant frame stop _ n _ (frame hs rfl)
  · exact bookChanged_of_frame frame n (judgeApplied_of_plant frame stop n _ (ended _ _ _))
  · exact bookChanged_of_frame frame n (judgeApplied_of_plant frame stop n _ (ended _ _ _))
  · exact bookChanged_of_frame frame n (judgeApplied_of_plant frame stop n _ (ended _ _ _))

theorem newPump_of_plant (n : Nat) (b : Bool) {s : State} (hs : P s) : P (newPump n b s) := by
  unfold newPump; dsimp only; split
  · exact hs
  · exact bookChanged_of_frame frame n (frame (endRun_of_plant frame stop n _ b _ hs) (putFill_plantParts _ _ _))

theorem endStart_of_plant (n : Nat) {s : State} (hs : P s) : P (endStart n s) := by
  unfold endStart; dsimp only; split
  · exact hs
  · exact bookChanged_of_frame frame n (judgeApplied_of_plant frame stop n _ (frame hs rfl))

theorem actOn_of_plant (r : Record) (a : FillAction) {s : State} (hs : P s) : P (actOn r a s) := by
  cases a with
  | serve o => exact serveOn_of_plant frame stop _ _ o hs
  | pumpFault =>
    show P (pumpFailed r.number r.origin s)
    unfold pumpFailed; split
    · exact newPump_of_plant frame stop _ _ hs
    · exact serveOn_of_plant frame stop _ _ _ hs
  | endStart => exact endStart_of_plant frame stop _ hs
  | suspend x => exact suspendFill_of_plant frame stop _ x false hs
  | movePump p =>
    unfold actOn; dsimp only; split
    · exact bookChanged_of_frame frame _ (frame hs rfl)
    · exact hs

theorem takeNoFlow_of_plant (p : Fin 3) {s : State} (hs : P s) : P (takeNoFlow p s) := by
  unfold takeNoFlow; dsimp only; repeat' split
  · exact hs
  · exact newPump_of_plant frame stop _ _ hs
  · exact serveOn_of_plant frame stop _ _ _ (stop p true s hs)
  · exact hs
  · exact hs

/-- The fill controller and the book reach the plant through stop and start commands only. -/
theorem fillLaw_of_plant
    (start : ∀ p c s, stopsPumps s.guard.state = false → P s → P (startCommand p c s)) : FillLaw P where
  serveOn _ n o s _ hs _ _ := serveOn_of_plant frame stop _ n o hs
  suspendFill n h b s _ hs _ _ := suspendFill_of_plant frame stop n h b hs
  act r a s hs _ := actOn_of_plant frame stop r a hs
  handPump p n f s hs e := by
    obtain ⟨-, hw⟩ := firstHanding_eq_some e
    obtain ⟨r, -, -, hr⟩ := contend_mem hw
    obtain ⟨-, -, -, hfree⟩ := readyFor_eq_some.1 hr
    refine start p _ _ ?_ (bookChanged_of_frame frame n (frame hs rfl))
    have guard (u : State) : (bookChanged n u).guard = u.guard := calm_guard (bookChanged_calm n u)
    rw [guard]
    show stopsPumps s.guard.state = false
    rw [firstHold_none_guard hfree]; rfl
  takeNoFlow p s hs := takeNoFlow_of_plant frame stop p hs
  takeRunningConfirmed p s hs := by
    unfold takeRunningConfirmed; dsimp only; repeat' split
    all_goals first
      | exact hs
      | exact bookChanged_of_frame frame _ (frame hs rfl)
  takePumpChanged p s hs := by
    refine frame hs ?_
    unfold takePumpChanged; dsimp only; repeat' split
    all_goals rfl
  takeFlowPulse p s hs := by
    refine frame hs ?_
    unfold takeFlowPulse; dsimp only; repeat' split
    all_goals rfl
  putFill _ _ _ _ hs _ _ := frame hs rfl
  putHeat _ _ _ _ hs _ := frame hs rfl
  mapRecords _ _ hs _ := frame hs rfl
  amendReport n a q s _ hs _ _ := by
    unfold amendReport; repeat' split
    · exact hs
    · exact hs
    · exact bookChanged_of_frame frame n (frame hs rfl)
  removeRecord _ _ hs _ := frame hs rfl
  enterRecord _ _ _ hs _ _ := bookChanged_of_frame frame _ (frame hs rfl)
  placeSystem n t s hs _ := by
    unfold placeSystem; split
    · exact hs
    · exact bookChanged_of_frame frame n (frame hs rfl)
  beginRetiring n f s hs _ _ := bookChanged_of_frame frame n (stop _ _ _ (frame hs rfl))

end

end Sys2Proof.Machine

/-! The guard's stops (R122) and the items of a pump channel (R75): no operation but a start command makes a channel want its pump, and
a start command comes only in NORMAL. -/

namespace Sys2Proof.Machine

open Sys2Proof.Safety

/-- A law that stands while no channel takes a start command, and the guard state, the book, the assignments and the valve stand. -/
theorem plantLaw_of_gentle {P : State → Prop} (frame : ∀ {s t : State}, P s → lawParts t = lawParts s → P t)
    (gentle : ∀ {s t : State}, P s → Gentle s t → P t) (opens : ∀ s, P s → P (openCommand s))
    (limits : ∀ o c s, P s → P (valveLimits o c s)) (travel : ∀ s, P s → P (valveTravelExpiry s)) (entry : ∀ g s, P s → P (enterGuard g s))
    (tick : ∀ n s, P s → P (tickTimers n s)) (reset : ∀ x s, P s → P (resetNow x s)) : PlantLaw P where
  frame := frame
  runWalk s hs := gentle hs (gentle_of_low (runWalk_settling s) (runWalk_low s))
  stopCommand p b s hs := gentle hs (gentle_of_low (stopCommand_settling p b s) (stopCommand_low p b s))
  enterGuard := entry
  judgeCircuit c s hs := gentle hs (judgeCircuit_gentle c s)
  circuitTimerExpiry c s hs := gentle hs (circuitTimerExpiry_gentle c s)
  roleGone c s hs := gentle hs (roleGone_gentle c s)
  faultCleared _ _ _ hs := gentle hs (gentle_of_eq rfl rfl rfl rfl rfl)
  pumpDwellExpiry p s hs := gentle hs (pumpDwellExpiry_gentle p s)
  pumpConfirmExpiry p s hs := gentle hs (pumpConfirmExpiry_gentle p s)
  pumpFeedbackCloses p s hs := gentle hs (pumpFeedbackCloses_gentle p s)
  pumpFeedbackOpens p s hs := gentle hs (pumpFeedbackOpens_gentle p s)
  pumpOverloadTrip p s hs := gentle hs (pumpOverloadTrip_gentle p s)
  pumpStopExpiry p s hs := gentle hs (pumpStopExpiry_gentle p s)
  pumpLockoutExpiry p s hs := gentle hs (pumpLockoutExpiry_gentle p s)
  serviceOut _ _ _ hs h := gentle hs (serviceOut_gentle h)
  serviceReturn _ _ _ hs h := gentle hs (serviceReturn_gentle h)
  openCommand := opens
  valveLimits := limits
  valveTravelExpiry := travel
  tickTimers := tick
  resetNow := reset

/-- A law that does not speak of the valve. -/
theorem plantLaw_of_mild {P : State → Prop} (frame : ∀ {s t : State}, P s → lawParts t = lawParts s → P t)
    (mild : ∀ {s t : State}, P s → Mild s t → P t) (entry : ∀ g s, P s → P (enterGuard g s))
    (tick : ∀ n s, P s → P (tickTimers n s)) (reset : ∀ x s, P s → P (resetNow x s)) : PlantLaw P :=
  plantLaw_of_gentle frame (fun hs h => mild hs h.toMild) (fun s hs => mild hs (openCommand_mild s))
    (fun o c s hs => mild hs (valveLimits_mild o c s)) (fun s hs => mild hs (valveTravelExpiry_mild s)) entry tick reset

/-! ### Timers and reset -/

@[simp] theorem tickTimers_pump (n : Nat) (s : State) (p : Fin 3) :
    (tickTimers n s).pumps.get p = tickPump n (s.pumps.get p) := trio_get_map _ _ _

/-- What reset leaves besides the flags, the tally and the announcements is what its blocks leave. -/
theorem resetNow_lawParts (x : Pins) (s : State) : lawParts (resetNow x s) = lawParts (resetBlocks x s) := by
  have judged (t : State) : lawParts (judgeAllowance t) = lawParts t := by unfold judgeAllowance; split <;> rfl
  have flagged (b : Bool) (t : State) : lawParts (resetEvents b x t) = lawParts t := by
    unfold resetEvents; dsimp only; repeat' split
    all_goals rfl
  exact (judged _).trans (flagged _ _)

theorem resetBlocks_pump (x : Pins) (s : State) (p : Fin 3) :
    (resetBlocks x s).pumps.get p = pumpAtReset (loadedGuardSet s.store) (x.feedback.get p) (x.overload.get p) := by
  fin_cases p <;> rfl

/-! ### Start commands -/

theorem claimPump_settling (p : Fin 3) (c : ClaimClass) (s : State) : Settling s (claimPump p c s) :=
  placeClaim_settling (.pump p) _ c s

/-- A start command keeps the items of every channel and the rest of the others. -/
theorem startCommand_fits (p : Fin 3) (c : ClaimClass) {s : State} (k : Fin 3) :
    (PumpItemsFit (s.pumps.get k) → PumpItemsFit ((startCommand p c s).pumps.get k)) ∧
      (RestFits (s.pumps.get k) → RestFits ((startCommand p c s).pumps.get k)) := by
  have put (q : Pump) (h : (PumpItemsFit (s.pumps.get p) → PumpItemsFit q) ∧ (RestFits (s.pumps.get p) → RestFits q)) :
      (PumpItemsFit (s.pumps.get k) → PumpItemsFit ((setPump p q s).pumps.get k)) ∧
        (RestFits (s.pumps.get k) → RestFits ((setPump p q s).pumps.get k)) := by
    by_cases hk : k = p
    · subst hk; simpa using h
    · rw [setPump_pumps, trio_get_set_other _ _ _ _ hk]; exact ⟨id, id⟩
  unfold startCommand; dsimp only; split
  · rename_i hq
    have claiming := put { s.pumps.get p with state := .claiming, pendingStart := some c }
      (by simp +contextual [PumpItemsFit, RestFits, hq])
    have placed := claimPump_settling p c
      (emit (.pumpChanged p) (setPump p { s.pumps.get p with state := .claiming, pendingStart := some c } s)) k
    exact ⟨fun h => placed.1 (claiming.1 h), fun h => placed.2.2 (claiming.2 h)⟩
  · rename_i hq
    exact put _ (by simp +contextual [PumpItemsFit, RestFits, hq])
  · exact ⟨id, id⟩

/-! ### The items of a channel -/

theorem pumpsFit_congr {s t : State} (hp : t.pumps = s.pumps) (h : PumpsFit s) : PumpsFit t := by
  unfold PumpsFit; rw [hp]; exact h

theorem pumpsFit_stepLaw : StepLaw PumpsFit where
  toPlantLaw := by
    refine plantLaw_of_mild (fun hs e => pumpsFit_congr (congrArg LawParts.pumps e) hs) (fun hs h p => (h.pumps p).1 (hs p))
      (fun g s hs p => ((enterGuard_settling g s).1 p).1 (hs p)) (fun n s hs p => ?_) (fun x s _ p => ?_)
    · have fits := hs p
      rw [tickTimers_pump]
      simpa [PumpItemsFit, tickPump, tickTimer] using fits
    · rw [show (resetNow x s).pumps = _ from congrArg LawParts.pumps (resetNow_lawParts x s)]
      show PumpItemsFit ((resetBlocks x s).pumps.get p)
      rw [resetBlocks_pump]
      unfold PumpItemsFit pumpAtReset
      cases x.feedback.get p <;> cases x.overload.get p <;> simp
  toFillLaw := fillLaw_of_plant
    (fun hs e => pumpsFit_congr (congrArg PlantParts.pumps e) hs)
    (fun p b s hs k => (stopCommand_settling p b s k).1 (hs k)) (fun p c s _ hs k => (startCommand_fits p c k).1 (hs k))

/-! ### The guard's stops -/

theorem guardStopsPumps_iff (s : State) :
    GuardStopsPumps s ↔
      ∀ p : Fin 3, (stopsPumps s.guard.state = true → ¬ Wants (s.pumps.get p)) ∧ RestFits (s.pumps.get p) := by
  unfold GuardStopsPumps RestFits Wants
  simp only [not_or, Bool.not_eq_true, Option.isSome_eq_false_iff, Option.isNone_iff_eq_none]

theorem guardStopsPumps_congr {s t : State} (hg : t.guard.state = s.guard.state) (hp : t.pumps = s.pumps)
    (h : GuardStopsPumps s) : GuardStopsPumps t := by
  unfold GuardStopsPumps; rw [hg, hp]; exact h

theorem guardStopsPumps_of_settling {s t : State} (hg : t.guard.state = s.guard.state) (hp : Settling s t)
    (h : GuardStopsPumps s) : GuardStopsPumps t := by
  rw [guardStopsPumps_iff] at h ⊢
  intro p
  obtain ⟨stops, rest⟩ := h p
  exact ⟨fun hstop hw => stops (hg ▸ hstop) ((hp p).2.1 hw), (hp p).2.2 rest⟩

/-- A channel that has taken its stop no longer wants its pump (R85). -/
theorem stoppedNow_not_wants {s : State} {p : Fin 3} (h : RestFits (s.pumps.get p)) : ¬ Wants (stoppedNow s p) := by
  unfold stoppedNow
  cases hq : (s.pumps.get p).state <;> cases s.inputs.feedback.get p <;>
    simp_all [Wants, pumpsFluid, RestFits]

theorem closeCommand_pumps (s : State) : (closeCommand s).pumps = s.pumps := by
  have limits (t : State) : (judgeLimits t).pumps = t.pumps := by unfold judgeLimits; split <;> rfl
  unfold closeCommand driveClose; split
  all_goals first
    | rfl
    | exact limits _

/-- At an entry of a state that stops the pumps, every channel takes its stop (R122). -/
theorem enterGuard_pumps {g : GuardState} {s : State} (hg : g ≠ s.guard.state) (hstop : stopsPumps g = true) (p : Fin 3) :
    (enterGuard g s).pumps.get p = stoppedNow s p := by
  have stopped (t : State) (hp : t.pumps = s.pumps) (hi : t.inputs = s.inputs) (hgs : t.gs = s.gs) :
      (stopAllPumps t).pumps.get p = stoppedNow s p := by
    rw [stopAllPumps_pump]; unfold stoppedNow; rw [hp, hi, hgs]
  have flagged : ∀ e, (match (e : Option EventFlag) with
      | some e => setEvent e { s with guard := { s.guard with state := g } }
      | none => { s with guard := { s.guard with state := g } }).pumps = s.pumps := by rintro (_ | e) <;> rfl
  have shown : ∀ e, (match (e : Option EventFlag) with
      | some e => setEvent e { s with guard := { s.guard with state := g } }
      | none => { s with guard := { s.guard with state := g } }).inputs = s.inputs := by rintro (_ | e) <;> rfl
  have values : ∀ e, (match (e : Option EventFlag) with
      | some e => setEvent e { s with guard := { s.guard with state := g } }
      | none => { s with guard := { s.guard with state := g } }).gs = s.gs := by rintro (_ | e) <;> rfl
  unfold enterGuard; rw [if_neg hg]; dsimp only; rw [if_pos hstop]
  show (ite _ _ _ : State).pumps.get p = _
  split
  · rw [closeCommand_pumps]; exact stopped _ (flagged _) (shown _) (values _)
  · exact stopped _ (flagged _) (shown _) (values _)

theorem enterGuard_guardStops (g : GuardState) {s : State} (h : GuardStopsPumps s) : GuardStopsPumps (enterGuard g s) := by
  by_cases hg : g = s.guard.state
  · unfold enterGuard; rw [if_pos hg]; exact h
  rw [guardStopsPumps_iff] at h ⊢
  intro p
  obtain ⟨-, rest⟩ := h p
  refine ⟨fun hstop => ?_, ((enterGuard_settling g s).1 p).2.2 rest⟩
  rw [enterGuard_guard] at hstop
  rw [enterGuard_pumps hg hstop]
  exact stoppedNow_not_wants rest

theorem guardStopsPumps_stepLaw : StepLaw GuardStopsPumps where
  toPlantLaw := by
    refine plantLaw_of_mild (fun hs e => ?_) (fun hs h => guardStopsPumps_of_settling h.guard h.pumps hs)
      (fun g s hs => enterGuard_guardStops g hs) (fun n s hs p => ?_) (fun x s _ p => ?_)
    · exact guardStopsPumps_congr (congrArg LawParts.guard e) (congrArg LawParts.pumps e) hs
    · rw [tickTimers_pump]; exact hs p
    · rw [show (resetNow x s).pumps = _ from congrArg LawParts.pumps (resetNow_lawParts x s)]
      show (_ → pumpsFluid ((resetBlocks x s).pumps.get p).state = false ∧ ((resetBlocks x s).pumps.get p).pendingStart = none) ∧
        (_ → ((resetBlocks x s).pumps.get p).pendingStart = none)
      rw [resetBlocks_pump]
      refine ⟨fun _ => ⟨?_, rfl⟩, fun _ => rfl⟩
      unfold pumpAtReset; dsimp only; split <;> rfl
  toFillLaw := fillLaw_of_plant
    (fun hs e => guardStopsPumps_congr (congrArg PlantParts.guard e) (congrArg PlantParts.pumps e) hs)
    (fun p b s hs => guardStopsPumps_of_settling (congrArg Guard.state (calm_guard (stopCommand_calm p b s)))
      (stopCommand_settling p b s) hs)
    (fun p c s hfree hs => by
      have guard : (startCommand p c s).guard = s.guard := calm_guard (startCommand_calm p c s)
      rw [guardStopsPumps_iff] at hs ⊢
      intro k
      rw [guard]
      exact ⟨fun hstop => absurd (hfree.symm.trans hstop) nofun, (startCommand_fits p c k).2 (hs k).2⟩)

/-- Settles O56: only a start command makes a channel want its pump, one comes only in NORMAL, and an entry of a stopping state has every
channel take its stop. -/
theorem guardKeepsPumpsStopped : Obligations.GuardKeepsPumpsStopped :=
  keptByStep_of_stepLaw guardStopsPumps_stepLaw

end Sys2Proof.Machine

/-! The order book's law (R1): numbers rise, external ones lie in 1 to 239 and are at most 30, the system places hold 240 and 241. A
change of a record keeps its number and its origin; a record leaves; one enters under a number that the allocator found free. -/

namespace Sys2Proof.Machine

open Sys2Proof.Safety

/-! ### The numbers and origins of a book -/

/-- The law of a list of records and of the allocator. -/
def RecordsFit (rs : List Record) (last : Nat) : Prop :=
  ascending (rs.map (·.number)) ∧ (∀ r ∈ rs, r.origin ≠ .system → 1 ≤ r.number ∧ r.number ≤ 239) ∧
    (∀ r ∈ rs, r.origin = .system → r.number = 240 ∨ r.number = 241) ∧
    (rs.filter (fun r => r.origin ≠ .system)).length ≤ 30 ∧ last ≤ 239

theorem bookFits_iff (s : State) : BookFits s ↔ RecordsFit s.book.records s.book.lastAssigned := Iff.rfl

theorem bookFits_congr {s t : State} (hr : t.book.records = s.book.records) (hl : t.book.lastAssigned = s.book.lastAssigned)
    (h : BookFits s) : BookFits t := by
  rw [bookFits_iff] at h ⊢; rw [hr, hl]; exact h

/-- A change of records that keeps each one's number and origin keeps the law. -/
theorem recordsFit_map {rs : List Record} {last : Nat} {g : Record → Record}
    (hg : ∀ r ∈ rs, (g r).number = r.number ∧ (g r).origin = r.origin) (h : RecordsFit rs last) :
    RecordsFit (rs.map g) last := by
  obtain ⟨hasc, hext, hsys, hcount, hlast⟩ := h
  refine ⟨?_, ?_, ?_, ?_, hlast⟩
  · have same : (rs.map g).map (·.number) = rs.map (·.number) := by
      rw [List.map_map]; exact List.map_congr_left fun r hr => (hg r hr).1
    rw [same]; exact hasc
  · intro r hr ho
    obtain ⟨x, hx, rfl⟩ := List.mem_map.1 hr
    rw [(hg x hx).1]; rw [(hg x hx).2] at ho; exact hext x hx ho
  · intro r hr ho
    obtain ⟨x, hx, rfl⟩ := List.mem_map.1 hr
    rw [(hg x hx).1]; rw [(hg x hx).2] at ho; exact hsys x hx ho
  · rw [List.filter_map, List.length_map]
    rwa [List.filter_congr (q := fun r => r.origin ≠ .system)]
    intro r hr
    simp [(hg r hr).2]

/-- Records that leave take nothing from the law. -/
theorem recordsFit_filter {rs : List Record} {last : Nat} (keep : Record → Bool) (h : RecordsFit rs last) :
    RecordsFit (rs.filter keep) last := by
  obtain ⟨hasc, hext, hsys, hcount, hlast⟩ := h
  have sub : List.Sublist (rs.filter keep) rs := List.filter_sublist
  exact ⟨hasc.sublist (sub.map _), fun r hr => hext r (sub.subset hr), fun r hr => hsys r (sub.subset hr),
    ((sub.filter _).length_le).trans hcount, hlast⟩

theorem recordsFit_last {rs : List Record} {last last' : Nat} (hl : last' ≤ 239) (h : RecordsFit rs last) :
    RecordsFit rs last' := ⟨h.1, h.2.1, h.2.2.1, h.2.2.2.1, hl⟩

theorem mem_insertRecord {r x : Record} {rs : List Record} : x ∈ insertRecord r rs ↔ x = r ∨ x ∈ rs := by
  induction rs with
  | nil => simp [insertRecord]
  | cons y rest ih =>
    unfold insertRecord; split
    · simp
    · simp only [List.mem_cons, ih]; tauto

/-- A record entered at its place keeps the numbers rising when its own is free. -/
theorem insertRecord_ascending {r : Record} {rs : List Record} (hasc : ascending (rs.map (·.number)))
    (hfree : ∀ x ∈ rs, x.number ≠ r.number) : ascending ((insertRecord r rs).map (·.number)) := by
  unfold ascending at *
  rw [List.pairwise_map] at *
  induction rs with
  | nil => simp [insertRecord]
  | cons y rest ih =>
    obtain ⟨hy, hrest⟩ := List.pairwise_cons.1 hasc
    unfold insertRecord; split
    · rename_i hlt
      refine List.pairwise_cons.2 ⟨fun x hx => ?_, hasc⟩
      rcases List.mem_cons.1 hx with rfl | hx
      · exact hlt
      · exact hlt.trans (hy x hx)
    · rename_i hge
      refine List.pairwise_cons.2 ⟨fun x hx => ?_, ih hrest (fun x hx => hfree x (List.mem_cons_of_mem _ hx))⟩
      rcases mem_insertRecord.1 hx with rfl | hx
      · have := hfree y List.mem_cons_self; omega
      · exact hy x hx

theorem filter_insertRecord_length (keep : Record → Bool) (r : Record) (rs : List Record) :
    ((insertRecord r rs).filter keep).length = (rs.filter keep).length + if keep r then 1 else 0 := by
  induction rs with
  | nil => simp only [insertRecord]; cases hk : keep r <;> simp [hk]
  | cons y rest ih =>
    unfold insertRecord; split
    · cases hk : keep r <;> simp [List.filter_cons, hk]
    · cases hy : keep y
      · simpa [hy] using ih
      · simp [hy, ih]; omega

/-- A record enters the book under a free number that its origin allows, with room for an external one. -/
theorem recordsFit_insert {r : Record} {rs : List Record} {last : Nat} (hfree : ∀ x ∈ rs, x.number ≠ r.number)
    (hext : r.origin ≠ .system → 1 ≤ r.number ∧ r.number ≤ 239 ∧ (rs.filter (fun r => r.origin ≠ .system)).length < 30)
    (hsys : r.origin = .system → r.number = 240 ∨ r.number = 241) (h : RecordsFit rs last) :
    RecordsFit (insertRecord r rs) last := by
  refine ⟨insertRecord_ascending h.1 hfree, ?_, ?_, ?_, h.2.2.2.2⟩
  · intro x hx ho
    rcases mem_insertRecord.1 hx with rfl | hx
    · exact ⟨(hext ho).1, (hext ho).2.1⟩
    · exact h.2.1 x hx ho
  · intro x hx ho
    rcases mem_insertRecord.1 hx with rfl | hx
    · exact hsys ho
    · exact h.2.2.1 x hx ho
  · rw [filter_insertRecord_length]
    have hcount := h.2.2.2.1
    by_cases ho : r.origin = .system
    · simpa [ho] using hcount
    · have := (hext ho).2.2
      simp only [ne_eq, decide_not] at this ⊢
      simp [ho]; omega

/-! ### The allocator -/

theorem isLive_eq_false {n : Nat} {s : State} : isLive n s = false ↔ ∀ x ∈ s.book.records, x.number ≠ n := by
  simp [isLive, findRecord]

/-- With fewer than 31 external orders some number of 1 to 239 is free. -/
theorem exists_free {s : State} (h : BookFits s) (hroom : ¬ 30 ≤ externalCount s) :
    ∃ n ∈ (List.range 240).drop 1, isLive n s = false := by
  by_contra hnone
  push Not at hnone
  obtain ⟨hasc, hext, hsys, -, -⟩ := (bookFits_iff s).1 h
  have sub : (List.range 240).drop 1 ⊆ (s.book.records.filter (fun r => r.origin ≠ .system)).map (·.number) := by
    intro n hn
    have live := hnone n hn
    rw [Bool.ne_false_iff] at live
    simp only [isLive, findRecord, List.find?_isSome, decide_eq_true_eq] at live
    obtain ⟨r, hr, rfl⟩ := live
    refine List.mem_map.2 ⟨r, List.mem_filter.2 ⟨hr, ?_⟩, rfl⟩
    have bound : r.number < 240 := List.mem_range.1 (List.drop_subset _ _ hn)
    simp only [ne_eq, decide_not, Bool.not_eq_eq_eq_not, Bool.not_true, decide_eq_false_iff_not]
    intro ho
    have := hsys r hr ho
    omega
  have nodup : ((List.range 240).drop 1).Nodup := List.nodup_range.sublist (List.drop_sublist _ _)
  have count := (List.subperm_of_subset nodup sub).length_le
  rw [List.length_map, List.length_drop, List.length_range] at count
  unfold externalCount at hroom
  omega

/-- The allocator gives a free number of 1 to 239 while the book has room (R2). -/
theorem allocate_free {s : State} (h : BookFits s) (hroom : ¬ 30 ≤ externalCount s) :
    1 ≤ allocate s ∧ allocate s ≤ 239 ∧ isLive (allocate s) s = false := by
  have drop_spec : ∀ n ∈ (List.range 240).drop 1, 1 ≤ n ∧ n ≤ 239 := by
    intro n hn
    obtain ⟨k, hk, rfl⟩ := List.mem_iff_getElem.1 hn
    rw [List.length_drop, List.length_range] at hk
    rw [List.getElem_drop, List.getElem_range]
    omega
  have found : ∀ l : List Nat, (∀ n ∈ l, 1 ≤ n ∧ n ≤ 239) → ∀ n, l.find? (fun n => !isLive n s) = some n →
      1 ≤ n ∧ n ≤ 239 ∧ isLive n s = false := by
    intro l hl n hn
    have bound := hl n (List.mem_of_find?_eq_some hn)
    exact ⟨bound.1, bound.2, by simpa using List.find?_some hn⟩
  unfold allocate; dsimp only
  cases habove : ((List.range 240).filter (fun n => s.book.lastAssigned < n)).find? (fun n => !isLive n s) with
  | some n =>
    refine found _ (fun k hk => ?_) n habove
    obtain ⟨hk, hlast⟩ := List.mem_filter.1 hk
    have := List.mem_range.1 hk
    have : s.book.lastAssigned < k := by simpa using hlast
    omega
  | none =>
    cases hany : ((List.range 240).drop 1).find? (fun n => !isLive n s) with
    | some n => exact found _ drop_spec n hany
    | none =>
      obtain ⟨n, hn, hfree⟩ := exists_free h hroom
      have := List.find?_eq_none.1 hany n hn
      simp [hfree] at this

end Sys2Proof.Machine

/-! Every operation of the fill controller and the book keeps the order book's law. -/

namespace Sys2Proof.Machine

open Sys2Proof.Safety

/-! ### What each operation does to the records -/

/-- The law of the book is kept where the records and the allocator stand. -/
theorem bookFits_of_book {s t : State} (hb : t.book = s.book) (h : BookFits s) : BookFits t :=
  bookFits_congr (by rw [hb]) (by rw [hb]) h

theorem setRecords_map_fits {s : State} {g : Record → Record}
    (hg : ∀ r ∈ s.book.records, (g r).number = r.number ∧ (g r).origin = r.origin) (h : BookFits s) :
    BookFits (setRecords (s.book.records.map g) s) := recordsFit_map hg h

theorem mapRecord_fits (n : Nat) {g : Record → Record} {s : State}
    (hg : ∀ r, (g r).number = r.number ∧ (g r).origin = r.origin) (h : BookFits s) :
    BookFits (setRecords (mapRecord n g s.book.records) s) := by
  refine setRecords_map_fits (fun r _ => ?_) h
  split
  · exact hg r
  · exact ⟨rfl, rfl⟩

theorem putFill_fits (n : Nat) (f : FillRecord) {s : State} (h : BookFits s) : BookFits (putFill n f s) :=
  mapRecord_fits n (g := fun r => { r with body := .fill f }) (fun _ => ⟨rfl, rfl⟩) h

theorem putHeat_fits (n : Nat) (q : HeatRecord) {s : State} (h : BookFits s) : BookFits (putHeat n q s) :=
  mapRecord_fits n (g := fun r => { r with body := .heat q }) (fun _ => ⟨rfl, rfl⟩) h

theorem removeRecord_fits (n : Nat) {s : State} (h : BookFits s) : BookFits (removeRecord n s) :=
  recordsFit_filter (fun r => r.number ≠ n) h

theorem bookChanged_fits (n : Nat) {s : State} (h : BookFits s) : BookFits (bookChanged n s) :=
  bookFits_of_book (bookChanged_book n s) h

theorem countOutcome_fits (o : Served) {s : State} (h : BookFits s) : BookFits (countOutcome o s) := h

theorem stopCommand_book (p : Fin 3) (b : Bool) (s : State) : (stopCommand p b s).book = s.book := low_book (stopCommand_low p b s)

/-- The end of a run leaves the book (R49). -/
theorem endRun_book (n : Nat) (p : Fin 3) (b : Bool) (c : Option Hold) (s : State) : (endRun n p b c s).book = s.book :=
  stopCommand_book p b s

theorem startCommand_book (p : Fin 3) (c : ClaimClass) (s : State) : (startCommand p c s).book = s.book :=
  low_book (startCommand_low p c s)

/-! ### Services, suspensions and moves -/

theorem serveOn_fits (day n : Nat) (o : Served) {s : State} (h : BookFits s) : BookFits (serveOn day n o s) := by
  unfold serveOn; split
  · rename_i f _
    have ended : BookFits (if inRun f = true then endRun n f.pump false none s else s) := by
      split
      · exact bookFits_of_book (endRun_book _ _ _ _ s) h
      · exact h
    dsimp only
    generalize (if inRun f = true then endRun n f.pump false none s else s) = u at ended
    refine bookChanged_fits n ?_
    have put (g : FillRecord) : BookFits (putFill n g u) := putFill_fits n g ended
    repeat' split
    all_goals first
      | exact removeRecord_fits n (put _)
      | exact put _
  · exact h

theorem judgeChangedFill_fits (n : Nat) {s : State} (h : BookFits s) : BookFits (judgeChangedFill n s) := by
  unfold judgeChangedFill; dsimp only; repeat' split
  all_goals first
    | exact h
    | exact serveOn_fits _ n _ h
    | exact putFill_fits n _ h

theorem judgeApplied_fits (n : Nat) (f : FillRecord) {s : State} (h : BookFits s) : BookFits (judgeApplied n f s) := by
  unfold judgeApplied; split
  · exact judgeChangedFill_fits n h
  · exact h

theorem suspendFill_fits (n : Nat) (x : Hold) (b : Bool) {s : State} (h : BookFits s) : BookFits (suspendFill n x b s) := by
  have ended (p : Fin 3) (c : Option Hold) (g : FillRecord) : BookFits (putFill n g (endRun n p false c s)) :=
    putFill_fits n g (bookFits_of_book (endRun_book n p false c s) h)
  unfold suspendFill; dsimp only; repeat' split
  · exact h
  · exact serveOn_fits _ n _ (putFill_fits n _ h)
  · exact bookChanged_fits n (judgeApplied_fits n _ (ended _ _ _))
  · exact bookChanged_fits n (judgeApplied_fits n _ (ended _ _ _))
  · exact bookChanged_fits n (judgeApplied_fits n _ (ended _ _ _))

theorem newPump_fits (n : Nat) (b : Bool) {s : State} (h : BookFits s) : BookFits (newPump n b s) := by
  unfold newPump; dsimp only; split
  · exact h
  · exact bookChanged_fits n (putFill_fits n _ (bookFits_of_book (endRun_book n _ b _ s) h))

theorem endStart_fits (n : Nat) {s : State} (h : BookFits s) : BookFits (endStart n s) := by
  unfold endStart; dsimp only; split
  · exact h
  · exact bookChanged_fits n (judgeApplied_fits n _ (putFill_fits n _ (bookFits_of_book rfl h)))

theorem actOn_fits (r : Record) (a : FillAction) {s : State} (h : BookFits s) : BookFits (actOn r a s) := by
  cases a with
  | serve o => exact serveOn_fits _ _ o h
  | pumpFault =>
    show BookFits (pumpFailed r.number r.origin s)
    unfold pumpFailed; split
    · exact newPump_fits _ _ h
    · exact serveOn_fits _ _ _ h
  | endStart => exact endStart_fits _ h
  | suspend x => exact suspendFill_fits _ x false h
  | movePump p =>
    unfold actOn; dsimp only; split
    · exact bookChanged_fits _ (putFill_fits _ _ h)
    · exact h

theorem takeNoFlow_fits (p : Fin 3) {s : State} (h : BookFits s) : BookFits (takeNoFlow p s) := by
  unfold takeNoFlow; dsimp only; repeat' split
  · exact h
  · exact newPump_fits _ _ h
  · exact serveOn_fits _ _ _ (bookFits_of_book (stopCommand_book p true s) h)
  · exact h
  · exact h

/-! ### Orders placed -/

theorem originOf_ne_system (port : Port) : originOf port ≠ .system := by cases port <;> nofun

/-- PLACE enters an external record under the allocator's number while there is room (R1, R2). -/
theorem enterRecord_fits (port : Port) (b : Body) {s : State} (h : BookFits s) (hroom : ¬ 30 ≤ externalCount s) :
    BookFits (enterRecord (allocate s) port b s) := by
  obtain ⟨hlow, hhigh, hfree⟩ := allocate_free h hroom
  unfold enterRecord; dsimp only
  refine bookChanged_fits _ ?_
  refine recordsFit_last (last := s.book.lastAssigned) hhigh (recordsFit_insert ?_ (fun _ => ⟨hlow, hhigh, ?_⟩) ?_ h)
  · exact isLive_eq_false.1 hfree
  · unfold externalCount at hroom; omega
  · exact fun ho => absurd ho (originOf_ne_system port)

theorem placeSystem_fits {n : Nat} (t : Nat) (hn : n = 240 ∨ n = 241) {s : State} (h : BookFits s) :
    BookFits (placeSystem n t s) := by
  unfold placeSystem; split
  · exact h
  · rename_i hlive
    have hfree : isLive n s = false := by simpa using hlive
    refine bookChanged_fits n (recordsFit_insert ?_ ?_ (fun _ => hn) h)
    · exact isLive_eq_false.1 hfree
    · exact fun ho => absurd rfl ho

/-- The book's operations keep its law. -/
theorem bookFits_fillLaw : FillLaw BookFits where
  serveOn day n o _ _ h _ _ := serveOn_fits day n o h
  suspendFill n x b _ _ h _ _ := suspendFill_fits n x b h
  act r a _ h _ := actOn_fits r a h
  handPump p n f s h _ := by
    refine bookFits_of_book (startCommand_book p _ _) (bookChanged_fits n ?_)
    exact putFill_fits n { f with state := .starting, hold := some .supply } h
  takeNoFlow p _ h := takeNoFlow_fits p h
  takeRunningConfirmed p s h := by
    unfold takeRunningConfirmed; dsimp only; repeat' split
    all_goals first
      | exact h
      | exact bookChanged_fits _ (bookFits_of_book (s := putFill _ _ s) rfl (putFill_fits _ _ h))
  takePumpChanged p s h := by
    unfold takePumpChanged; dsimp only; repeat' split
    all_goals first
      | exact bookFits_of_book (s := removeRecord _ (setAssign _ _ s)) rfl (removeRecord_fits _ (bookFits_of_book rfl h))
      | exact bookFits_of_book (s := removeRecord _ s) rfl (removeRecord_fits _ h)
      | exact bookFits_of_book (s := s) rfl h
  takeFlowPulse p s h := by
    unfold takeFlowPulse; dsimp only; repeat' split
    all_goals first
      | exact h
      | exact bookFits_of_book (s := putFill _ _ s) rfl (putFill_fits _ _ h)
  putFill n _ g _ h _ _ := putFill_fits n g h
  putHeat n _ g _ h _ := putHeat_fits n g h
  mapRecords g s h hg := setRecords_map_fits (fun r _ => ⟨(hg r).1, (hg r).2.1⟩) h
  amendReport n a q s _ h _ _ := by
    have bumped : BookFits (bumpRevision n s) :=
      mapRecord_fits n (g := fun r => { r with revision := (r.revision + 1) % 256 }) (fun _ => ⟨rfl, rfl⟩) h
    unfold amendReport; repeat' split
    · exact h
    · exact h
    · rename_i r _ _
      exact bookChanged_fits n (mapRecord_fits n (g := fun x => { x with body := .report r }) (fun _ => ⟨rfl, rfl⟩) bumped)
  removeRecord n _ h _ := removeRecord_fits n h
  enterRecord port b _ h hroom _ := enterRecord_fits port b h hroom
  placeSystem _ t _ h hn := placeSystem_fits t hn h
  beginRetiring n f s h _ _ := by
    refine bookChanged_fits n (bookFits_of_book (stopCommand_book _ _ _) ?_)
    exact putFill_fits n { f with state := .retiring, hold := none, staged := none } h

theorem bookFits_resetNow (x : Pins) (s : State) : BookFits (resetNow x s) := by
  refine bookFits_congr (s := resetBlocks x s) (congrArg LawParts.records (resetNow_lawParts x s))
    (congrArg LawParts.lastAssigned (resetNow_lawParts x s)) ?_
  show RecordsFit [] 0
  simp [RecordsFit, ascending]

theorem bookFits_stepLaw : StepLaw BookFits where
  toPlantLaw := plantLaw_of_mild
    (fun hs e => bookFits_congr (congrArg LawParts.records e) (congrArg LawParts.lastAssigned e) hs)
    (fun hs h => bookFits_of_book h.book hs) (fun g s hs => bookFits_of_book (enterGuard_settling g s).2.1 hs)
    (fun _ _ hs => hs) (fun x s _ => bookFits_resetNow x s)
  toFillLaw := bookFits_fillLaw

/-- Settles O57: records keep their numbers and origins, leave, or enter under a number the allocator found free. -/
theorem bookKept : Obligations.BookKept := keptByStep_of_stepLaw bookFits_stepLaw

end Sys2Proof.Machine

/-! The inlet valve's law (R92, R94): its travel timer runs exactly while it travels, and a fault direction stands only in FAULT. -/

namespace Sys2Proof.Machine

open Sys2Proof.Safety

theorem valveFits_congr {s t : State} (hv : t.valve = s.valve) (h : ValveFits s) : ValveFits t := by
  unfold ValveFits; rw [hv]; exact h

theorem faultValve_valveFits (d : Direction) (s : State) : ValveFits (faultValve d s) := by
  simp [ValveFits, faultValve, changeValve, setEvent, emit]

theorem judgeLimits_valveFits {s : State} (h : ValveFits s) : ValveFits (judgeLimits s) := by
  unfold judgeLimits; split
  · exact faultValve_valveFits _ s
  · exact h

theorem driveOpen_valveFits (s : State) : ValveFits (driveOpen s) :=
  judgeLimits_valveFits (by simp [ValveFits, changeValve, emit])

theorem driveClose_valveFits (s : State) : ValveFits (driveClose s) :=
  judgeLimits_valveFits (by simp [ValveFits, changeValve, emit])

theorem openCommand_valveFits {s : State} (h : ValveFits s) : ValveFits (openCommand s) := by
  unfold openCommand; split
  all_goals first
    | exact driveOpen_valveFits s
    | exact h

theorem closeCommand_valveFits {s : State} (h : ValveFits s) : ValveFits (closeCommand s) := by
  unfold closeCommand; split
  all_goals first
    | exact driveClose_valveFits s
    | exact h

/-- A valve out of FAULT comes to rest. -/
theorem restValve_valveFits {x : ValveState} {s : State} (hx : x = .closed ∨ x = .isOpen) (hs : s.valve.state ≠ .fault)
    (h : ValveFits s) : ValveFits (restValve x s) := by
  have noDirection : s.valve.faultDirection.isSome = false := by
    rw [Bool.eq_false_iff]; exact fun e => hs (h.2 e)
  rcases hx with rfl | rfl <;> simp [ValveFits, restValve, changeValve, emit, noDirection]

theorem valveLimits_valveFits (o c : Bool) {s : State} (h : ValveFits s) : ValveFits (valveLimits o c s) := by
  have shown : ValveFits { s with inputs := { s.inputs with openLimit := o, closedLimit := c } } := h
  have rest (x : ValveState) (hx : x = .closed ∨ x = .isOpen) (hs : s.valve.state ≠ .fault) :=
    restValve_valveFits hx (s := { s with inputs := { s.inputs with openLimit := o, closedLimit := c } }) hs shown
  unfold valveLimits; dsimp only
  split
  · exact judgeLimits_valveFits shown
  split
  · rename_i e
    split
    · exact rest _ (.inl rfl) (by rw [e]; nofun)
    · exact shown
  · rename_i e
    split
    · exact rest _ (.inr rfl) (by rw [e]; nofun)
    · exact shown
  · split
    · exact driveOpen_valveFits _
    · exact shown
  · split
    · exact driveClose_valveFits _
    · exact shown
  · exact shown

theorem valveTravelExpiry_valveFits {s : State} (h : ValveFits s) : ValveFits (valveTravelExpiry s) := by
  unfold valveTravelExpiry; repeat' split
  · exact h
  · exact faultValve_valveFits _ s
  · exact faultValve_valveFits _ s
  · exact h

/-- An entry of the guard closes the valve or leaves it. -/
theorem enterGuard_valveFits (g : GuardState) {s : State} (h : ValveFits s) : ValveFits (enterGuard g s) := by
  have flagged : ∀ e, ValveFits (match (e : Option EventFlag) with
      | some e => setEvent e { s with guard := { s.guard with state := g } }
      | none => { s with guard := { s.guard with state := g } }) := by rintro (_ | e) <;> exact h
  have stopped (t : State) (ht : ValveFits t) : ValveFits (if stopsPumps g = true then stopAllPumps t else t) := by
    split
    · exact valveFits_congr (calm_valve (stopAllPumps_calm t)) ht
    · exact ht
  unfold enterGuard; dsimp only; split
  · exact h
  · show ValveFits (ite _ _ _ : State)
    split
    · exact closeCommand_valveFits (stopped _ (flagged _))
    · exact stopped _ (flagged _)

theorem valveFits_resetNow (x : Pins) (s : State) : ValveFits (resetNow x s) := by
  refine valveFits_congr (s := resetBlocks x s) (congrArg LawParts.valve (resetNow_lawParts x s)) ?_
  show ((valveAtReset (loadedGuardSet s.store) x).travel.isSome = true ↔
      (valveAtReset (loadedGuardSet s.store) x).state = .opening ∨ (valveAtReset (loadedGuardSet s.store) x).state = .closing) ∧
    ((valveAtReset (loadedGuardSet s.store) x).faultDirection.isSome = true → (valveAtReset (loadedGuardSet s.store) x).state = .fault)
  unfold valveAtReset
  cases x.openLimit <;> cases x.closedLimit <;> simp

theorem valveFits_stepLaw : StepLaw ValveFits where
  toPlantLaw := plantLaw_of_gentle (fun hs e => valveFits_congr (congrArg LawParts.valve e) hs)
    (fun hs h => valveFits_congr h.valve hs) (fun _ hs => openCommand_valveFits hs) (fun o c _ hs => valveLimits_valveFits o c hs)
    (fun _ hs => valveTravelExpiry_valveFits hs) (fun g _ hs => enterGuard_valveFits g hs)
    (fun n s hs => by simpa [ValveFits, tickTimers, tickTimer] using hs) (fun x s _ => valveFits_resetNow x s)
  toFillLaw := fillLaw_of_plant (fun hs e => valveFits_congr (congrArg PlantParts.valve e) hs)
    (fun p b s hs => valveFits_congr (calm_valve (stopCommand_calm p b s)) hs)
    (fun p c s _ hs => valveFits_congr (calm_valve (startCommand_calm p c s)) hs)

end Sys2Proof.Machine

/-! What each command itself leaves of the parts that no announcement reaches: the frames of the field commands, the requests and the
rows of time. -/

namespace Sys2Proof.Machine

open Sys2Proof.Safety

/-- A command leaves those parts as its own effect does. -/
theorem exec_still {i : Instr} {s t : State} (h : exec i s = .next t) : still t = still (ownEffect i s) := by
  rcases exec_ownEffect i s with e | e <;> rw [e] at h <;> obtain rfl := Host.Outcome.next.inj h
  · exact finish_still _
  · rfl

/-! ### Probes, level and circuits -/

@[simp] theorem judgePipe_still (s : State) : still (judgePipe s) = still s := by
  unfold judgePipe; dsimp only; repeat' split
  all_goals rfl

@[simp] theorem probeTaken_still (i : Fin 8) (s : State) : still (probeTaken i s) = still s := by
  have judged (cs : List (Fin 8)) : still (cs.foldl (fun t c => judgeCircuit c t) s) = still s :=
    foldl_still _ (fun t c => judgeCircuit_still c t) cs s
  unfold probeTaken; dsimp only; repeat' split
  all_goals simp [judged]

theorem probeInvalid_still (i : Fin 8) (s : State) : ∃ ps, still (probeInvalid i s) = { still s with probes := ps } := by
  refine ⟨s.frost.probes.set i { s.frost.probes.get i with condition := .invalid, silence := none }, ?_⟩
  unfold probeInvalid; dsimp only; repeat' split
  · rfl
  · rw [probeTaken_still]; rfl
  · rw [probeTaken_still]; rfl

theorem takeProbe_still (i : Fin 8) (t : Int) (e : Bool) (s : State) :
    ∃ ps, still (takeProbe i t e s) = { still s with probes := ps } := by
  unfold takeProbe; split
  · exact ⟨_, probeTaken_still i _⟩
  · exact probeInvalid_still i s

theorem silenceExpires_still (i : Fin 8) (s : State) : ∃ ps, still (silenceExpires i s) = { still s with probes := ps } := by
  unfold silenceExpires; split
  · exact probeInvalid_still i s
  · exact ⟨_, rfl⟩

theorem takeLevel_still (v : Int) (e : Bool) (s : State) :
    ∃ w m r, still (takeLevel v e s) = { still s with window := w, timer := m, rejected := r } := by
  unfold takeLevel; dsimp only; repeat' split
  all_goals exact ⟨_, _, _, rfl⟩

theorem validityExpiry_still (s : State) :
    ∃ w m, still (validityExpiry s) = { still s with window := w, timer := m } := by
  unfold validityExpiry; dsimp only; repeat' split
  all_goals exact ⟨_, _, rfl⟩

theorem takeFloat_still (b : Bool) (s : State) : still (takeFloat b s) = { still s with inputs := { s.inputs with float := b } } := by
  unfold takeFloat; dsimp only; split <;> rfl

theorem heaterCurrent_still (c : Fin 8) (b : Bool) (s : State) :
    still (heaterCurrent c b s) = { still s with inputs := { s.inputs with current := s.inputs.current.set c b } } := by
  unfold heaterCurrent; dsimp only; repeat' split
  all_goals rfl

@[simp] theorem circuitTimerExpiry_still (c : Fin 8) (s : State) : still (circuitTimerExpiry c s) = still s := by
  unfold circuitTimerExpiry; dsimp only; split <;> simp

theorem valveLimits_still (o c : Bool) (s : State) :
    still (valveLimits o c s) = { still s with inputs := { s.inputs with openLimit := o, closedLimit := c } } := by
  unfold valveLimits; dsimp only; repeat' split
  all_goals first
    | rfl
    | exact judgeLimits_still _

@[simp] theorem valveTravelExpiry_still (s : State) : still (valveTravelExpiry s) = still s := by
  unfold valveTravelExpiry; repeat' split
  all_goals rfl

/-! ### Pumps -/

@[simp] theorem failedAttempt_still (p : Fin 3) (b : Bool) (s : State) : still (failedAttempt p b s) = still s := by
  unfold failedAttempt; dsimp only; split <;> simp

@[simp] theorem pumpDwellExpiry_still (p : Fin 3) (s : State) : still (pumpDwellExpiry p s) = still s := by
  unfold pumpDwellExpiry; dsimp only; repeat' split
  all_goals simp

@[simp] theorem pumpConfirmExpiry_still (p : Fin 3) (s : State) : still (pumpConfirmExpiry p s) = still s := by
  unfold pumpConfirmExpiry; dsimp only; split <;> simp

@[simp] theorem pumpStopExpiry_still (p : Fin 3) (s : State) : still (pumpStopExpiry p s) = still s := by
  unfold pumpStopExpiry; dsimp only; split <;> simp

@[simp] theorem pumpLockoutExpiry_still (p : Fin 3) (s : State) : still (pumpLockoutExpiry p s) = still s := by
  unfold pumpLockoutExpiry; dsimp only; repeat' split
  all_goals simp

@[simp] theorem runningFeedbackOpens_still (p : Fin 3) (s : State) : still (runningFeedbackOpens p s) = still s := by
  unfold runningFeedbackOpens; dsimp only; split <;> simp

@[simp] theorem weldOpens_still (p : Fin 3) (s : State) : still (weldOpens p s) = still s := by
  unfold weldOpens; rw [releaseClaim_still]; rfl

theorem pumpFeedbackCloses_still (p : Fin 3) (s : State) :
    still (pumpFeedbackCloses p s) = { still s with inputs := { s.inputs with feedback := s.inputs.feedback.set p true } } := by
  unfold pumpFeedbackCloses; dsimp only; repeat' split
  all_goals rfl

theorem pumpFeedbackOpens_still (p : Fin 3) (s : State) :
    still (pumpFeedbackOpens p s) = { still s with inputs := { s.inputs with feedback := s.inputs.feedback.set p false } } := by
  unfold pumpFeedbackOpens; dsimp only; repeat' split
  all_goals first
    | rfl
    | exact runningFeedbackOpens_still p _
    | exact completeStop_still p _
    | exact weldOpens_still p _

theorem pumpOverloadTrip_still (p : Fin 3) (s : State) :
    still (pumpOverloadTrip p s) = { still s with inputs := { s.inputs with overload := s.inputs.overload.set p true } } := by
  unfold pumpOverloadTrip; dsimp only; repeat' split
  all_goals first
    | rfl
    | exact enterFaulted_still p _ _
    | exact enterStopping_still p _ _
    | exact (withdrawClaim_still _ _).trans (enterFaulted_still p _ _)

@[simp] theorem takeNoFlow_still (p : Fin 3) (s : State) : still (takeNoFlow p s) = still s := by
  unfold takeNoFlow; dsimp only; repeat' split
  all_goals simp

@[simp] theorem takeFlowPulse_still (p : Fin 3) (s : State) : still (takeFlowPulse p s) = still s := by
  unfold takeFlowPulse; dsimp only; repeat' split
  all_goals simp

theorem serviceOut_still {p : Fin 3} {s t : State} (h : serviceOut p s = some t) : still t = still s := by
  unfold serviceOut at h; dsimp only at h; repeat' split at h
  all_goals first
    | (obtain rfl := Option.some.inj h; rfl)
    | exact absurd h nofun

theorem serviceReturn_still {p : Fin 3} {s t : State} (h : serviceReturn p s = some t) : still t = still s := by
  unfold serviceReturn at h; dsimp only at h; split at h
  · obtain rfl := Option.some.inj h; rfl
  · exact absurd h nofun

/-! ### Time -/

/-- Counting reaches the timers of the level monitor and of the probes only. -/
theorem tickTimers_still (n : Nat) (s : State) :
    still (tickTimers n s) =
      { still s with timer := tickTimer n s.level.timer,
                     probes := s.frost.probes.map (fun q => { q with silence := tickTimer n q.silence }) } := rfl

@[simp] theorem advanceMinute_still (s : State) : still (advanceMinute s) = still s := by
  unfold advanceMinute; dsimp only; repeat' split
  all_goals rfl

theorem advanceSecond_still (s : State) :
    still (advanceSecond s) =
      { still s with crystal := s.crystal + (1000 - s.clock.ms), timer := tickTimer 1 s.level.timer,
                     probes := s.frost.probes.map (fun q => { q with silence := tickTimer 1 q.silence }) } := by
  unfold advanceSecond; dsimp only; split
  · rfl
  · rw [advanceMinute_still]; rfl

theorem advanceToMinute_still (s : State) :
    still (advanceToMinute s) =
      { still s with crystal := s.crystal + ((60 - s.clock.second) * 1000 - s.clock.ms),
                     timer := tickTimer (60 - s.clock.second) s.level.timer,
                     probes := s.frost.probes.map (fun q => { q with silence := tickTimer (60 - s.clock.second) q.silence }) } := by
  unfold advanceToMinute; rw [advanceMinute_still]; rfl

@[simp] theorem announceTrust_still (x : Trust) (s : State) : still (announceTrust x s) = still s := by
  unfold announceTrust; split <;> rfl

/-- A change of trust out of SYNCED takes the link's lock, its answer and a transmission with it (R162, R175, R179). -/
theorem takeTrust_still (x : Trust) (s : State) :
    ∃ r l, still (takeTrust x s) = { still s with trust := x, remote := r, line := l } := by
  unfold takeTrust; dsimp only; split
  · rename_i e; exact ⟨s.remote, s.link.line, by subst e; rfl⟩
  · repeat' split
    all_goals exact ⟨_, _, rfl⟩

/-- A change of trust from any other state changes the trust alone. -/
theorem takeTrust_still_of_ne {x : Trust} {s : State} (h : s.clock.trust ≠ .synced ∨ x = .synced) :
    still (takeTrust x s) = { still s with trust := x } := by
  unfold takeTrust; dsimp only; split
  · rename_i e; subst e; rfl
  · rename_i e
    have left : s.clock.trust ≠ .synced := h.elim id fun hx => by subst hx; exact fun e' => e e'.symm
    rw [if_neg left]
    split <;> rfl

theorem changeTrust_still (x : Trust) (s : State) :
    ∃ r l, still (changeTrust x s) = { still s with trust := x, remote := r, line := l } := by
  obtain ⟨r, l, e⟩ := takeTrust_still x s
  exact ⟨r, l, (announceTrust_still _ _).trans e⟩

/-- HOLDOVER that has lasted changes the trust alone (R36). -/
theorem judgeHoldover_still (s : State) : ∃ x, still (judgeHoldover s) = { still s with trust := x } := by
  unfold judgeHoldover; split
  · rename_i h
    exact ⟨_, (announceTrust_still _ _).trans (takeTrust_still_of_ne (.inl (by rw [h.1]; nofun)))⟩
  · exact ⟨_, rfl⟩

theorem countHoldover_still (s : State) :
    ∃ x k, still (countHoldover s) = { still s with trust := x, holdover := k } := by
  unfold countHoldover; split
  · obtain ⟨x, e⟩ := judgeHoldover_still { s with clock := { s.clock with holdover := min 255 (s.clock.holdover + 1) } }
    exact ⟨x, _, e⟩
  · exact ⟨_, _, rfl⟩

theorem enterHoldover_still (s : State) :
    ∃ c x k r l, still (enterHoldover s) = { still s with crystal := c, trust := x, holdover := k, remote := r, line := l } := by
  unfold enterHoldover; split
  · obtain ⟨r, l, e⟩ := changeTrust_still .holdover { reachInstant (watchEnd s) s with
      clock := { (reachInstant (watchEnd s) s).clock with holdover := 0 } }
    exact ⟨_, _, _, r, l, e⟩
  · exact ⟨_, _, _, _, _, rfl⟩

@[simp] theorem adjustTime_still (d m x : Nat) (s : State) : still (adjustTime d m x s) = still s := by
  unfold adjustTime; dsimp only; repeat' split
  all_goals rfl

@[simp] theorem discontinuity_still (d m x : Nat) (s : State) : still (discontinuity d m x s) = still s := by
  have rolled : still (if d = s.clock.day then setEvent .discontinuity (setTime d m x s)
      else rollover s.clock.day d (setEvent .discontinuity (setTime d m x s))) = still s := by
    split
    · rfl
    · rw [rollover_still]; rfl
  have noted (u : State) : still (emit .reband { emit .discontinuity u with
      clock := { (emit .discontinuity u).clock with lastMinute := m } }) = still u := rfl
  exact (noted _).trans rolled

@[simp] theorem adoptTime_still (d m x : Nat) (b : Bool) (s : State) : still (adoptTime d m x b s) = still s := by
  unfold adoptTime; split <;> simp

/-- An accepted opener reaches the clock's account of the head only (R35 to R37). -/
theorem clockTakesOpener_still (instant d m x rank : Nat) (b : Bool) (s : State) :
    still (clockTakesOpener instant d m x rank b s) =
      { still s with trust := .synced, roundPeriod := newRoundPeriod s.clock instant, lastOpener := some instant, holdover := 0,
                     rank := rank } := by
  have timed : still (if rank = s.clock.rank then s else setEvent .time s) = still s := by split <;> rfl
  have trusted : still (takeTrust .synced (if rank = s.clock.rank then s else setEvent .time s)) =
      { still s with trust := .synced } := (takeTrust_still_of_ne (.inr rfl)).trans (by rw [timed])
  have headed (u : State) (hu : still u = { still s with trust := .synced }) :
      still { u with clock := { u.clock with
        roundPeriod := newRoundPeriod s.clock instant, lastOpener := some instant, holdover := 0, rank := rank } } =
      { still s with trust := .synced, roundPeriod := newRoundPeriod s.clock instant, lastOpener := some instant, holdover := 0,
                     rank := rank } :=
    congrArg (fun x : Still => { x with
      roundPeriod := newRoundPeriod s.clock instant, lastOpener := some instant, holdover := 0, rank := rank }) hu
  exact (announceTrust_still _ _).trans ((adoptTime_still _ _ _ _ _).trans (headed _ trusted))

theorem setClockNow_still (d m x : Nat) (s : State) :
    ∃ y, still (setClockNow d m x s).1 = { still s with trust := y } := by
  unfold setClockNow; repeat' split
  · exact ⟨_, rfl⟩
  · rename_i h _
    exact ⟨_, (announceTrust_still _ _).trans ((adoptTime_still _ _ _ _ _).trans (takeTrust_still_of_ne (.inl h)))⟩
  · exact ⟨_, rfl⟩

/-! ### The order requests -/

theorem enterRecord_still (n : Nat) (port : Port) (b : Body) (s : State) :
    still (enterRecord n port b s) = { still s with lastAssigned := n } := by
  unfold enterRecord; dsimp only; rw [bookChanged_still]; rfl

theorem placeOrder_still (port : Port) (o : PlaceFields) (s : State) :
    ∃ n, still (placeOrder port o s).1 = { still s with lastAssigned := n } := by
  unfold placeOrder; dsimp only; repeat' split
  · exact ⟨_, rfl⟩
  · exact ⟨_, rfl⟩
  · exact ⟨_, (judgeChangedFill_still _ _).trans (enterRecord_still _ _ _ _)⟩
  · exact ⟨_, rfl⟩
  · refine ⟨allocate s, ?_⟩
    dsimp only
    rw [refreshSetpoints_still, judgeHeatWindow_still, enterRecord_still]
  · exact ⟨_, rfl⟩
  · exact ⟨_, rfl⟩
  · exact ⟨_, enterRecord_still _ _ _ _⟩

@[simp] theorem bumpRevision_still (n : Nat) (s : State) : still (bumpRevision n s) = still s := rfl

theorem amendOrder_still (n : Nat) (e : Option Nat) (a : AmendFields) (s : State) : still (amendOrder n e a s).1 = still s := by
  have fill (x : FillAmend) (f : FillRecord) : still (amendFill n x f s).1 = still s := by
    unfold amendFill; repeat' split
    all_goals simp
  have heat (x : HeatAmend) (q : HeatRecord) : still (amendHeat n x q s).1 = still s := by
    unfold amendHeat; split
    · rfl
    · simp
  have report (x : ReportAmend) (q : ReportRecord) : still (amendReport n x q s).1 = still s := by
    unfold amendReport; repeat' split
    all_goals simp
  unfold amendOrder; repeat' split
  all_goals first
    | rfl
    | exact fill _ _
    | exact heat _ _
    | exact report _ _

@[simp] theorem beginRetiring_still (n : Nat) (f : FillRecord) (s : State) : still (beginRetiring n f s) = still s := by
  unfold beginRetiring; simp

@[simp] theorem retireNow_still (n : Nat) (s : State) : still (retireNow n s) = still s := by
  unfold retireNow; simp

theorem retireOrder_still (n : Nat) (e : Option Nat) (s : State) : still (retireOrder n e s).1 = still s := by
  unfold retireOrder; repeat' split
  all_goals simp

/-! ### The guard store -/

@[simp] theorem roleGone_still (c : Fin 8) (s : State) : still (roleGone c s) = still s := by
  unfold roleGone; split <;> simp

@[simp] theorem roleWritten_still (c : Fin 8) (old : Role) (s : State) : still (roleWritten c old s) = still s := by
  unfold roleWritten; dsimp only; repeat' split
  all_goals simp

@[simp] theorem judgeCircuits_still (s : State) : still (judgeCircuits s) = still s :=
  foldl_still _ (fun t c => judgeCircuit_still c t) _ s

/-- The owner of a field reaches, of these parts, the trust only (R36). -/
theorem ownerActs_still (f : GuardField) (old : GuardSet) (s : State) : ∃ x, still (ownerActs f old s) = { still s with trust := x } := by
  have same {t : State} (h : still t = still s) : ∃ x, still t = { still s with trust := x } := ⟨s.clock.trust, h⟩
  cases f with
  | holdoverLimit => exact judgeHoldover_still s
  | probeIndex c =>
    refine same ?_
    unfold ownerActs; dsimp only; split <;> simp
  | role c => exact same (by simp [ownerActs])
  | _ => exact same (by simp [ownerActs])

theorem writeGuardNow_still (port : Port) (id : Byte) (v : BitVec 32) (s : State) :
    ∃ g st x, still (writeGuardNow port id v s).1 = { still s with gs := g, store := st, trust := x } := by
  unfold writeGuardNow; dsimp only; repeat' split
  case h_2.isFalse.isFalse =>
    rename_i f _ _ _
    obtain ⟨x, e⟩ := ownerActs_still f s.gs (beginCommit { s with gs := putGuardValue s.gs f (guardOperand f v) })
    exact ⟨_, _, x, e⟩
  all_goals exact ⟨_, _, _, rfl⟩

theorem setTariffNow_still (es : List TariffField) (s : State) :
    ∃ st, still (setTariffNow es s).1 = { still s with store := st } := by
  unfold setTariffNow; repeat' split
  · exact ⟨_, rfl⟩
  · exact ⟨_, rfl⟩
  · exact ⟨_, rebandNow_still _⟩

/-! ### The other requests -/

theorem pumpServiceNow_still (port : Port) (n o : Nat) (s : State) : still (pumpServiceNow port n o s).1 = still s := by
  unfold pumpServiceNow
  split
  · rfl
  split
  · rfl
  · dsimp only
    split
    · rfl
    · rfl
    · rename_i t e
      split at e
      · exact serviceOut_still (Option.some.inj e)
      · exact serviceReturn_still (Option.some.inj e)
      · exact absurd e nofun

theorem circuitResetNow_still (port : Port) (n : Nat) (s : State) : still (circuitResetNow port n s).1 = still s := by
  unfold circuitResetNow resetCircuitFault; repeat' split
  all_goals simp

theorem acknowledgeNow_still (s : State) : still (acknowledgeNow s).1 = still s := by
  show still (acknowledgeGuard s).1 = still s
  unfold acknowledgeGuard; repeat' split
  all_goals simp

theorem cabinetOnly_still {port : Port} {act : State → State × Response} {s : State} {x : Still} (hs : still s = x)
    (hact : still (act s).1 = x) : still (cabinetOnly port act s).1 = x := by
  cases port
  · exact hact
  · exact hs

/-- The bookkeeping of a request reaches the cabinet port and the last result only. -/
theorem takeRequest_still (port : Port) (q : Request) (s : State) :
    ∃ k r, still (takeRequest port q s) = { still (carryOut port q s).1 with cabinet := k, lastResult := r } := by
  rw [takeRequest_frame]; exact ⟨_, _, rfl⟩

/-- Of the cabinet port the bookkeeping reaches only the result of the request in flight. -/
theorem takeRequest_samePort {port : Port} {q : Request} {s : State} (h : (carryOut port q s).1.cabinet = s.cabinet) :
    SamePort s (takeRequest port q s) := by
  have marked : (markRemote port q (carryOut port q s).2 s (carryOut port q s).1).cabinet = s.cabinet := by
    rw [markRemote_frame]; exact h
  have noted (u : State) : SamePort u (noteFormed port q (carryOut port q s).2 u) := by
    unfold noteFormed; split
    · rename_i hf
      split
      · exact ⟨rfl, rfl, rfl, by simp [hf]⟩
      · exact ⟨rfl, rfl, rfl, rfl⟩
    · exact ⟨rfl, rfl, rfl, rfl⟩
  have moved (u t : State) (hu : u.cabinet = s.cabinet) (ht : SamePort u t) : SamePort s t := by
    unfold SamePort; rw [← hu]; exact ht
  exact moved { markRemote port q (carryOut port q s).2 s (carryOut port q s).1 with
    lastResult := some (carryOut port q s).2 } _ marked (noted _)

end Sys2Proof.Machine

/-! The frames: each group of commands by what its commands themselves leave of the parts that no announcement reaches. -/

namespace Sys2Proof.Machine

open Sys2Proof.Safety

/-! ### Reading a frame off the still parts -/

/-- Where only the field inputs change. -/
theorem frame_of_inputs {s t : State} {x : Inputs} (h : still t = { still s with inputs := x }) :
    AwayFromRequests s t ∧ AwayFromLink s t ∧ SameReadings s t ∧ t.inputs = x :=
  ⟨⟨congrArg Still.pending h, congrArg Still.gs h, congrArg Still.store h, congrArg Still.remote h, congrArg Still.cabinet h,
      congrArg Still.enables h, congrArg Still.lastResult h, congrArg Still.lastAssigned h⟩,
    ⟨congrArg Still.line h, congrArg Still.assembly h, congrArg Still.round h, congrArg Still.answerSlot h,
      congrArg Still.sequence h, congrArg Still.trust h, congrArg Still.rank h, congrArg Still.roundPeriod h,
      congrArg Still.lastOpener h, congrArg Still.holdover h, congrArg Still.crystal h⟩,
    ⟨congrArg Still.window h, congrArg Still.timer h, congrArg Still.rejected h, congrArg Still.probes h⟩,
    congrArg Still.inputs h⟩

/-- Where only the readings change. -/
theorem frame_of_readings {s t : State} {w : List Nat} {m : Option Nat} {r : Nat} {ps : Octo Probe}
    (h : still t = { still s with window := w, timer := m, rejected := r, probes := ps }) :
    AwayFromRequests s t ∧ AwayFromLink s t ∧ t.inputs = s.inputs :=
  ⟨⟨congrArg Still.pending h, congrArg Still.gs h, congrArg Still.store h, congrArg Still.remote h, congrArg Still.cabinet h,
      congrArg Still.enables h, congrArg Still.lastResult h, congrArg Still.lastAssigned h⟩,
    ⟨congrArg Still.line h, congrArg Still.assembly h, congrArg Still.round h, congrArg Still.answerSlot h,
      congrArg Still.sequence h, congrArg Still.trust h, congrArg Still.rank h, congrArg Still.roundPeriod h,
      congrArg Still.lastOpener h, congrArg Still.holdover h, congrArg Still.crystal h⟩,
    congrArg Still.inputs h⟩

/-- Settles O2: every announcement keeps the still parts, and these are among them. -/
theorem cascadeKeepsParts : Obligations.CascadeKeepsParts := by
  unfold Obligations.CascadeKeepsParts
  intro u
  exact frame_of_inputs (finish_still u)

/-! ### The field commands -/

/-- A pump command reaches the pump's inputs only. -/
theorem pumpGroup_still {i : Instr} {s : State} (hg : groupOf i = .pump) :
    ∃ f o k, still (ownEffect i s) = { still s with inputs := { s.inputs with feedback := f, overload := o, key := k } } := by
  cases i with
  | flowPulse p => exact ⟨_, _, _, takeFlowPulse_still p s⟩
  | noFlowExpiry p => exact ⟨_, _, _, takeNoFlow_still p s⟩
  | dwellExpiry p => exact ⟨_, _, _, pumpDwellExpiry_still p s⟩
  | confirmExpiry p => exact ⟨_, _, _, pumpConfirmExpiry_still p s⟩
  | feedbackCloses p => exact ⟨_, _, _, pumpFeedbackCloses_still p s⟩
  | feedbackOpens p x => exact ⟨_, _, _, pumpFeedbackOpens_still p (takeSample x s)⟩
  | overloadTrip p => exact ⟨_, _, _, pumpOverloadTrip_still p s⟩
  | stopTimerExpiry p => exact ⟨_, _, _, pumpStopExpiry_still p s⟩
  | lockoutExpiry p => exact ⟨_, _, _, pumpLockoutExpiry_still p s⟩
  | _ => exact absurd hg nofun

/-- A command of the valve, the float or a heater circuit reaches its own inputs only. -/
theorem valveGroup_still {i : Instr} {s : State} (hg : groupOf i = .valveFloatHeater) :
    ∃ b o c h, still (ownEffect i s) =
      { still s with inputs := { s.inputs with float := b, openLimit := o, closedLimit := c, current := h } } := by
  cases i with
  | valveLimitChange o c => exact ⟨_, _, _, _, valveLimits_still o c s⟩
  | travelTimerExpiry => exact ⟨_, _, _, _, valveTravelExpiry_still s⟩
  | floatChange b => exact ⟨_, _, _, _, takeFloat_still b s⟩
  | heaterCurrentChange c b => exact ⟨_, _, _, _, heaterCurrent_still c b s⟩
  | feedbackTimerExpiry c => exact ⟨_, _, _, _, circuitTimerExpiry_still c s⟩
  | _ => exact absurd hg nofun

/-- A reading or its silence reaches the readings only. -/
theorem readingGroup_still {i : Instr} {s : State} (hg : groupOf i = .reading) :
    ∃ w m r ps, still (ownEffect i s) = { still s with window := w, timer := m, rejected := r, probes := ps } := by
  cases i with
  | levelReading v e => obtain ⟨w, m, r, h⟩ := takeLevel_still v e s; exact ⟨w, m, r, _, h⟩
  | validityTimerExpiry => obtain ⟨w, m, h⟩ := validityExpiry_still s; exact ⟨w, m, _, _, h⟩
  | probeReading k t e => obtain ⟨ps, h⟩ := takeProbe_still k t e s; exact ⟨_, _, _, ps, h⟩
  | silenceTimerExpiry k => obtain ⟨ps, h⟩ := silenceExpires_still k s; exact ⟨_, _, _, ps, h⟩
  | _ => exact absurd hg nofun

/-- Settles O53: each field command by the inputs or readings that it writes. -/
theorem fieldCommandFrame : Obligations.FieldCommandFrame := by
  unfold Obligations.FieldCommandFrame
  intro i s t h
  have own := exec_still h
  refine ⟨fun hg => ?_, fun hg => ?_, fun hg => ?_⟩
  · obtain ⟨f, o, k, e⟩ := pumpGroup_still hg
    obtain ⟨away, link, readings, inputs⟩ := frame_of_inputs (own.trans e)
    exact ⟨away, link, readings, by rw [inputs]⟩
  · obtain ⟨b, o, c, k, e⟩ := valveGroup_still hg
    obtain ⟨away, link, readings, inputs⟩ := frame_of_inputs (own.trans e)
    exact ⟨away, link, readings, by rw [inputs], by rw [inputs], by rw [inputs]⟩
  · obtain ⟨w, m, r, ps, e⟩ := readingGroup_still hg
    exact frame_of_readings (own.trans e)

/-! ### The requests -/

theorem samePort_of_cabinet {s t u : State} (h : u.cabinet = t.cabinet) (ht : SamePort s t) : SamePort s u := by
  unfold SamePort; rw [h]; exact ht

/-- A request leaves what its owner leaves, but for its result in the port and in the last result. -/
theorem request_frame {port : Port} {q : Request} {s : State} {x : Still} (howner : still (carryOut port q s).1 = x)
    (hport : x.cabinet = s.cabinet) :
    (∃ k r, still (takeRequest port q s) = { x with cabinet := k, lastResult := r }) ∧ SamePort s (takeRequest port q s) := by
  obtain ⟨k, r, e⟩ := takeRequest_still port q s
  refine ⟨⟨k, r, by rw [e, howner]⟩, takeRequest_samePort ?_⟩
  exact (congrArg Still.cabinet howner).trans hport

theorem samePort_of_exec {i : Instr} {s t u : State} (h : exec i s = .next t) (hu : ownEffect i s = u) (ht : SamePort s u) :
    SamePort s t := by
  have same : still t = still u := (exec_still h).trans (by rw [hu])
  exact samePort_of_cabinet (congrArg Still.cabinet same) ht

/-- The owner of an order request reaches the allocator only. -/
theorem orderOwner_still (port : Port) (q : Request) (s : State)
    (hq : (∃ o, q = .place o) ∨ (∃ n e a, q = .amend n e a) ∨ ∃ n e, q = .retire n e) :
    ∃ n, still (carryOut port q s).1 = { still s with lastAssigned := n } := by
  rcases hq with ⟨o, rfl⟩ | ⟨n, e, a, rfl⟩ | ⟨n, e, rfl⟩
  · exact placeOrder_still port o s
  · exact ⟨_, amendOrder_still n e a s⟩
  · exact ⟨_, retireOrder_still n e s⟩

theorem orderChange_frame {i : Instr} {s : State} (hg : groupOf i = .orderChange) :
    (∃ n k r, still (ownEffect i s) = { still s with lastAssigned := n, cabinet := k, lastResult := r }) ∧
      SamePort s (ownEffect i s) := by
  have taken (port : Port) (q : Request) (hq : (∃ o, q = .place o) ∨ (∃ n e a, q = .amend n e a) ∨ ∃ n e, q = .retire n e) :
      (∃ n k r, still (takeRequest port q s) = { still s with lastAssigned := n, cabinet := k, lastResult := r }) ∧
        SamePort s (takeRequest port q s) := by
    obtain ⟨n, e⟩ := orderOwner_still port q s hq
    obtain ⟨⟨k, r, e'⟩, port⟩ := request_frame e rfl
    exact ⟨⟨n, k, r, e'⟩, port⟩
  cases i with
  | place port o => exact taken port _ (.inl ⟨o, rfl⟩)
  | amend port n e a => exact taken port _ (.inr (.inl ⟨n, e, a, rfl⟩))
  | retire port n e => exact taken port _ (.inr (.inr ⟨n, e, rfl⟩))
  | _ => exact absurd hg nofun

theorem guardStore_frame {i : Instr} {s : State} (hg : groupOf i = .guardStore) :
    (∃ g st x key o k r, still (ownEffect i s) =
        { still s with gs := g, store := st, trust := x, inputs := { s.inputs with key := key, overload := o }, cabinet := k,
                       lastResult := r }) ∧
      SamePort s (ownEffect i s) := by
  cases i with
  | writeGuard port x id v =>
    obtain ⟨g, st, y, e⟩ := writeGuardNow_still port id v (takeSample x s)
    obtain ⟨⟨k, r, e'⟩, port⟩ := request_frame (q := .writeGuard id v) e rfl
    exact ⟨⟨g, st, y, _, _, k, r, e'⟩, port⟩
  | setTariff port es =>
    obtain ⟨st, e⟩ := setTariffNow_still es s
    obtain ⟨⟨k, r, e'⟩, port⟩ := request_frame (port := port) (q := .setTariff es) e rfl
    exact ⟨⟨_, st, _, _, _, k, r, e'⟩, port⟩
  | _ => exact absurd hg nofun

theorem service_frame {i : Instr} {s : State} (hg : groupOf i = .service) :
    (∃ key o k r, still (ownEffect i s) =
        { still s with inputs := { s.inputs with key := key, overload := o }, cabinet := k, lastResult := r }) ∧
      SamePort s (ownEffect i s) := by
  cases i with
  | pumpServiceOut port x p =>
    obtain ⟨⟨k, r, e⟩, port⟩ := request_frame (q := .pumpService p 0) (pumpServiceNow_still port p 0 (takeSample x s)) rfl
    exact ⟨⟨_, _, k, r, e⟩, port⟩
  | pumpServiceReturn port x p =>
    obtain ⟨⟨k, r, e⟩, port⟩ := request_frame (q := .pumpService p 1) (pumpServiceNow_still port p 1 (takeSample x s)) rfl
    exact ⟨⟨_, _, k, r, e⟩, port⟩
  | circuitReset port c =>
    obtain ⟨⟨k, r, e⟩, port⟩ := request_frame (q := .circuitReset c) (circuitResetNow_still port c s) rfl
    exact ⟨⟨_, _, k, r, e⟩, port⟩
  | acknowledge port x =>
    obtain ⟨⟨k, r, e⟩, port⟩ := request_frame (port := port) (q := .acknowledge)
      (cabinetOnly_still (s := takeSample x s) rfl (acknowledgeNow_still (takeSample x s))) rfl
    exact ⟨⟨_, _, k, r, e⟩, port⟩
  | _ => exact absurd hg nofun

theorem setClock_frame {i : Instr} {s : State} (hg : groupOf i = .setClock) :
    (∃ x k r, still (ownEffect i s) = { still s with trust := x, cabinet := k, lastResult := r }) ∧
      SamePort s (ownEffect i s) := by
  cases i with
  | setClock port d m x =>
    have owner : ∃ y, still (carryOut port (.setClock d m x) s).1 = { still s with trust := y } := by
      cases port
      · exact setClockNow_still d m x s
      · exact ⟨_, rfl⟩
    obtain ⟨y, e⟩ := owner
    obtain ⟨⟨k, r, e'⟩, port⟩ := request_frame e rfl
    exact ⟨⟨y, k, r, e'⟩, port⟩
  | _ => exact absurd hg nofun

/-- Settles O54: each request by what its owner reaches, the bookkeeping adding its result alone. -/
theorem requestsFrame : Obligations.RequestsFrame := by
  unfold Obligations.RequestsFrame
  intro i s t h
  have own := exec_still h
  refine ⟨fun hg => ?_, fun hg => ?_, fun hg => ?_, fun hg => ?_⟩
  · obtain ⟨⟨n, k, r, e⟩, port⟩ := orderChange_frame (s := s) hg
    have e := own.trans e
    exact ⟨congrArg Still.pending e, congrArg Still.gs e, congrArg Still.store e, congrArg Still.remote e,
      congrArg Still.enables e, congrArg Still.inputs e,
      ⟨congrArg Still.line e, congrArg Still.assembly e, congrArg Still.round e, congrArg Still.answerSlot e,
        congrArg Still.sequence e, congrArg Still.trust e, congrArg Still.rank e, congrArg Still.roundPeriod e,
        congrArg Still.lastOpener e, congrArg Still.holdover e, congrArg Still.crystal e⟩,
      ⟨congrArg Still.window e, congrArg Still.timer e, congrArg Still.rejected e, congrArg Still.probes e⟩,
      samePort_of_exec h rfl port⟩
  · obtain ⟨⟨g, st, x, key, o, k, r, e⟩, port⟩ := guardStore_frame (s := s) hg
    have e := own.trans e
    have inputs : t.inputs = { s.inputs with key := key, overload := o } := congrArg Still.inputs e
    exact ⟨congrArg Still.pending e, congrArg Still.remote e, congrArg Still.enables e, by unfold SameInputs; rw [inputs],
      ⟨congrArg Still.line e, congrArg Still.round e, congrArg Still.answerSlot e, congrArg Still.sequence e,
        congrArg Still.rank e, congrArg Still.roundPeriod e, congrArg Still.lastOpener e, congrArg Still.holdover e,
        congrArg Still.crystal e⟩,
      ⟨congrArg Still.window e, congrArg Still.timer e, congrArg Still.rejected e, congrArg Still.probes e⟩,
      samePort_of_exec h rfl port, congrArg Still.lastAssigned e⟩
  · obtain ⟨⟨key, o, k, r, e⟩, port⟩ := service_frame (s := s) hg
    have e := own.trans e
    have inputs : t.inputs = { s.inputs with key := key, overload := o } := congrArg Still.inputs e
    exact ⟨congrArg Still.pending e, congrArg Still.gs e, congrArg Still.store e, congrArg Still.remote e,
      congrArg Still.enables e, by unfold SameInputs; rw [inputs],
      ⟨congrArg Still.line e, congrArg Still.assembly e, congrArg Still.round e, congrArg Still.answerSlot e,
        congrArg Still.sequence e, congrArg Still.trust e, congrArg Still.rank e, congrArg Still.roundPeriod e,
        congrArg Still.lastOpener e, congrArg Still.holdover e, congrArg Still.crystal e⟩,
      ⟨congrArg Still.window e, congrArg Still.timer e, congrArg Still.rejected e, congrArg Still.probes e⟩,
      samePort_of_exec h rfl port, congrArg Still.lastAssigned e⟩
  · obtain ⟨⟨x, k, r, e⟩, port⟩ := setClock_frame (s := s) hg
    have e := own.trans e
    exact ⟨congrArg Still.pending e, congrArg Still.gs e, congrArg Still.store e, congrArg Still.remote e,
      congrArg Still.enables e, congrArg Still.inputs e,
      ⟨congrArg Still.line e, congrArg Still.round e, congrArg Still.answerSlot e, congrArg Still.sequence e,
        congrArg Still.rank e, congrArg Still.roundPeriod e, congrArg Still.lastOpener e, congrArg Still.holdover e,
        congrArg Still.crystal e⟩,
      ⟨congrArg Still.window e, congrArg Still.timer e, congrArg Still.rejected e, congrArg Still.probes e⟩,
      samePort_of_exec h rfl port, congrArg Still.lastAssigned e⟩

/-! ### The rows of time -/

/-- The crystal reaches the timers of the readings and its own instant only. -/
theorem crystal_still {i : Instr} {s : State} (hg : groupOf i = .crystal) :
    ∃ c m n, still (ownEffect i s) =
      { still s with crystal := c, timer := m,
                     probes := s.frost.probes.map (fun q => { q with silence := tickTimer n q.silence }) } := by
  cases i with
  | minuteEvent => exact ⟨_, _, _, advanceToMinute_still s⟩
  | secondAdvance => exact ⟨_, _, _, advanceSecond_still s⟩
  | _ => exact absurd hg nofun

/-- The parts of the still ones that the head's openers and its silence reach: the clock's account of the head, the round, the line
and the remote requests. -/
def HeadOnly (s t : State) : Prop :=
  t.pending = s.pending ∧ t.gs = s.gs ∧ t.store = s.store ∧ t.cabinet = s.cabinet ∧ t.enables = s.enables ∧
    t.lastResult = s.lastResult ∧ t.book.lastAssigned = s.book.lastAssigned ∧ t.inputs = s.inputs ∧
    SameReadings s t ∧ t.link.sequence = s.link.sequence

theorem headOnly_of_still {s t : State} {c k : Nat} {x : Trust} {rank p : Nat} {o : Option Nat} {l : LineState} {a : List Byte}
    {w : Option Round} {slot : Option Nat} {r : Remote}
    (h : still t = { still s with
      crystal := c, trust := x, rank := rank, roundPeriod := p, lastOpener := o, holdover := k, line := l, assembly := a
      round := w, answerSlot := slot, remote := r }) : HeadOnly s t :=
  ⟨congrArg Still.pending h, congrArg Still.gs h, congrArg Still.store h, congrArg Still.cabinet h, congrArg Still.enables h,
    congrArg Still.lastResult h, congrArg Still.lastAssigned h, congrArg Still.inputs h,
    ⟨congrArg Still.window h, congrArg Still.timer h, congrArg Still.rejected h, congrArg Still.probes h⟩,
    congrArg Still.sequence h⟩

/-- An opener reaches the clock's account of the head, the round and the remote requests (R157, R158). -/
theorem takeOpener_still (instant : Nat) (b : List Byte) (s : State) :
    ∃ x rank p o k w slot r, still (takeOpener instant b s) =
      { still s with trust := x, rank := rank, roundPeriod := p, lastOpener := o, holdover := k, round := w, answerSlot := slot,
                     remote := r } := by
  unfold takeOpener; dsimp only; repeat' split
  · exact ⟨_, _, _, _, _, _, _, _, rfl⟩
  · rename_i o _ _
    have clock := clockTakesOpener_still instant o.day o.minute o.second o.rank o.timeSet { s with choice := s.choice / 2 }
    generalize clockTakesOpener instant o.day o.minute o.second o.rank o.timeSet { s with choice := s.choice / 2 } = u at clock
    have opened := congrArg (fun x : Still => { x with
      round := some ⟨o.round, o.slotLength, instant, 1⟩, answerSlot := some u.gs.answerSlot, remote := countRound u.remote }) clock
    exact ⟨_, _, _, _, _, _, _, _, opened⟩
  · exact ⟨_, _, _, _, _, _, _, _, rfl⟩

/-- A frame that is an OPENER by its kind reaches those parts only. -/
theorem receiveFrame_headOnly (instant : Nat) {f : Frame} (hf : f.kind = 1) (s : State) :
    HeadOnly s (receiveFrame instant f (reachInstant instant s)) := by
  have notRequest : ¬ f.kind = 2 := by rw [hf]; decide
  unfold receiveFrame; dsimp only; repeat' split
  · exact headOnly_of_still rfl
  · exact headOnly_of_still rfl
  · obtain ⟨x, rank, p, o, k, w, slot, r, e⟩ := takeOpener_still instant f.body (lineQuiet (reachInstant instant s))
    exact headOnly_of_still e
  · rename_i h; exact absurd h.1 notRequest
  · exact headOnly_of_still rfl

theorem head_headOnly {i : Instr} {s : State} (hg : groupOf i = .head) (hf : ∀ instant f, i = .opener instant f → f.kind = 1) :
    HeadOnly s (ownEffect i s) := by
  cases i with
  | opener instant f => exact receiveFrame_headOnly instant (hf instant f rfl) s
  | holdoverEntry => obtain ⟨c, x, k, r, l, e⟩ := enterHoldover_still s; exact headOnly_of_still e
  | holdoverRound => obtain ⟨x, k, e⟩ := countHoldover_still s; exact headOnly_of_still e
  | _ => exact absurd hg nofun

theorem headOnly_of_same {s t u : State} (h : still t = still u) (hu : HeadOnly s u) : HeadOnly s t := by
  obtain ⟨h1, h2, h3, h4, h5, h6, h7, h8, ⟨h9, h10, h11, h12⟩, h13⟩ := hu
  exact ⟨(congrArg Still.pending h).trans h1, (congrArg Still.gs h).trans h2, (congrArg Still.store h).trans h3,
    (congrArg Still.cabinet h).trans h4, (congrArg Still.enables h).trans h5, (congrArg Still.lastResult h).trans h6,
    (congrArg Still.lastAssigned h).trans h7, (congrArg Still.inputs h).trans h8,
    ⟨(congrArg Still.window h).trans h9, (congrArg Still.timer h).trans h10, (congrArg Still.rejected h).trans h11,
      (congrArg Still.probes h).trans h12⟩, (congrArg Still.sequence h).trans h13⟩

/-- Settles O55: the crystal reaches timers and its instant, an OPENER frame and the head's silence what the head governs. -/
theorem timeFrame : Obligations.TimeFrame := by
  unfold Obligations.TimeFrame
  intro i s t h
  have own := exec_still h
  refine ⟨fun hg => ?_, fun hg hf => headOnly_of_same own (head_headOnly hg hf)⟩
  obtain ⟨c, m, n, e⟩ := crystal_still (s := s) hg
  have e := own.trans e
  have probes : t.frost.probes = s.frost.probes.map (fun q => { q with silence := tickTimer n q.silence }) :=
    congrArg Still.probes e
  exact ⟨⟨congrArg Still.pending e, congrArg Still.gs e, congrArg Still.store e, congrArg Still.remote e,
      congrArg Still.cabinet e, congrArg Still.enables e, congrArg Still.lastResult e, congrArg Still.lastAssigned e⟩,
    congrArg Still.inputs e, congrArg Still.window e, congrArg Still.rejected e, congrArg Still.line e, congrArg Still.round e,
    congrArg Still.sequence e, congrArg Still.trust e, congrArg Still.rank e, congrArg Still.roundPeriod e,
    congrArg Still.lastOpener e, congrArg Still.holdover e, fun k => by rw [probes, octo_get_map]; exact ⟨rfl, rfl⟩⟩

end Sys2Proof.Machine

/-! The laws of the level monitor, the link lock and the cabinet port: they speak of parts that no announcement reaches, so a step keeps
them when every command's own effect does. -/

namespace Sys2Proof.Machine

open Sys2Proof.Safety

/-! ### The parts those laws speak of -/

/-- The parts of the state that those laws speak of. -/
structure PortParts where
  window : List Nat
  timer : Option Nat
  rejected : Nat
  unlocked : Bool
  unlockLeft : Nat
  refusalLeft : Nat
  port : PortState
  held : Bool
  inFlight : Bool

/-- Those parts, read off the still ones. -/
def portPartsOf (x : Still) : PortParts :=
  { window := x.window, timer := x.timer, rejected := x.rejected, unlocked := x.remote.unlocked, unlockLeft := x.remote.unlockLeft,
    refusalLeft := x.remote.refusalLeft, port := x.cabinet.state, held := x.cabinet.held.isSome,
    inFlight := x.cabinet.inFlight.isSome }

def portParts (s : State) : PortParts := portPartsOf (still s)

/-- The law speaks of those parts alone, and what writes them keeps it. -/
structure PortLaw (P : State → Prop) : Prop where
  frame : ∀ {s t : State}, P s → portParts t = portParts s → P t
  takeLevel : ∀ v e s, P s → P (takeLevel v e s)
  validityExpiry : ∀ s, P s → P (validityExpiry s)
  tick : ∀ n (s : State), P s → P { s with level := { s.level with timer := tickTimer n s.level.timer } }
  unlock : ∀ code s, P s → P (unlockNow code s).1
  lock : ∀ s, P s → P (lockNow s).1
  loseSync : ∀ s, P s → P (loseSync s)
  countRound : ∀ s : State, P s → P { s with remote := countRound s.remote }
  holdResponse : ∀ r s, P s → P (holdResponse r s)
  idlePort : ∀ s, P s → P (idlePort s)
  handRequest : ∀ q s, P s → P (handRequest q s)
  resetNow : ∀ x s, P s → P (resetNow x s)

section
variable {P : State → Prop} (h : PortLaw P)
include h

theorem port_of_still {s t : State} (hs : P s) (e : still t = still s) : P t := h.frame hs (congrArg portPartsOf e)

theorem port_of_parts {s t : State} {x : Still} (hs : P s) (e : still t = x) (hx : portPartsOf x = portPartsOf (still s)) : P t :=
  h.frame hs ((congrArg portPartsOf e).trans hx)

/-- A change of trust keeps the law. -/
theorem takeTrust_port (x : Trust) {s : State} (hs : P s) : P (takeTrust x s) := by
  unfold takeTrust; dsimp only; split
  · exact hs
  · have timed : P (setEvent .time { s with clock := { s.clock with trust := x } }) := h.frame hs rfl
    have left : P (if s.clock.trust = .synced then loseSync (setEvent .time { s with clock := { s.clock with trust := x } })
        else setEvent .time { s with clock := { s.clock with trust := x } }) := by
      split
      · exact h.loseSync _ timed
      · exact timed
    generalize (if s.clock.trust = .synced then loseSync (setEvent .time { s with clock := { s.clock with trust := x } })
        else setEvent .time { s with clock := { s.clock with trust := x } }) = u at left
    split
    · exact h.frame left rfl
    · exact left

theorem changeTrust_port (x : Trust) {s : State} (hs : P s) : P (changeTrust x s) :=
  port_of_still h (takeTrust_port h x hs) (announceTrust_still _ _)

theorem enterHoldover_port {s : State} (hs : P s) : P (enterHoldover s) := by
  unfold enterHoldover; split
  · exact changeTrust_port h _ (h.frame hs rfl)
  · exact hs

/-- Of the requests only UNLOCK and LOCK reach those parts. -/
theorem carryOut_port (port : Port) (q : Request) {s : State} (hs : P s) : P (carryOut port q s).1 := by
  cases q with
  | place o => obtain ⟨n, e⟩ := placeOrder_still port o s; exact port_of_parts h hs e rfl
  | amend n x a => exact port_of_still h hs (amendOrder_still n x a s)
  | retire n x => exact port_of_still h hs (retireOrder_still n x s)
  | writeGuard id v => obtain ⟨g, st, x, e⟩ := writeGuardNow_still port id v s; exact port_of_parts h hs e rfl
  | setTariff es => obtain ⟨st, e⟩ := setTariffNow_still es s; exact port_of_parts h hs e rfl
  | setClock d m x =>
    obtain ⟨y, e⟩ := setClockNow_still d m x s
    exact cabinetOnly_kept port hs (port_of_parts h hs e rfl)
  | unlock c =>
    cases port
    · exact hs
    · exact h.unlock c s hs
  | lock => exact h.lock s hs
  | pumpService p o => exact port_of_still h hs (pumpServiceNow_still port p o s)
  | circuitReset c => exact port_of_still h hs (circuitResetNow_still port c s)
  | acknowledge => exact cabinetOnly_kept port hs (port_of_still h hs (acknowledgeNow_still s))
  | clearEvents f => exact cabinetOnly_kept port hs (h.frame hs rfl)
  | setEventEnables f => exact cabinetOnly_kept port hs (h.frame hs rfl)
  | _ => exact hs

omit h in
theorem noteFormed_portParts (port : Port) (q : Request) (r : Response) (s : State) :
    portParts (noteFormed port q r s) = portParts s := by
  unfold noteFormed; split
  · rename_i hf
    split
    · simp [portParts, portPartsOf, still, hf]
    · rfl
  · rfl

theorem takeRequest_port (port : Port) (q : Request) {s : State} (hs : P s) : P (takeRequest port q s) := by
  have owner := carryOut_port h port q hs
  have marked : P { markRemote port q (carryOut port q s).2 s (carryOut port q s).1 with
      lastResult := some (carryOut port q s).2 } := by
    rw [markRemote_frame]; exact h.frame owner rfl
  exact h.frame marked (noteFormed_portParts port q _ _)

/-! ### The two ports' frames -/

theorem judgeCabinetFrame_port (sdi : List Byte) {s : State} (hs : P s) : P (judgeCabinetFrame sdi s) := by
  unfold judgeCabinetFrame; repeat' split
  all_goals first
    | exact h.idlePort s hs
    | exact h.holdResponse _ s hs
    | exact h.handRequest _ s hs

theorem endCabinetFrame_port (sdi : List Byte) {s : State} (hs : P s) : P (endCabinetFrame sdi s) := by
  have ended : P { s with cabinet := { s.cabinet with clocked := none } } := h.frame hs rfl
  unfold endCabinetFrame; dsimp only; repeat' split
  · exact hs
  · exact judgeCabinetFrame_port h sdi ended
  · exact ended
  · exact judgeCabinetFrame_port h sdi ended
  · exact ended

theorem formResult_port {s : State} (hs : P s) : P (formResult s) := by
  unfold formResult; repeat' split
  · exact h.holdResponse _ s hs
  · exact h.holdResponse _ _ (takeRequest_port h .cabinet _ hs)
  · exact hs

theorem takeOpener_port (instant : Nat) (b : List Byte) {s : State} (hs : P s) : P (takeOpener instant b s) := by
  unfold takeOpener; dsimp only; repeat' split
  · exact hs
  · rename_i o _ _
    have clock : P (clockTakesOpener instant o.day o.minute o.second o.rank o.timeSet { s with choice := s.choice / 2 }) :=
      port_of_parts h hs (clockTakesOpener_still instant o.day o.minute o.second o.rank o.timeSet
        { s with choice := s.choice / 2 }) rfl
    generalize clockTakesOpener instant o.day o.minute o.second o.rank o.timeSet { s with choice := s.choice / 2 } = u at clock
    exact h.frame (h.countRound u clock) rfl
  · exact h.frame hs rfl

theorem takeRequestFrame_port (instant : Nat) (seq : Byte) (b : List Byte) {s : State} (hs : P s) :
    P (takeRequestFrame instant seq b s) := by
  unfold takeRequestFrame; repeat' split
  · exact h.frame hs rfl
  · unfold carryRemote; dsimp only; split
    · exact h.frame hs rfl
    · exact h.frame (takeRequest_port h .district _ hs) rfl
  · exact hs

theorem receiveFrame_port (instant : Nat) (f : Frame) {s : State} (hs : P s) : P (receiveFrame instant f s) := by
  have quiet : P (lineQuiet s) := h.frame hs rfl
  unfold receiveFrame; dsimp only; repeat' split
  · exact hs
  · exact quiet
  · exact takeOpener_port h _ _ quiet
  · exact takeRequestFrame_port h _ _ _ quiet
  · exact quiet

theorem beginSlot_port (n : Nat) {s : State} (hs : P s) : P (beginSlot n s) := by
  unfold beginSlot startAnswerSlot; dsimp only; repeat' split
  all_goals exact h.frame hs rfl

theorem sendDue_port {s : State} (hs : P s) : P (sendDue s) := by
  unfold sendDue; dsimp only; repeat' split
  all_goals exact h.frame hs rfl

theorem endSending_port {s : State} (hs : P s) : P (endSending s) := by
  unfold endSending; dsimp only; repeat' split
  all_goals exact h.frame hs rfl

/-! ### Every step -/

/-- What a command itself leaves keeps the law. -/
theorem ownEffect_port (i : Instr) {s : State} (hs : P s) : P (ownEffect i s) := by
  have sampled : ∀ x : Sample, P (takeSample x s) := fun x => h.frame hs rfl
  have reached : ∀ t, P (reachInstant t s) := fun t => h.frame hs rfl
  have field (hg : groupOf i = .pump ∨ groupOf i = .valveFloatHeater) : P (ownEffect i s) := by
    rcases hg with hg | hg
    · obtain ⟨f, o, k, e⟩ := pumpGroup_still (s := s) hg; exact port_of_parts h hs e rfl
    · obtain ⟨b, o, c, k, e⟩ := valveGroup_still (s := s) hg; exact port_of_parts h hs e rfl
  have timed (hg : groupOf i = .crystal) : P (ownEffect i s) := by
    cases i with
    | minuteEvent => exact port_of_parts h (h.tick (60 - s.clock.second) s hs) (advanceToMinute_still s) rfl
    | secondAdvance => exact port_of_parts h (h.tick 1 s hs) (advanceSecond_still s) rfl
    | _ => exact absurd hg nofun
  cases i with
  | readTower port x n => exact takeRequest_port h port _ (sampled x)
  | writeGuard port x id v => exact takeRequest_port h port _ (sampled x)
  | pumpServiceOut port x p => exact takeRequest_port h port _ (sampled x)
  | pumpServiceReturn port x p => exact takeRequest_port h port _ (sampled x)
  | acknowledge port x => exact takeRequest_port h port _ (sampled x)
  | cabinetFrameBegin => exact h.frame hs rfl
  | cabinetFrameEnd x sdi => exact endCabinetFrame_port h sdi (sampled x)
  | frameStart => show P (startFrame s); unfold startFrame; split <;> exact h.frame hs rfl
  | frameCutShort => show P (cutFrame s); unfold cutFrame; split <;> exact h.frame hs rfl
  | byteGapTimeout => show P (cutFrame s); unfold cutFrame; split <;> exact h.frame hs rfl
  | discardedFrame f => exact receiveFrame_port h _ f hs
  | ignoredFrame f => exact receiveFrame_port h _ f hs
  | opener t f => exact receiveFrame_port h t f (reached t)
  | requestFrame t x f => exact receiveFrame_port h t f (s := takeSample x (reachInstant t s)) (h.frame (reached t) rfl)
  | slotStart n => exact beginSlot_port h n hs
  | instantOfSending => exact sendDue_port h hs
  | transmissionEnd => exact endSending_port h hs
  | minuteEvent => exact timed rfl
  | holdoverEntry => exact enterHoldover_port h hs
  | holdoverRound => obtain ⟨x, k, e⟩ := countHoldover_still s; exact port_of_parts h hs e rfl
  | flowPulse p => exact field (.inl rfl)
  | noFlowExpiry p => exact field (.inl rfl)
  | dwellExpiry p => exact field (.inl rfl)
  | confirmExpiry p => exact field (.inl rfl)
  | feedbackCloses p => exact field (.inl rfl)
  | feedbackOpens p x => exact field (.inl rfl)
  | overloadTrip p => exact field (.inl rfl)
  | stopTimerExpiry p => exact field (.inl rfl)
  | lockoutExpiry p => exact field (.inl rfl)
  | valveLimitChange o c => exact field (.inr rfl)
  | travelTimerExpiry => exact field (.inr rfl)
  | levelReading v e => exact h.takeLevel v e s hs
  | validityTimerExpiry => exact h.validityExpiry s hs
  | floatChange b => exact field (.inr rfl)
  | probeReading k t e => obtain ⟨ps, e⟩ := takeProbe_still k t e s; exact port_of_parts h hs e rfl
  | silenceTimerExpiry k => obtain ⟨ps, e⟩ := silenceExpires_still k s; exact port_of_parts h hs e rfl
  | heaterCurrentChange c b => exact field (.inr rfl)
  | feedbackTimerExpiry c => exact field (.inr rfl)
  | commitEnd => show P (endCommit s); unfold endCommit; split <;> exact h.frame hs rfl
  | reset x => exact h.resetNow x s hs
  | ownerFormsResult x => exact formResult_port h (sampled x)
  | secondAdvance => exact timed rfl
  | _ => exact takeRequest_port h _ _ hs

theorem keptByStep_of_portLaw : KeptByStep P :=
  keptByStep_of_effects (fun _ _ _ _ _ hs => h.frame hs rfl) (fun n s hs => port_of_still h hs (handle_still n s))
    (fun i _ hs => ownEffect_port h i hs)

end

/-! ### The three laws -/

theorem resetNow_still (x : Pins) (s : State) : still (resetNow x s) = still (resetBlocks x s) := by
  have flagged (b : Bool) (t : State) : still (resetEvents b x t) = still t := by
    unfold resetEvents; dsimp only
    repeat' split
    all_goals simp only [setEvent_still]
  exact (judgeAllowance_still _).trans (flagged _ _)

theorem joinWindow_fits {w : List Nat} {v : Nat} (hw : ∀ r ∈ w, r ≤ 20000) (hv : v ≤ 20000) :
    (joinWindow w v).length ≤ 4 ∧ ∀ r ∈ joinWindow w v, r ≤ 20000 := by
  unfold joinWindow; dsimp only
  refine ⟨by rw [List.length_drop]; omega, fun r hr => ?_⟩
  rcases List.mem_append.1 (List.mem_of_mem_drop hr) with hr | hr
  · exact hw r hr
  · rw [List.mem_singleton.1 hr]; exact hv

theorem levelFits_portLaw : PortLaw LevelFits where
  frame {s t} hs e := by
    have hw : t.level.window = s.level.window := congrArg PortParts.window e
    have ht : t.level.timer = s.level.timer := congrArg PortParts.timer e
    have hr : t.level.rejected = s.level.rejected := congrArg PortParts.rejected e
    unfold LevelFits; rw [hw, ht, hr]; exact hs
  takeLevel v e s hs := by
    have announced (u : State) (hu : LevelFits u) : LevelFits (announceLevel u) := hu
    obtain ⟨hlen, hrange, htimer, hcount⟩ := hs
    unfold takeLevel; dsimp only; split
    · rename_i hv
      simp only [levelValid, Bool.and_eq_true, decide_eq_true_eq] at hv
      obtain ⟨hlen', hrange'⟩ := joinWindow_fits (v := v.toNat) hrange (by omega)
      have joined : LevelFits { s with level := { s.level with
          window := joinWindow s.level.window v.toNat, timer := some validityTime } } := ⟨hlen', hrange', fun _ => rfl, hcount⟩
      split
      · exact announced _ joined
      · exact joined
    · exact ⟨hlen, hrange, htimer, Nat.min_le_left _ _⟩
  validityExpiry s hs := by
    have emptied : LevelFits { s with level := { s.level with window := [], timer := none } } :=
      ⟨Nat.zero_le _, nofun, fun hn => absurd rfl hn, hs.2.2.2⟩
    unfold validityExpiry; dsimp only; repeat' split
    · exact emptied
    · exact emptied
    · exact hs
  tick n s hs := by
    obtain ⟨hlen, hrange, htimer, hcount⟩ := hs
    exact ⟨hlen, hrange, fun hw => by simpa [tickTimer] using htimer hw, hcount⟩
  unlock code s hs := by unfold unlockNow; repeat' split
                         all_goals exact hs
  lock _ hs := hs
  loseSync _ hs := hs
  countRound _ hs := hs
  holdResponse _ _ hs := hs
  idlePort _ hs := hs
  handRequest _ _ hs := hs
  resetNow x s _ := by
    have e := resetNow_still x s
    have hw : (resetNow x s).level.window = [] := congrArg Still.window e
    have hr : (resetNow x s).level.rejected = 0 := congrArg Still.rejected e
    simp [LevelFits, hw, hr]

theorem lockFits_portLaw : PortLaw LockFits where
  frame {s t} hs e := by
    have hu : t.remote.unlocked = s.remote.unlocked := congrArg PortParts.unlocked e
    have hl : t.remote.unlockLeft = s.remote.unlockLeft := congrArg PortParts.unlockLeft e
    have hr : t.remote.refusalLeft = s.remote.refusalLeft := congrArg PortParts.refusalLeft e
    unfold LockFits; rw [hu, hl, hr]; exact hs
  takeLevel v e s hs := by
    have announced (u : State) (hu : LockFits u) : LockFits (announceLevel u) := hu
    unfold takeLevel; dsimp only; repeat' split
    · exact announced _ hs
    · exact hs
    · exact hs
  validityExpiry s hs := by
    unfold validityExpiry; dsimp only; repeat' split
    all_goals exact hs
  tick _ _ hs := hs
  unlock code s hs := by
    obtain ⟨hopen, hleft, hrefusal⟩ := hs
    unfold unlockNow; repeat' split
    · exact ⟨hopen, hleft, hrefusal⟩
    · exact ⟨hopen, hleft, hrefusal⟩
    · exact ⟨fun _ => rfl, Nat.le_refl _, hrefusal⟩
    · exact ⟨fun h0 => absurd h0 (Nat.lt_irrefl _), Nat.zero_le _, Nat.le_refl _⟩
  lock _ hs := ⟨fun h0 => absurd h0 (Nat.lt_irrefl _), Nat.zero_le _, hs.2.2⟩
  loseSync _ hs := ⟨fun h0 => absurd h0 (Nat.lt_irrefl _), Nat.zero_le _, hs.2.2⟩
  countRound s hs := by
    obtain ⟨hopen, hleft, hrefusal⟩ := hs
    unfold LockFits countRound
    cases hu : s.remote.unlocked with
    | false =>
      have : s.remote.unlockLeft = 0 := by
        by_contra hne; rw [hopen (Nat.pos_of_ne_zero hne)] at hu; exact absurd hu nofun
      simp [this]; omega
    | true => simp; omega
  holdResponse _ _ hs := hs
  idlePort _ hs := hs
  handRequest _ _ hs := hs
  resetNow x s _ := by
    have hr : (resetNow x s).remote = State.reset.remote := congrArg Still.remote (resetNow_still x s)
    unfold LockFits; rw [hr]; exact ⟨nofun, Nat.zero_le _, Nat.zero_le _⟩

theorem portFits_portLaw : PortLaw PortFits where
  frame {s t} hs e := by
    have hp : t.cabinet.state = s.cabinet.state := congrArg PortParts.port e
    have hh : t.cabinet.held.isSome = s.cabinet.held.isSome := congrArg PortParts.held e
    have hf : t.cabinet.inFlight.isSome = s.cabinet.inFlight.isSome := congrArg PortParts.inFlight e
    unfold PortFits; rw [hp, hh, hf]; exact hs
  takeLevel v e s hs := by
    have announced (u : State) (hu : PortFits u) : PortFits (announceLevel u) := hu
    unfold takeLevel; dsimp only; repeat' split
    · exact announced _ hs
    · exact hs
    · exact hs
  validityExpiry s hs := by
    unfold validityExpiry; dsimp only; repeat' split
    all_goals exact hs
  tick _ _ hs := hs
  unlock code s hs := by unfold unlockNow; repeat' split
                         all_goals exact hs
  lock _ hs := hs
  loseSync _ hs := hs
  countRound _ hs := hs
  holdResponse _ _ _ := ⟨by simp [holdResponse], by simp [holdResponse]⟩
  idlePort _ _ := ⟨by simp [idlePort], by simp [idlePort]⟩
  handRequest _ _ _ := ⟨by simp [handRequest], by simp [handRequest]⟩
  resetNow x s _ := by
    have hc : (resetNow x s).cabinet = State.reset.cabinet := congrArg Still.cabinet (resetNow_still x s)
    unfold PortFits; rw [hc]; simp [State.reset]

/-- Settles O60: the channel's and the valve's laws by the primitive operations, the three others by the commands that write their
parts. -/
theorem smallLawsKept : Obligations.SmallLawsKept :=
  ⟨keptByStep_of_stepLaw pumpsFit_stepLaw, keptByStep_of_stepLaw valveFits_stepLaw, keptByStep_of_portLaw levelFits_portLaw,
    keptByStep_of_portLaw lockFits_portLaw, keptByStep_of_portLaw portFits_portLaw⟩

end Sys2Proof.Machine

/-! The claims of the pump channels and the circuits (R77, R97, R138): how each operation of the arbiter changes a claimant's standing,
and what an operation of one claimant leaves of the others. -/

namespace Sys2Proof.Machine

open Sys2Proof.Safety

/-! ### A claimant's standing in the arbiter -/

/-- The claimant holds a claim in the waiting list. -/
def Waits (k : Claimant) (s : State) : Prop := ∃ x ∈ s.arbiter.waiting, x.claimant = k

/-- The claimant holds a claim in the granted list. -/
def Grants (k : Claimant) (s : State) : Prop := ∃ x ∈ s.arbiter.granted, x.claimant = k

/-- A granted claim of the claimant is RECLAIMING. -/
def Reclaims (k : Claimant) (s : State) : Prop := ∃ x ∈ s.arbiter.granted, x.claimant = k ∧ x.reclaiming = true

theorem hasClaim_iff {k : Claimant} {s : State} : hasClaim k s = true ↔ Waits k s ∨ Grants k s := by
  simp [hasClaim, Waits, Grants]

theorem mem_enterWaiting {c x : Claim} {l : List Claim} : x ∈ enterWaiting c l ↔ x = c ∨ x ∈ l := by
  induction l with
  | nil => simp [enterWaiting]
  | cons y rest ih =>
    unfold enterWaiting; split
    · simp
    · simp [ih]; tauto

theorem enterWaiting_perm (c : Claim) (l : List Claim) : (enterWaiting c l).Perm (c :: l) := by
  induction l with
  | nil => exact List.Perm.refl _
  | cons y rest ih =>
    unfold enterWaiting; split
    · exact List.Perm.refl _
    · exact (ih.cons y).trans (List.Perm.swap c y rest)

section
variable (k j : Claimant) (s : State)

@[simp] theorem waits_dropGranted : Waits j (dropGranted k s) ↔ Waits j s := Iff.rfl

@[simp] theorem grants_dropGranted : Grants j (dropGranted k s) ↔ j ≠ k ∧ Grants j s := by
  simp only [Grants, dropGranted, List.mem_filter, decide_eq_true_eq]
  constructor
  · rintro ⟨x, ⟨hx, hk⟩, rfl⟩; exact ⟨hk, x, hx, rfl⟩
  · rintro ⟨hk, x, hx, rfl⟩; exact ⟨x, ⟨hx, hk⟩, rfl⟩

@[simp] theorem reclaims_dropGranted : Reclaims j (dropGranted k s) ↔ j ≠ k ∧ Reclaims j s := by
  simp only [Reclaims, dropGranted, List.mem_filter, decide_eq_true_eq]
  constructor
  · rintro ⟨x, ⟨hx, hk⟩, rfl, hr⟩; exact ⟨hk, x, hx, rfl, hr⟩
  · rintro ⟨hk, x, hx, rfl, hr⟩; exact ⟨x, ⟨hx, hk⟩, rfl, hr⟩

theorem dropWaiting_waiting :
    (dropWaiting k s).arbiter.waiting = s.arbiter.waiting.filter (fun x => x.claimant ≠ k) := by
  unfold dropWaiting; dsimp only; repeat' split
  all_goals rfl

/-- The withdrawal of a served claim returns the victims to GRANTED; no other changes the granted list. -/
theorem dropWaiting_granted :
    (dropWaiting k s).arbiter.granted = s.arbiter.granted ∨
      (dropWaiting k s).arbiter.granted = s.arbiter.granted.map (fun x => { x with reclaiming := false }) := by
  unfold dropWaiting; dsimp only; repeat' split
  · exact .inr rfl
  · exact .inl rfl
  · exact .inl rfl

@[simp] theorem waits_dropWaiting : Waits j (dropWaiting k s) ↔ j ≠ k ∧ Waits j s := by
  simp only [Waits, dropWaiting_waiting, List.mem_filter, decide_eq_true_eq]
  constructor
  · rintro ⟨x, ⟨hx, hk⟩, rfl⟩; exact ⟨hk, x, hx, rfl⟩
  · rintro ⟨hk, x, hx, rfl⟩; exact ⟨x, ⟨hx, hk⟩, rfl⟩

@[simp] theorem grants_dropWaiting : Grants j (dropWaiting k s) ↔ Grants j s := by
  unfold Grants
  rcases dropWaiting_granted k s with e | e <;> rw [e]
  simp

theorem reclaims_dropWaiting (h : Reclaims j (dropWaiting k s)) : Reclaims j s := by
  unfold Reclaims at h ⊢
  rcases dropWaiting_granted k s with e | e <;> rw [e] at h
  · exact h
  · simp at h

@[simp] theorem waits_enterClaim (u : Nat) (c : ClaimClass) :
    Waits j (enterClaim k u c s) ↔ Waits j s ∨ (j = k ∧ ¬ Grants j s) := by
  unfold enterClaim; split
  · rename_i h
    rw [hasClaim_iff] at h
    constructor
    · exact .inl
    · rintro (hw | ⟨rfl, hg⟩)
      · exact hw
      · exact h.resolve_right hg
  · rename_i h
    rw [hasClaim_iff] at h
    simp only [Waits, mem_enterWaiting, exists_eq_or_imp]
    constructor
    · rintro (rfl | hw)
      · exact .inr ⟨rfl, fun hg => h (.inr hg)⟩
      · exact .inl hw
    · rintro (hw | ⟨rfl, -⟩)
      · exact .inr hw
      · exact .inl rfl

@[simp] theorem grants_enterClaim (u : Nat) (c : ClaimClass) : Grants j (enterClaim k u c s) ↔ Grants j s := by
  unfold enterClaim; split <;> exact Iff.rfl

@[simp] theorem reclaims_enterClaim (u : Nat) (c : ClaimClass) : Reclaims j (enterClaim k u c s) ↔ Reclaims j s := by
  unfold enterClaim; split <;> exact Iff.rfl

@[simp] theorem waits_keepWeldedClaim (p : Fin 3) : Waits j (keepWeldedClaim p s) ↔ Waits j s := Iff.rfl

@[simp] theorem grants_keepWeldedClaim (p : Fin 3) : Grants j (keepWeldedClaim p s) ↔ Grants j s := by
  simp only [Grants, keepWeldedClaim, List.mem_map]
  constructor
  · rintro ⟨x, ⟨y, hy, rfl⟩, rfl⟩; exact ⟨y, hy, by split <;> rfl⟩
  · rintro ⟨x, hx, rfl⟩; exact ⟨_, ⟨x, hx, rfl⟩, by split <;> rfl⟩

theorem reclaims_keepWeldedClaim (p : Fin 3) (h : Reclaims j (keepWeldedClaim p s)) : j ≠ .pump p ∧ Reclaims j s := by
  simp only [Reclaims, keepWeldedClaim, List.mem_map] at h
  obtain ⟨x, ⟨y, hy, rfl⟩, hk, hr⟩ := h
  by_cases hp : y.claimant = .pump p
  · simp [hp] at hr
  · simp only [hp, if_false] at hk hr; exact ⟨hk ▸ hp, y, hy, hk, hr⟩

variable (c : Claim)

@[simp] theorem waits_moveToGranted : Waits j (moveToGranted c s) ↔ j ≠ c.claimant ∧ Waits j s := by
  simp only [Waits, moveToGranted, List.mem_filter, decide_eq_true_eq]
  constructor
  · rintro ⟨x, ⟨hx, hk⟩, rfl⟩; exact ⟨hk, x, hx, rfl⟩
  · rintro ⟨hk, x, hx, rfl⟩; exact ⟨x, ⟨hx, hk⟩, rfl⟩

@[simp] theorem grants_moveToGranted : Grants j (moveToGranted c s) ↔ j = c.claimant ∨ Grants j s := by
  simp only [Grants, moveToGranted, List.mem_append, List.mem_singleton]
  constructor
  · rintro ⟨x, hx | rfl, rfl⟩
    · exact .inr ⟨x, hx, rfl⟩
    · exact .inl rfl
  · rintro (rfl | ⟨x, hx, rfl⟩)
    · exact ⟨c, .inr rfl, rfl⟩
    · exact ⟨x, .inl hx, rfl⟩

theorem reclaims_moveToGranted (h : Reclaims j (moveToGranted c s)) : j = c.claimant ∨ Reclaims j s := by
  simp only [Reclaims, moveToGranted, List.mem_append, List.mem_singleton] at h
  obtain ⟨x, hx | rfl, rfl, hr⟩ := h
  · exact .inr ⟨x, hx, rfl, hr⟩
  · exact .inl rfl

variable (vs : List Claimant)

@[simp] theorem waits_markReclaim : Waits j (markReclaim c vs s) ↔ Waits j s := Iff.rfl

@[simp] theorem grants_markReclaim : Grants j (markReclaim c vs s) ↔ Grants j s := by
  simp only [Grants, markReclaim, List.mem_map]
  constructor
  · rintro ⟨x, ⟨y, hy, rfl⟩, rfl⟩; exact ⟨y, hy, by split <;> rfl⟩
  · rintro ⟨x, hx, rfl⟩; exact ⟨_, ⟨x, hx, rfl⟩, by split <;> rfl⟩

theorem reclaims_markReclaim (h : Reclaims j (markReclaim c vs s)) : j ∈ vs ∨ Reclaims j s := by
  simp only [Reclaims, markReclaim, List.mem_map] at h
  obtain ⟨x, ⟨y, hy, rfl⟩, hk, hr⟩ := h
  by_cases hv : vs.contains y.claimant
  · simp only [hv, if_true] at hk; exact .inl (by rw [← hk]; simpa using hv)
  · simp only [hv, if_neg Bool.false_ne_true] at hk hr; exact .inr ⟨y, hy, hk, hr⟩

end

/-! ### One claim to a claimant -/

section
variable {s : State} (h : ClaimsFit s)
include h

theorem dropGranted_fit (k : Claimant) : ClaimsFit (dropGranted k s) := by
  unfold ClaimsFit dropGranted at *
  exact h.sublist (((List.Sublist.refl _).append (List.filter_sublist)).map _)

theorem dropWaiting_fit (k : Claimant) : ClaimsFit (dropWaiting k s) := by
  unfold ClaimsFit at *
  rw [dropWaiting_waiting]
  have dropped : ((s.arbiter.waiting.filter (fun x => x.claimant ≠ k) ++ s.arbiter.granted).map (·.claimant)).Nodup :=
    h.sublist ((List.filter_sublist.append (List.Sublist.refl _)).map _)
  rcases dropWaiting_granted k s with e | e <;> rw [e]
  · exact dropped
  · simpa [Function.comp_def] using dropped

theorem enterClaim_fit (k : Claimant) (u : Nat) (c : ClaimClass) : ClaimsFit (enterClaim k u c s) := by
  unfold enterClaim; split
  · exact h
  · rename_i hk
    rw [hasClaim_iff] at hk
    unfold ClaimsFit at *
    dsimp only
    refine (((enterWaiting_perm _ _).append_right _).map _).nodup_iff.2 ?_
    simp only [List.cons_append, List.map_cons, List.nodup_cons]
    refine ⟨fun hm => hk ?_, h⟩
    obtain ⟨x, hx, e⟩ := List.mem_map.1 hm
    exact (List.mem_append.1 hx).imp (fun hx => ⟨x, hx, e⟩) (fun hx => ⟨x, hx, e⟩)

theorem moveToGranted_fit {c : Claim} (hc : c ∈ s.arbiter.waiting) : ClaimsFit (moveToGranted c s) := by
  unfold ClaimsFit at *
  rw [List.map_append, List.nodup_append] at h
  obtain ⟨hw, hg, hd⟩ := h
  simp only [moveToGranted, List.map_append, List.map_singleton]
  rw [← List.append_assoc, List.nodup_append, List.nodup_append]
  have left : ∀ x ∈ s.arbiter.waiting.filter (fun x => x.claimant ≠ c.claimant), x.claimant ≠ c.claimant :=
    fun x hx => by simpa using (List.mem_filter.1 hx).2
  refine ⟨⟨hw.sublist (List.filter_sublist.map _), hg, fun a ha b hb => ?_⟩, by simp, fun a ha b hb => ?_⟩
  · obtain ⟨x, hx, rfl⟩ := List.mem_map.1 ha
    exact hd _ (List.mem_map.2 ⟨x, (List.mem_filter.1 hx).1, rfl⟩) b hb
  · rw [List.mem_singleton.1 hb]
    rcases List.mem_append.1 ha with ha | ha
    · obtain ⟨x, hx, rfl⟩ := List.mem_map.1 ha; exact left x hx
    · exact fun e => hd _ (List.mem_map.2 ⟨c, hc, rfl⟩) a ha e.symm

theorem mapGranted_fit {t : State} (f : Claim → Claim) (hf : ∀ x, (f x).claimant = x.claimant)
    (hw : t.arbiter.waiting = s.arbiter.waiting) (hg : t.arbiter.granted = s.arbiter.granted.map f) : ClaimsFit t := by
  unfold ClaimsFit at *
  rw [hw, hg]
  simpa [Function.comp_def, hf] using h

theorem keepWeldedClaim_fit (p : Fin 3) : ClaimsFit (keepWeldedClaim p s) :=
  mapGranted_fit h _ (fun x => by split <;> rfl) rfl rfl

theorem markReclaim_fit (c : Claim) (vs : List Claimant) : ClaimsFit (markReclaim c vs s) :=
  mapGranted_fit h _ (fun x => by split <;> rfl) rfl rfl

end

/-! ### What a claimant's own state calls for -/

/-- The parts of the state that the claims laws speak of. -/
structure ClaimParts where
  arbiter : Arbiter
  pumps : Trio Pump
  feedback : Trio Bool
  circuits : Octo CircuitState

def claimParts (s : State) : ClaimParts :=
  { arbiter := s.arbiter, pumps := s.pumps, feedback := s.inputs.feedback, circuits := s.frost.circuits.map (·.state) }

theorem claimParts_of_plantParts {s t : State} (h : plantParts t = plantParts s) : claimParts t = claimParts s :=
  congrArg (fun x : PlantParts => ClaimParts.mk x.arbiter x.pumps x.feedback x.circuits) h

theorem circuit_of_claimParts {s t : State} (h : claimParts t = claimParts s) (c : Fin 8) :
    (t.frost.circuits.get c).state = (s.frost.circuits.get c).state := by
  have e : t.frost.circuits.map (·.state) = s.frost.circuits.map (·.state) := congrArg ClaimParts.circuits h
  simpa using congrArg (fun x : Octo CircuitState => x.get c) e

/-- A claimant's own part of the state: a channel with its feedback input, or a circuit's state. -/
def own (s : State) : Claimant → (Pump × Bool) ⊕ CircuitState
  | .pump p => .inl (s.pumps.get p, s.inputs.feedback.get p)
  | .circuit c => .inr (s.frost.circuits.get c).state

/-- The standing and the judged feedback a channel's state calls for (R77, R86, R89). -/
def PumpHolds (q : Pump) (fb : Bool) (w g r : Prop) : Prop :=
  (w ↔ q.state = .claiming) ∧
    (g ↔ q.state = .starting ∨ q.state = .running ∨ q.state = .stopping ∨ (q.state = .faulted ∧ q.judged = true)) ∧
    (q.state = .faulted → ¬ r) ∧ (q.state = .stopping → q.judged = true ∧ fb = true) ∧
    (q.state = .faulted → q.judged = true → q.cause = some .welded ∧ fb = true) ∧
    (q.state = .stopped ∨ q.state = .lockout ∨ q.state = .claiming → q.judged = false)

/-- The standing a circuit's state calls for (R138). Of an exempt circuit, one that has been told to shed and has not claimed again, only
this: it calls, sheds or heats, and a claim it holds is where its state calls for. -/
def CircuitHolds (exempt : Prop) (x : CircuitState) (w g : Prop) : Prop :=
  (w → x = .calling ∨ x = .shed) ∧ (g ↔ x = .heating) ∧ (¬ exempt → x = .calling ∨ x = .shed → w) ∧
    (exempt → x = .calling ∨ x = .shed ∨ x = .heating)

/-- The claimant's standing is what its own state calls for. -/
def Holds (exempt : Fin 8 → Prop) (k : Claimant) (s : State) : Prop :=
  match k with
  | .pump p => PumpHolds (s.pumps.get p) (s.inputs.feedback.get p) (Waits k s) (Grants k s) (Reclaims k s)
  | .circuit c => CircuitHolds (exempt c) (s.frost.circuits.get c).state (Waits k s) (Grants k s)

/-- One claim to a claimant; and, when the fuller law is asked for, each claimant's standing is what its state calls for. -/
def Matching (full : Prop) (exempt : Fin 8 → Prop) (s : State) : Prop :=
  ClaimsFit s ∧ (full → ∀ k, Holds exempt k s)

theorem claimsMatch_iff (s : State) : ClaimsMatch s ↔ Matching True (fun _ => False) s := by
  have pump (p : Fin 3) : PumpClaimsMatch s p ∧ PumpFeedbackFits s p ↔ Holds (fun _ => False) (.pump p) s := by
    have reclaim : (∀ c ∈ s.arbiter.granted, c.claimant = .pump p → c.reclaiming = false) ↔ ¬ Reclaims (.pump p) s := by
      simp [Reclaims]
    unfold PumpClaimsMatch PumpFeedbackFits
    dsimp only
    rw [reclaim]
    exact and_assoc.trans (and_congr_right fun _ => and_assoc)
  have circuit (c : Fin 8) : CircuitClaimsMatch s c ↔ Holds (fun _ => False) (.circuit c) s := by
    simp only [CircuitClaimsMatch, Holds, CircuitHolds, Waits, Grants, iff_iff_implies_and_implies, not_false_eq_true, true_imp_iff,
      false_imp_iff, and_true]
    tauto
  unfold ClaimsMatch Matching
  refine and_congr_right fun _ => ?_
  constructor
  · rintro ⟨hp, hc⟩ - (p | c)
    · exact (pump p).1 (hp p)
    · exact (circuit c).1 (hc c)
  · exact fun h => ⟨fun p => (pump p).2 (h trivial (.pump p)), fun c => (circuit c).2 (h trivial (.circuit c))⟩

theorem claimsFit_iff (s : State) : ClaimsFit s ↔ Matching False (fun _ => False) s :=
  ⟨fun h => ⟨h, False.elim⟩, fun h => h.1⟩

/-! ### Operations of one claimant -/

/-- The claimant's own state and its standing are as they were, but that a reclaim of its claim may have ended. -/
def SameAt (k : Claimant) (s t : State) : Prop :=
  own t k = own s k ∧ (Waits k t ↔ Waits k s) ∧ (Grants k t ↔ Grants k s) ∧ (Reclaims k t → Reclaims k s)

theorem SameAt.refl (k : Claimant) (s : State) : SameAt k s s := ⟨rfl, Iff.rfl, Iff.rfl, id⟩

theorem SameAt.trans {k : Claimant} {s t u : State} (h : SameAt k s t) (h' : SameAt k t u) : SameAt k s u := by
  obtain ⟨ho, hw, hg, hr⟩ := h
  obtain ⟨ho', hw', hg', hr'⟩ := h'
  exact ⟨ho'.trans ho, hw'.trans hw, hg'.trans hg, fun e => hr (hr' e)⟩

theorem sameAt_of_own {k : Claimant} {s t : State} (ho : own t k = own s k) (ha : t.arbiter = s.arbiter) : SameAt k s t := by
  refine ⟨ho, ?_, ?_, ?_⟩
  · unfold Waits; rw [ha]
  · unfold Grants; rw [ha]
  · unfold Reclaims; rw [ha]; exact id

theorem SameAt.holds {exempt : Fin 8 → Prop} {k : Claimant} {s t : State} (h : SameAt k s t) (hs : Holds exempt k s) :
    Holds exempt k t := by
  obtain ⟨ho, hw, hg, hr⟩ := h
  cases k with
  | pump p =>
    obtain ⟨hq, hf⟩ := Prod.mk.inj (Sum.inl.inj ho)
    obtain ⟨h1, h2, h3, h4, h5, h6⟩ := hs
    show PumpHolds (t.pumps.get p) (t.inputs.feedback.get p) (Waits _ t) (Grants _ t) (Reclaims _ t)
    rw [hq, hf]
    exact ⟨hw.trans h1, hg.trans h2, fun e hrt => h3 e (hr hrt), h4, h5, h6⟩
  | circuit c =>
    have hc : (t.frost.circuits.get c).state = (s.frost.circuits.get c).state := Sum.inr.inj ho
    unfold Holds at hs ⊢
    dsimp only at hs ⊢
    rwa [hc, hw, hg]

/-- The operation is one of this claimant: it keeps one claim to a claimant, and the others stand. -/
def OnlyMoves (k : Claimant) (s t : State) : Prop := (ClaimsFit s → ClaimsFit t) ∧ ∀ j, j ≠ k → SameAt j s t

theorem OnlyMoves.trans {k : Claimant} {s t u : State} (h : OnlyMoves k s t) (h' : OnlyMoves k t u) : OnlyMoves k s u :=
  ⟨fun e => h'.1 (h.1 e), fun j hj => (h.2 j hj).trans (h'.2 j hj)⟩

theorem OnlyMoves.refl (k : Claimant) (s : State) : OnlyMoves k s s := ⟨id, fun j _ => SameAt.refl j s⟩

/-- The parts that are not spoken of may change. -/
theorem onlyMoves_of_claimParts {k : Claimant} {s t : State} (h : claimParts t = claimParts s) : OnlyMoves k s t := by
  have ha : t.arbiter = s.arbiter := congrArg ClaimParts.arbiter h
  have hp : t.pumps = s.pumps := congrArg ClaimParts.pumps h
  have hf : t.inputs.feedback = s.inputs.feedback := congrArg ClaimParts.feedback h
  refine ⟨fun e => by unfold ClaimsFit; rw [ha]; exact e, fun j _ => sameAt_of_own ?_ ha⟩
  cases j with
  | pump p => unfold own; rw [hp, hf]
  | circuit c => exact congrArg Sum.inr (circuit_of_claimParts h c)

theorem OnlyMoves.frame {k : Claimant} {s t u : State} (h : OnlyMoves k s t) (e : claimParts u = claimParts t) : OnlyMoves k s u :=
  h.trans (onlyMoves_of_claimParts e)

theorem onlyMoves_of_own {k : Claimant} {s t : State} (ho : ∀ j, j ≠ k → own t j = own s j) (ha : t.arbiter = s.arbiter) :
    OnlyMoves k s t :=
  ⟨fun e => by unfold ClaimsFit; rw [ha]; exact e, fun j hj => sameAt_of_own (ho j hj) ha⟩

theorem setPump_onlyMoves (p : Fin 3) (q : Pump) (s : State) : OnlyMoves (.pump p) s (setPump p q s) := by
  refine onlyMoves_of_own (fun j hj => ?_) rfl
  cases j with
  | pump k =>
    have hk : k ≠ p := fun e => hj (by rw [e])
    simp only [own, setPump_pumps, setPump_inputs, trio_get_set_other _ _ _ _ hk]
  | circuit c => rfl

theorem setFeedback_onlyMoves (p : Fin 3) (b : Bool) (s : State) :
    OnlyMoves (.pump p) s { s with inputs := { s.inputs with feedback := s.inputs.feedback.set p b } } := by
  refine onlyMoves_of_own (fun j hj => ?_) rfl
  cases j with
  | pump k =>
    have hk : k ≠ p := fun e => hj (by rw [e])
    simp only [own, trio_get_set_other _ _ _ _ hk]
  | circuit c => rfl

theorem setCircuit_onlyMoves (c : Fin 8) (q : Circuit) (s : State) : OnlyMoves (.circuit c) s (setCircuit c q s) := by
  refine onlyMoves_of_own (fun j hj => ?_) rfl
  cases j with
  | pump k => rfl
  | circuit d =>
    have hd : d ≠ c := fun e => hj (by rw [e])
    simp only [own, setCircuit_circuits, octo_get_set_other _ _ _ _ hd]

/-- An operation of the arbiter alone on one claimant. -/
theorem onlyMoves_of_standing {k : Claimant} {s t : State} (hfit : ClaimsFit s → ClaimsFit t) (ho : ∀ j, own t j = own s j)
    (hw : ∀ j, j ≠ k → (Waits j t ↔ Waits j s)) (hg : ∀ j, j ≠ k → (Grants j t ↔ Grants j s))
    (hr : ∀ j, j ≠ k → Reclaims j t → Reclaims j s) : OnlyMoves k s t :=
  ⟨hfit, fun j hj => ⟨ho j, hw j hj, hg j hj, hr j hj⟩⟩

theorem own_congr {s t : State} (hp : t.pumps = s.pumps) (hi : t.inputs = s.inputs) (hf : t.frost = s.frost) (j : Claimant) :
    own t j = own s j := by
  cases j <;> simp [own, hp, hi, hf]

theorem dropGranted_onlyMoves (k : Claimant) (s : State) : OnlyMoves k s (dropGranted k s) :=
  onlyMoves_of_standing (fun h => dropGranted_fit h k) (own_congr rfl rfl rfl) (fun j _ => Iff.rfl) (fun j hj => by simp [hj])
    (fun j hj => by simp [hj])

theorem dropWaiting_own (k : Claimant) (s : State) (j : Claimant) : own (dropWaiting k s) j = own s j := by
  unfold dropWaiting; dsimp only; repeat' split
  all_goals exact own_congr rfl rfl rfl j

theorem dropWaiting_onlyMoves (k : Claimant) (s : State) : OnlyMoves k s (dropWaiting k s) :=
  onlyMoves_of_standing (fun h => dropWaiting_fit h k) (dropWaiting_own k s) (fun j hj => by simp [hj]) (fun j _ => by simp)
    (fun j _ => reclaims_dropWaiting k j s)

theorem enterClaim_own (k : Claimant) (u : Nat) (c : ClaimClass) (s : State) (j : Claimant) :
    own (enterClaim k u c s) j = own s j := by
  unfold enterClaim; split <;> exact own_congr rfl rfl rfl j

theorem enterClaim_onlyMoves (k : Claimant) (u : Nat) (c : ClaimClass) (s : State) : OnlyMoves k s (enterClaim k u c s) :=
  onlyMoves_of_standing (fun h => enterClaim_fit h k u c) (enterClaim_own k u c s) (fun j hj => by simp [hj]) (fun j _ => by simp)
    (fun j _ => by simp)

theorem keepWeldedClaim_onlyMoves (p : Fin 3) (s : State) : OnlyMoves (.pump p) s (keepWeldedClaim p s) :=
  onlyMoves_of_standing (fun h => keepWeldedClaim_fit h p) (own_congr rfl rfl rfl) (fun _ _ => Iff.rfl) (fun j _ => by simp)
    (fun j _ h => (reclaims_keepWeldedClaim j s p h).2)

theorem moveToGranted_onlyMoves {c : Claim} {s : State} (hc : c ∈ s.arbiter.waiting) :
    OnlyMoves c.claimant s (moveToGranted c s) :=
  onlyMoves_of_standing (fun h => moveToGranted_fit h hc) (own_congr rfl rfl rfl) (fun j hj => by simp [hj])
    (fun j hj => by simp [hj]) (fun j hj h => (reclaims_moveToGranted j s c h).resolve_left hj)

theorem enterLockout_onlyMoves (p : Fin 3) (s : State) : OnlyMoves (.pump p) s (enterLockout p s) :=
  (setPump_onlyMoves p _ s).frame rfl

theorem enterFaulted_onlyMoves (p : Fin 3) (why : FaultCause) (s : State) : OnlyMoves (.pump p) s (enterFaulted p why s) := by
  unfold enterFaulted; dsimp only; split <;> exact (setPump_onlyMoves p _ s).frame rfl

/-- An operation of one claimant keeps the law when it keeps that claimant's part of it. -/
theorem Matching.move {full : Prop} {exempt : Fin 8 → Prop} {k : Claimant} {s t : State} (h : Matching full exempt s)
    (hm : OnlyMoves k s t) (hk : full → Holds exempt k s → Holds exempt k t) : Matching full exempt t := by
  obtain ⟨fit, holds⟩ := h
  refine ⟨hm.1 fit, fun hf j => ?_⟩
  by_cases hj : j = k
  · subst hj; exact hk hf (holds hf j)
  · exact (hm.2 j hj).holds (holds hf j)

theorem Matching.frame {full : Prop} {exempt : Fin 8 → Prop} {s t : State} (h : Matching full exempt s)
    (e : claimParts t = claimParts s) : Matching full exempt t := by
  have moved (k : Claimant) : OnlyMoves k s t := onlyMoves_of_claimParts e
  refine ⟨(moved (.pump 0)).1 h.1, fun hf j => ?_⟩
  by_cases hj : j = .pump 0
  · subst hj; exact ((moved (.pump 1)).2 (.pump 0) (by decide)).holds (h.2 hf _)
  · exact ((moved (.pump 0)).2 j hj).holds (h.2 hf j)

end Sys2Proof.Machine

/-! The granting walk, the pump channels and the circuits keep the claims laws (R77, R97, R138). A walk may shed circuits one after
another, with a walk after each release; a circuit that has shed and not yet claimed again is exempt from the half of its law that asks
for its claim. -/

namespace Sys2Proof.Machine

open Sys2Proof.Safety

/-! ### Grants -/

theorem holds_pump {exempt : Fin 8 → Prop} {p : Fin 3} {s : State} :
    Holds exempt (.pump p) s ↔
      PumpHolds (s.pumps.get p) (s.inputs.feedback.get p) (Waits (.pump p) s) (Grants (.pump p) s) (Reclaims (.pump p) s) := Iff.rfl

theorem holds_circuit {exempt : Fin 8 → Prop} {c : Fin 8} {s : State} :
    Holds exempt (.circuit c) s ↔
      CircuitHolds (exempt c) (s.frost.circuits.get c).state (Waits (.circuit c) s) (Grants (.circuit c) s) := Iff.rfl

theorem standing_congr {s t : State} (h : t.arbiter = s.arbiter) (k : Claimant) :
    (Waits k t ↔ Waits k s) ∧ (Grants k t ↔ Grants k s) ∧ (Reclaims k t ↔ Reclaims k s) := by
  unfold Waits Grants Reclaims; rw [h]; exact ⟨Iff.rfl, Iff.rfl, Iff.rfl⟩

/-- A written channel keeps the law when its new entry calls for the standing it has. -/
theorem Matching.setPump {full : Prop} {exempt : Fin 8 → Prop} {s : State} {p : Fin 3} {q : Pump} (h : Matching full exempt s)
    (hq : full → PumpHolds (s.pumps.get p) (s.inputs.feedback.get p) (Waits (.pump p) s) (Grants (.pump p) s) (Reclaims (.pump p) s) →
      PumpHolds q (s.inputs.feedback.get p) (Waits (.pump p) s) (Grants (.pump p) s) (Reclaims (.pump p) s)) :
    Matching full exempt (setPump p q s) :=
  h.move (setPump_onlyMoves p q s) fun hf hs => by
    rw [holds_pump, setPump_pumps, trio_get_set_same]; exact hq hf hs

section
variable {full : Prop} {exempt : Fin 8 → Prop}

theorem confirmRunning_matching {p : Fin 3} {s : State} (h : Matching full exempt s) (hq : (s.pumps.get p).state = .starting) :
    Matching full exempt (confirmRunning p s) := by
  refine Matching.frame (h.setPump (p := p) (q := { s.pumps.get p with
    state := .running, dwell := none, confirm := none, attempts := 0, pendingStart := none }) fun _ hs => ?_) rfl
  simpa [PumpHolds, hq] using hs

/-- The claim at the head of the waiting list is granted: its claimant waits for it (R103). -/
theorem grant_matching {c : Claim} {s : State} (h : Matching full exempt s) (hc : c ∈ s.arbiter.waiting) :
    Matching full exempt (takeGrant c.claimant (moveToGranted c s)) := by
  have moved := moveToGranted_onlyMoves hc
  have waits : Waits c.claimant s := ⟨c, hc, rfl⟩
  have granted : Waits c.claimant (moveToGranted c s) ↔ False := by simp
  have holds : Grants c.claimant (moveToGranted c s) ↔ True := by simp
  generalize ht : moveToGranted c s = t at *
  have own : own t c.claimant = own s c.claimant := by rw [← ht]; exact own_congr rfl rfl rfl _
  cases hk : c.claimant with
  | pump p =>
    rw [hk] at moved waits granted holds own
    obtain ⟨hp, hf⟩ := Prod.mk.inj (Sum.inl.inj own)
    by_cases hq : (t.pumps.get p).state = .claiming
    · have starts (d : Option Nat) : Matching full exempt (emit (.pumpChanged p) (setPump p
          { t.pumps.get p with state := .starting, judged := t.inputs.feedback.get p, dwell := d,
                               confirm := some (t.gs.dwell.get p + t.gs.confirmTime) } t)) := by
        refine h.move ((moved.trans (setPump_onlyMoves p _ t)).frame rfl) fun _ _ => ?_
        rw [holds_pump]
        obtain ⟨hw, hg, -⟩ := standing_congr (s := t) (t := emit (.pumpChanged p) (setPump p
          { t.pumps.get p with state := .starting, judged := t.inputs.feedback.get p, dwell := d,
                               confirm := some (t.gs.dwell.get p + t.gs.confirmTime) } t)) rfl (.pump p)
        simp [PumpHolds, hw, hg, granted, holds]
      show Matching full exempt (takePumpGrant p t)
      unfold takePumpGrant; dsimp only; rw [if_neg (not_not.2 hq)]; split
      · exact confirmRunning_matching (starts _) (by simp)
      · exact starts _
    · show Matching full exempt (takePumpGrant p t)
      unfold takePumpGrant; dsimp only; rw [if_pos hq]
      refine h.move moved fun _ hs => ?_
      rw [holds_pump] at hs
      exact absurd (hp ▸ hs.1.1 waits) hq
  | circuit d =>
    rw [hk] at moved waits granted holds own
    have hx : (t.frost.circuits.get d).state = (s.frost.circuits.get d).state := Sum.inr.inj own
    show Matching full exempt (takeCircuitGrant d t)
    unfold takeCircuitGrant; dsimp only; split
    · refine h.move (moved.trans (setCircuit_onlyMoves d _ t)) fun _ _ => ?_
      rw [holds_circuit]
      obtain ⟨hw, hg, -⟩ := standing_congr (s := t) (t := setCircuit d { t.frost.circuits.get d with
        state := .heating, timer := if t.inputs.current.get d then none else some 30 } t) rfl (.circuit d)
      simp [CircuitHolds, hw, hg, granted, holds]
    · rename_i hn
      refine h.move moved fun _ hs => ?_
      rw [holds_circuit] at hs
      exact absurd (hx ▸ hs.1 waits) hn

/-! ### Reclaims -/

theorem mem_takeVictims {x : Claim} {a n : Nat} {l : List Claim} (h : x ∈ takeVictims a n l) : x ∈ l := by
  induction l generalizing a with
  | nil => exact h
  | cons c rest ih =>
    unfold takeVictims at h
    split at h
    · exact absurd h List.not_mem_nil
    · rcases List.mem_cons.1 h with rfl | h
      · exact List.mem_cons_self
      · exact List.mem_cons_of_mem _ (ih h)

/-- No victim of a reclaim is a pump in FAULTED (R104). -/
theorem victims_not_faulted {s : State} {cls : ClaimClass} {a n : Nat} {p : Fin 3}
    (h : .pump p ∈ (takeVictims a n (victimOrder s cls)).map (·.claimant)) : (s.pumps.get p).state ≠ .faulted := by
  obtain ⟨x, hx, hp⟩ := List.mem_map.1 h
  obtain ⟨k, -, hx⟩ := List.mem_flatMap.1 (mem_takeVictims hx)
  have he : eligible s cls x = true := (List.mem_filter.1 (List.mem_filter.1 hx).1).2
  unfold eligible at he
  rw [hp, Bool.and_eq_true] at he
  simpa using he.2

theorem markReclaim_matching {s : State} (h : Matching full exempt s) (c : Claim) {vs : List Claimant}
    (hv : ∀ p, .pump p ∈ vs → (s.pumps.get p).state ≠ .faulted) : Matching full exempt (markReclaim c vs s) := by
  refine ⟨markReclaim_fit h.1 c vs, fun hf k => ?_⟩
  have hs := h.2 hf k
  cases k with
  | pump p =>
    obtain ⟨h1, h2, h3, h4⟩ := hs
    refine ⟨h1, (grants_markReclaim _ s c vs).trans h2, fun he hr => ?_, h4⟩
    exact (reclaims_markReclaim _ s c vs hr).elim (fun hm => hv p hm he) (h3 he)
  | circuit d =>
    obtain ⟨h1, h2, h3⟩ := hs
    exact ⟨h1, (grants_markReclaim _ s c vs).trans h2, h3⟩

theorem reportReclaim_claimParts (k : Claimant) (s : State) : claimParts (reportReclaim k s) = claimParts s := by
  unfold reportReclaim; repeat' split
  all_goals rfl

/-- A circuit victim sheds, with a walk that keeps the law after its release and after its new claim (R141). -/
theorem shedCircuit_matching {w : State → State} (hw : ∀ (e : Fin 8 → Prop) t, Matching full e t → Matching full e (w t))
    (k : Claimant) {s : State} (h : Matching full exempt s) : Matching full exempt (shedCircuit w k s) := by
  cases k with
  | pump p => exact h
  | circuit c =>
    have exempted : Matching full (fun d => d = c ∨ exempt d)
        (dropGranted (.circuit c) (setCircuit c { s.frost.circuits.get c with state := .shed, timer := none } s)) := by
      have dropped := (setCircuit_onlyMoves c { s.frost.circuits.get c with state := .shed, timer := none } s).trans
        (dropGranted_onlyMoves (.circuit c) _)
      refine ⟨dropped.1 h.1, fun hf k => ?_⟩
      by_cases hk : k = .circuit c
      · subst hk
        rw [holds_circuit]
        simp [CircuitHolds, show (dropGranted (.circuit c) (setCircuit c { s.frost.circuits.get c with
          state := .shed, timer := none } s)).frost.circuits = s.frost.circuits.set c { s.frost.circuits.get c with
          state := .shed, timer := none } from rfl]
      · have same := (dropped.2 k hk).holds (h.2 hf k)
        cases k with
        | pump p => exact same
        | circuit d =>
          have hd : d ≠ c := fun e => hk (by rw [e])
          rw [holds_circuit] at same ⊢
          simpa [hd] using same
    have walked := hw _ _ exempted
    unfold shedCircuit; dsimp only
    generalize w (dropGranted (.circuit c) (setCircuit c { s.frost.circuits.get c with state := .shed, timer := none } s)) = t at walked
    refine hw _ _ ⟨enterClaim_fit walked.1 _ _ _, fun hf k => ?_⟩
    by_cases hk : k = .circuit c
    · subst hk
      have held := walked.2 hf (.circuit c)
      have same : (enterClaim (.circuit c) (t.gs.circuitRating.get c) (roleClass (t.gs.role.get c)) t).frost = t.frost := by
        unfold enterClaim; split <;> rfl
      rw [holds_circuit] at held ⊢
      rw [same]
      simp only [CircuitHolds, waits_enterClaim, grants_enterClaim, true_or, not_true_eq_false, false_imp_iff, true_imp_iff,
        true_and] at held ⊢
      obtain ⟨waits, grants, states⟩ := held
      refine ⟨?_, grants, fun _ hx => .inr ?_, fun _ => states⟩
      · rintro (hw | hg)
        · exact waits hw
        · rw [grants] at hg; tauto
      · rw [grants]; rcases hx with hx | hx <;> rw [hx] <;> nofun
    · have same := ((enterClaim_onlyMoves (.circuit c) (t.gs.circuitRating.get c) (roleClass (t.gs.role.get c)) t).2 k hk).holds
        (walked.2 hf k)
      cases k with
      | pump p => exact same
      | circuit d =>
        have hd : d ≠ c := fun e => hk (by rw [e])
        rw [holds_circuit] at same ⊢
        simpa [hd] using same

/-- The granting walk keeps the claims laws. -/
theorem walk_matching (n : Nat) (e : Fin 8 → Prop) (s : State) (h : Matching full e s) : Matching full e (walk n s) := by
  induction n generalizing e s with
  | zero => exact h.frame rfl
  | succ n ih =>
    unfold walk; dsimp only; split
    · exact h
    split
    · exact h
    · rename_i c rest hlist
      split
      · exact ih _ _ (grant_matching h (by rw [hlist]; exact List.mem_cons_self))
      split
      · exact h
      · have marked : Matching full e (markReclaim c
            ((takeVictims (freeUnits s) c.units (victimOrder s c.cls)).map (·.claimant)) s) :=
          markReclaim_matching h c fun p hp => victims_not_faulted hp
        refine foldl_keeps (Matching full e) _ (fun t k ht => shedCircuit_matching ih k ht) _ _ ?_
        exact foldl_keeps (Matching full e) _ (fun t k ht => ht.frame (reportReclaim_claimParts k t)) _ _ marked

theorem runWalk_matching {s : State} (h : Matching full exempt s) : Matching full exempt (runWalk s) := walk_matching 64 _ s h

end

end Sys2Proof.Machine

/-! The pump channels, the circuits, the guard's stops and reset keep the claims laws (R77, R97, R138). -/

namespace Sys2Proof.Machine

open Sys2Proof.Safety

/-- No circuit is exempt. -/
abbrev Unexempt : Fin 8 → Prop := fun _ => False

/-- The claims law between the operations of the blocks: one claim to a claimant, or what each claimant's state calls for besides. -/
abbrev ClaimsLaw (full : Prop) (s : State) : Prop := Matching full Unexempt s

theorem emitSetPump_onlyMoves (p : Fin 3) (n : Note) (q : Pump) (s : State) : OnlyMoves (.pump p) s (emit n (setPump p q s)) :=
  (setPump_onlyMoves p q s).frame rfl

/-- The feedback input of a pump as it is found. -/
def setFeedback (p : Fin 3) (b : Bool) (s : State) : State :=
  { s with inputs := { s.inputs with feedback := s.inputs.feedback.set p b } }

@[simp] theorem setFeedback_pumps (p : Fin 3) (b : Bool) (s : State) : (setFeedback p b s).pumps = s.pumps := rfl
@[simp] theorem setFeedback_get (p : Fin 3) (b : Bool) (s : State) : (setFeedback p b s).inputs.feedback.get p = b :=
  trio_get_set_same _ _ _

/-- The state a completed stop gives the channel, before its claim is released (R86). -/
def stopEnds (p : Fin 3) (s : State) : State :=
  let s1 := setPump p { s.pumps.get p with stopTimer := none, stopCause := .none } s
  match (s.pumps.get p).stopCause with
  | .none => enterLockout p s1
  | .retry => enterLockout p s1
  | .noStart => enterFaulted p .noStart s1
  | .noFlow => enterFaulted p .noFlow s1
  | .overload => enterFaulted p .overload s1

theorem completeStopBy_eq (w : State → State) (p : Fin 3) (s : State) :
    completeStopBy w p s = w (dropGranted (.pump p) (stopEnds p s)) := by
  cases h : (s.pumps.get p).stopCause <;> simp only [completeStopBy, stopEnds, h]

theorem stopEnds_pump (p : Fin 3) (s : State) :
    (((stopEnds p s).pumps.get p).state = .lockout ∨ ((stopEnds p s).pumps.get p).state = .faulted) ∧
      ((stopEnds p s).pumps.get p).judged = (s.pumps.get p).judged := by
  unfold stopEnds; dsimp only
  cases (s.pumps.get p).stopCause <;> simp [enterLockout_self, enterFaulted_self]

theorem stopEnds_onlyMoves (p : Fin 3) (s : State) : OnlyMoves (.pump p) s (stopEnds p s) := by
  have cleared := setPump_onlyMoves p { s.pumps.get p with stopTimer := none, stopCause := .none } s
  have faulted (why : FaultCause) := cleared.trans (enterFaulted_onlyMoves p why _)
  unfold stopEnds; dsimp only
  cases (s.pumps.get p).stopCause with
  | none => exact cleared.trans (enterLockout_onlyMoves p _)
  | retry => exact cleared.trans (enterLockout_onlyMoves p _)
  | noStart => exact faulted _
  | noFlow => exact faulted _
  | overload => exact faulted _

@[simp] theorem enterFaulted_arbiter (p : Fin 3) (why : FaultCause) (s : State) : (enterFaulted p why s).arbiter = s.arbiter := by
  unfold enterFaulted; dsimp only; split <;> rfl

theorem stopEnds_arbiter (p : Fin 3) (s : State) : (stopEnds p s).arbiter = s.arbiter := by
  unfold stopEnds; dsimp only
  cases (s.pumps.get p).stopCause <;> simp [enterLockout]

section
variable {full : Prop}

/-- The law keeps a channel moved with its feedback and its claim when the new entry calls for the standing it comes to. -/
theorem Matching.movePump {p : Fin 3} {s t : State} (h : ClaimsLaw full s) (hm : OnlyMoves (.pump p) s t)
    (hk : full → PumpHolds (s.pumps.get p) (s.inputs.feedback.get p) (Waits (.pump p) s) (Grants (.pump p) s) (Reclaims (.pump p) s) →
      PumpHolds (t.pumps.get p) (t.inputs.feedback.get p) (Waits (.pump p) t) (Grants (.pump p) t) (Reclaims (.pump p) t)) :
    ClaimsLaw full t := h.move hm hk

/-- A channel with no claim and its judged feedback open may stand in LOCKOUT, STOPPED, FAULTED or OUT_OF_SERVICE. -/
theorem pumpHolds_released {q : Pump} {fb : Bool} {w g r : Prop}
    (hq : q.state = .stopped ∨ q.state = .lockout ∨ q.state = .faulted) (hj : q.judged = false) (hw : ¬ w) (hg : ¬ g)
    (hr : ¬ r) : PumpHolds q fb w g r := by
  rcases hq with e | e | e <;> simp [PumpHolds, e, hj, hw, hg, hr]

/-- A stop completes on a channel moved from a lawful state, its feedback taken open and no claim of it waiting (R86). -/
theorem completeStopBy_matching {w : State → State} (hw : ∀ t, ClaimsLaw full t → ClaimsLaw full (w t)) {p : Fin 3} {s t : State}
    (h : ClaimsLaw full s) (hm : OnlyMoves (.pump p) s t) (hj : (t.pumps.get p).judged = false)
    (hn : full → ¬ Waits (.pump p) t) : ClaimsLaw full (completeStopBy w p t) := by
  rw [completeStopBy_eq]
  refine hw _ (h.movePump ((hm.trans (stopEnds_onlyMoves p t)).trans (dropGranted_onlyMoves _ _)) fun hf _ => ?_)
  obtain ⟨hq, hjudged⟩ := stopEnds_pump p t
  obtain ⟨hwaits, -⟩ := standing_congr (stopEnds_arbiter p t) (.pump p)
  refine pumpHolds_released (.inr hq) (hjudged.trans hj) ?_ (by simp) (by simp)
  rw [waits_dropGranted, hwaits]; exact hn hf

/-- A channel in STARTING or RUNNING enters STOPPING, or its stop completes at once (R86). -/
theorem enterStoppingBy_matching {w : State → State} (hw : ∀ t, ClaimsLaw full t → ClaimsLaw full (w t)) {p : Fin 3} (why : StopCause)
    {s : State} (h : ClaimsLaw full s) (hq : (s.pumps.get p).state = .starting ∨ (s.pumps.get p).state = .running) :
    ClaimsLaw full (enterStoppingBy w p why s) := by
  have notWaiting (hf : full) : ¬ Waits (.pump p) s := fun hw => by
    have e : (s.pumps.get p).state = .claiming := (h.2 hf (.pump p)).1.1 hw
    rcases hq with hq | hq <;> rw [e] at hq <;> exact absurd hq nofun
  unfold enterStoppingBy; dsimp only; split
  · rename_i hclosed
    refine Matching.frame (h.setPump fun _ hs => ?_) rfl
    simp only [PumpHolds, hclosed] at hs ⊢
    rcases hq with hq | hq <;> simp_all
  · rename_i hopen
    refine completeStopBy_matching hw h ((setPump_onlyMoves p _ s).frame rfl) ?_ notWaiting
    simpa using hopen

theorem stopBy_matching {w : State → State} (hw : ∀ t, ClaimsLaw full t → ClaimsLaw full (w t)) (p : Fin 3) (b : Bool) {s : State}
    (h : ClaimsLaw full s) : ClaimsLaw full (stopBy w p b s) := by
  have dropped : ClaimsLaw full (setPump p { s.pumps.get p with pendingStart := none } s) := h.setPump fun _ hs => hs
  unfold stopBy; dsimp only; split
  · rename_i hq
    refine hw _ (h.movePump ((emitSetPump_onlyMoves p _ _ s).trans (dropWaiting_onlyMoves _ _)) fun _ hs => ?_)
    have judged := hs.2.2.2.2.2 (.inr (.inr hq))
    have notGranted : ¬ Grants (.pump p) s := by rw [hs.2.1, hq]; simp
    have notReclaimed : ¬ Reclaims (.pump p) s := fun ⟨x, hx, hk, _⟩ => notGranted ⟨x, hx, hk⟩
    refine pumpHolds_released ?_ ?_ (by simp) (by rw [grants_dropWaiting]; exact notGranted)
      (fun hr => notReclaimed (reclaims_dropWaiting _ _ (emit _ (setPump p _ s)) hr))
    · rw [dropWaiting_pumps]; simp
    · rw [dropWaiting_pumps]; simpa using judged
  · rename_i hq; exact enterStoppingBy_matching hw _ dropped (.inl (by simpa using hq))
  · rename_i hq; exact enterStoppingBy_matching hw _ dropped (.inr (by simpa using hq))
  · rename_i hq
    exact h.setPump fun _ hs => by simpa [PumpHolds, hq] using hs
  · exact dropped
  · exact h

theorem runWalk_claims (t : State) (h : ClaimsLaw full t) : ClaimsLaw full (runWalk t) := runWalk_matching h

theorem stopCommand_matching (p : Fin 3) (b : Bool) {s : State} (h : ClaimsLaw full s) : ClaimsLaw full (stopCommand p b s) :=
  stopBy_matching runWalk_claims p b h

theorem stopAllPumps_matching {s : State} (h : ClaimsLaw full s) : ClaimsLaw full (stopAllPumps s) := by
  have stopped : ClaimsLaw full (pumpNumbers.foldl (fun u p => stopBy id p false u) s) :=
    foldl_keeps (ClaimsLaw full) _ (fun _ p hu => stopBy_matching (fun _ hv => hv) p false hu) _ _ h
  unfold stopAllPumps; dsimp only; split
  · exact stopped
  · exact runWalk_matching stopped

/-! ### Start commands -/

/-- A channel outside every claim enters CLAIMING and places its claim (R79, R87). -/
theorem claiming_matching (p : Fin 3) (c : ClaimClass) (q : Pump) {s : State} (h : ClaimsLaw full s)
    (hq : (s.pumps.get p).state = .stopped ∨ (s.pumps.get p).state = .lockout) (hc : q.state = .claiming)
    (hj : q.judged = (s.pumps.get p).judged) : ClaimsLaw full (claimPump p c (emit (.pumpChanged p) (setPump p q s))) := by
  refine runWalk_matching (h.movePump ((emitSetPump_onlyMoves p _ q s).trans (enterClaim_onlyMoves _ _ _ _)) fun _ hs => ?_)
  have same : (enterClaim (.pump p) ((emit (.pumpChanged p) (setPump p q s)).gs.rating.get p) c
      (emit (.pumpChanged p) (setPump p q s))).pumps.get p = q := by rw [enterClaim_pumps]; simp
  have judged : (s.pumps.get p).judged = false := hs.2.2.2.2.2 (by tauto)
  have notGranted : ¬ Grants (.pump p) (emit (.pumpChanged p) (setPump p q s)) := by
    intro hg
    have hg : Grants (.pump p) s := hg
    rw [hs.2.1] at hg
    rcases hq with hq | hq <;> simp [hq] at hg
  rw [same]
  simp [PumpHolds, hc, hj, judged, notGranted]

theorem startCommand_matching (p : Fin 3) (c : ClaimClass) {s : State} (h : ClaimsLaw full s) :
    ClaimsLaw full (startCommand p c s) := by
  unfold startCommand; dsimp only; split
  · rename_i hq; exact claiming_matching p c _ h (.inl hq) rfl rfl
  · exact h.setPump fun _ hs => hs
  · exact h

/-! ### The inputs and timers of a pump -/

theorem failedAttempt_matching (p : Fin 3) (keep : Bool) {s : State} (h : ClaimsLaw full s)
    (hq : (s.pumps.get p).state = .starting ∨ (s.pumps.get p).state = .running) : ClaimsLaw full (failedAttempt p keep s) := by
  unfold failedAttempt; dsimp only; split
  all_goals exact enterStoppingBy_matching runWalk_claims _ (h.setPump fun _ hs => hs) (by simpa using hq)

theorem pumpDwellExpiry_matching (p : Fin 3) {s : State} (h : ClaimsLaw full s) : ClaimsLaw full (pumpDwellExpiry p s) := by
  have cleared : ClaimsLaw full (setPump p { s.pumps.get p with dwell := none } s) := h.setPump fun _ hs => hs
  unfold pumpDwellExpiry; dsimp only; split
  · rename_i hq
    split
    · exact confirmRunning_matching cleared (by simpa using hq.1)
    · exact cleared
  · exact h

theorem pumpConfirmExpiry_matching (p : Fin 3) {s : State} (h : ClaimsLaw full s) : ClaimsLaw full (pumpConfirmExpiry p s) := by
  unfold pumpConfirmExpiry; dsimp only; split
  · rename_i hq; exact failedAttempt_matching p true h (.inl hq.1)
  · exact h

/-- A channel whose feedback input closes (R77, R80). -/
theorem pumpFeedbackCloses_matching (p : Fin 3) {s : State} (h : ClaimsLaw full s) : ClaimsLaw full (pumpFeedbackCloses p s) := by
  have closed : ClaimsLaw full (setFeedback p true s) :=
    h.movePump (setFeedback_onlyMoves p true s) fun _ ⟨h1, h2, h3, h4, h5, h6⟩ =>
      ⟨h1, h2, h3, fun e => ⟨(h4 e).1, setFeedback_get p true s⟩, fun e j => ⟨(h5 e j).1, setFeedback_get p true s⟩, h6⟩
  have judged (hq : (s.pumps.get p).state = .starting ∨ (s.pumps.get p).state = .running ∨ (s.pumps.get p).state = .stopping) :
      ClaimsLaw full (setPump p { s.pumps.get p with judged := true } (setFeedback p true s)) :=
    closed.setPump fun _ hs => by
      rw [setFeedback_get, setFeedback_pumps] at hs
      simp only [PumpHolds] at hs ⊢
      rcases hq with hq | hq | hq <;> simp_all
  unfold pumpFeedbackCloses; dsimp only; split
  · rename_i hq
    split
    · exact confirmRunning_matching (judged (.inl hq)) (by simpa using hq)
    · exact judged (.inl hq)
  · rename_i hq; exact judged (.inr (.inl hq))
  · rename_i hq; exact judged (.inr (.inr hq))
  · exact closed

theorem pumpStopExpiry_matching (p : Fin 3) {s : State} (h : ClaimsLaw full s) : ClaimsLaw full (pumpStopExpiry p s) := by
  unfold pumpStopExpiry; dsimp only; split
  · rename_i hq
    refine h.movePump ((enterFaulted_onlyMoves p .welded s).trans (keepWeldedClaim_onlyMoves p _)) fun _ hs => ?_
    obtain ⟨hw, hg, -⟩ := standing_congr (enterFaulted_arbiter p .welded s) (.pump p)
    obtain ⟨h1, h2, -, h4, -⟩ := hs
    obtain ⟨hj, hf⟩ := h4 hq.1
    have freed : ¬ Reclaims (.pump p) (keepWeldedClaim p (enterFaulted p .welded s)) :=
      fun hr => (reclaims_keepWeldedClaim _ _ p hr).1 rfl
    have entry : (keepWeldedClaim p (enterFaulted p .welded s)).pumps.get p = _ := enterFaulted_self p .welded s
    have input : (keepWeldedClaim p (enterFaulted p .welded s)).inputs.feedback.get p = true := by
      rw [← hf]; unfold enterFaulted keepWeldedClaim; dsimp only; split <;> rfl
    rw [entry, input]
    simp [PumpHolds, hw, hg, h1, h2, hq.1, freed, hj]
  · exact h

theorem pumpLockoutExpiry_matching (p : Fin 3) {s : State} (h : ClaimsLaw full s) : ClaimsLaw full (pumpLockoutExpiry p s) := by
  unfold pumpLockoutExpiry; dsimp only; split
  · rename_i hq
    split
    · exact claiming_matching p _ _ h (.inr hq.1) rfl rfl
    · refine Matching.frame (h.setPump (p := p) (q := { s.pumps.get p with state := .stopped, lockout := none }) fun _ hs => ?_) rfl
      simpa [PumpHolds, hq.1] using hs
  · exact h

/-- A channel outside every claim fails (R84). -/
theorem enterFaulted_matching (p : Fin 3) (why : FaultCause) {s : State} (h : ClaimsLaw full s)
    (hq : (s.pumps.get p).state = .stopped ∨ (s.pumps.get p).state = .lockout) : ClaimsLaw full (enterFaulted p why s) :=
  h.movePump (enterFaulted_onlyMoves p why s) fun _ hs => by
    obtain ⟨hw, hg, hr⟩ := standing_congr (enterFaulted_arbiter p why s) (.pump p)
    obtain ⟨h1, h2, -, -, -, h6⟩ := hs
    have notGranted : ¬ Grants (.pump p) s := by rw [h2]; rcases hq with hq | hq <;> simp [hq]
    refine pumpHolds_released (.inr (.inr ?_)) ?_ ?_ (by rw [hg]; exact notGranted) ?_
    · rw [enterFaulted_self]
    · rw [enterFaulted_self]; exact h6 (by tauto)
    · rw [hw, h1]; rcases hq with hq | hq <;> simp [hq]
    · rw [hr]; exact fun ⟨x, hx, hk, _⟩ => notGranted ⟨x, hx, hk⟩

/-- A channel in CLAIMING fails, and its claim is withdrawn (R84). -/
theorem withdrawFaulted_matching (p : Fin 3) (why : FaultCause) {s : State} (h : ClaimsLaw full s)
    (hq : (s.pumps.get p).state = .claiming) : ClaimsLaw full (withdrawClaim (.pump p) (enterFaulted p why s)) := by
  refine runWalk_matching (h.movePump ((enterFaulted_onlyMoves p why s).trans (dropWaiting_onlyMoves _ _)) fun _ hs => ?_)
  obtain ⟨-, hg, hr⟩ := standing_congr (enterFaulted_arbiter p why s) (.pump p)
  obtain ⟨-, h2, -, -, -, h6⟩ := hs
  have notGranted : ¬ Grants (.pump p) s := by rw [h2]; simp [hq]
  refine pumpHolds_released (.inr (.inr ?_)) ?_ (by simp) (by rw [grants_dropWaiting, hg]; exact notGranted) fun hr' => ?_
  · rw [dropWaiting_pumps, enterFaulted_self]
  · rw [dropWaiting_pumps, enterFaulted_self]; exact h6 (by tauto)
  · obtain ⟨x, hx, hk, -⟩ := hr.1 (reclaims_dropWaiting _ _ _ hr')
    exact notGranted ⟨x, hx, hk⟩

theorem pumpOverloadTrip_matching (p : Fin 3) {s : State} (h : ClaimsLaw full s) : ClaimsLaw full (pumpOverloadTrip p s) := by
  have shown : ClaimsLaw full { s with inputs := { s.inputs with overload := s.inputs.overload.set p true } } := h.frame rfl
  have tripped := shown.setPump (p := p) (q := { s.pumps.get p with overload := true }) fun _ hs => hs
  unfold pumpOverloadTrip; dsimp only; split
  · rename_i hq; exact enterFaulted_matching p _ tripped (.inl (by simpa using hq))
  · rename_i hq; exact enterFaulted_matching p _ tripped (.inr (by simpa using hq))
  · rename_i hq; exact withdrawFaulted_matching p _ tripped (by simpa using hq)
  · rename_i hq
    exact enterStoppingBy_matching runWalk_claims _ (tripped.setPump fun _ hs => by rw [setPump_pumps, trio_get_set_same] at hs; exact hs) (.inl (by simpa using hq))
  · rename_i hq
    exact enterStoppingBy_matching runWalk_claims _ (tripped.setPump fun _ hs => by rw [setPump_pumps, trio_get_set_same] at hs; exact hs) (.inr (by simpa using hq))
  · rename_i hq
    exact tripped.setPump fun _ hs => by rw [setPump_pumps, trio_get_set_same] at hs; simpa [PumpHolds, hq] using hs
  · exact tripped

/-- A channel whose feedback opened while RUNNING fails, and its claim is released (R83). -/
theorem releaseFaulted_matching (p : Fin 3) (why : FaultCause) {s : State} (h : ClaimsLaw full s)
    (hq : (s.pumps.get p).state = .running) (hj : (s.pumps.get p).judged = false) :
    ClaimsLaw full (releaseClaim (.pump p) (enterFaulted p why s)) := by
  refine runWalk_matching (h.movePump ((enterFaulted_onlyMoves p why s).trans (dropGranted_onlyMoves _ _)) fun _ hs => ?_)
  obtain ⟨hw, -⟩ := standing_congr (enterFaulted_arbiter p why s) (.pump p)
  have entry : (dropGranted (.pump p) (enterFaulted p why s)).pumps.get p = _ := enterFaulted_self p why s
  refine pumpHolds_released (.inr (.inr ?_)) ?_ ?_ (by simp) (by simp)
  · rw [entry]
  · rw [entry]; exact hj
  · rw [waits_dropGranted, hw, hs.1]; simp [hq]

/-- The feedback opens while RUNNING (R83). -/
theorem runningFeedbackOpens_matching (p : Fin 3) {s : State} (h : ClaimsLaw full s) (hq : (s.pumps.get p).state = .running) :
    ClaimsLaw full (runningFeedbackOpens p s) := by
  have opened : ClaimsLaw full (setPump p { s.pumps.get p with judged := false, overload := s.inputs.overload.get p } s) :=
    h.setPump fun _ hs => by simpa [PumpHolds, hq] using hs
  unfold runningFeedbackOpens; dsimp only; split
  · exact releaseFaulted_matching p _ opened (by simpa using hq) (by simp)
  · exact failedAttempt_matching p false (opened.frame rfl) (.inr (by simpa using hq))

/-- The feedback of a welded pump is first taken open (R89). -/
theorem weldOpens_matching (p : Fin 3) {s t : State} (h : ClaimsLaw full s) (hm : OnlyMoves (.pump p) s t)
    (hq : (t.pumps.get p).state = .faulted) (hn : full → ¬ Waits (.pump p) t) : ClaimsLaw full (weldOpens p t) := by
  have freed : OnlyMoves (.pump p) s
      { setPump p { t.pumps.get p with judged := false } t with guard := { t.guard with held := t.guard.held.set p false } } :=
    (hm.trans (setPump_onlyMoves p _ t)).frame rfl
  refine runWalk_matching (h.movePump (freed.trans (dropGranted_onlyMoves (.pump p) _)) fun hf _ => ?_)
  refine pumpHolds_released (.inr (.inr ?_)) ?_ (by rw [waits_dropGranted]; exact hn hf) (by simp) (by simp)
  · simpa [dropGranted] using hq
  · simp [dropGranted]

/-- The feedback input opening (R77, R83, R86, R89). -/
theorem pumpFeedbackOpens_matching (p : Fin 3) {s : State} (h : ClaimsLaw full s) : ClaimsLaw full (pumpFeedbackOpens p s) := by
  have moved : OnlyMoves (.pump p) s (setFeedback p false s) := setFeedback_onlyMoves p false s
  have notWaiting (hq : (s.pumps.get p).state ≠ .claiming) (hf : full) : ¬ Waits (.pump p) s := fun hw => hq ((h.2 hf (.pump p)).1.1 hw)
  have opened (hs : (s.pumps.get p).state ≠ .stopping)
      (hj : full → (s.pumps.get p).state = .faulted → ¬ (s.pumps.get p).judged = true) : ClaimsLaw full (setFeedback p false s) :=
    h.movePump moved fun hf ⟨h1, h2, h3, _, _, h6⟩ =>
      ⟨h1, h2, h3, fun e => absurd e hs, fun e j => absurd j (hj hf e), h6⟩
  unfold pumpFeedbackOpens; dsimp only; split
  · rename_i hq
    have quiet := opened (by rw [hq]; nofun) (fun _ e => absurd (hq.symm.trans e) nofun)
    exact quiet.setPump fun _ hs => by simpa [PumpHolds, hq] using hs
  · rename_i hq
    exact runningFeedbackOpens_matching p (opened (by rw [hq]; nofun) (fun _ e => absurd (hq.symm.trans e) nofun)) hq
  · rename_i hq
    exact completeStopBy_matching runWalk_claims h (moved.trans (setPump_onlyMoves p _ _)) (by simp)
      (notWaiting (by rw [hq]; nofun))
  · rename_i hq
    split
    · exact weldOpens_matching p h moved hq (notWaiting (by rw [hq]; nofun))
    · rename_i hn
      exact opened (by rw [hq]; nofun) fun hf e hj => hn ⟨((h.2 hf (.pump p)).2.2.2.2.1 e hj).1, hj⟩
  · rename_i hstarting hrunning hstopping hfaulted
    exact opened hstopping fun _ e => absurd e hfaulted

/-! ### Service -/

theorem serviceOut_matching {p : Fin 3} {s t : State} (h : ClaimsLaw full s) (e : serviceOut p s = some t) : ClaimsLaw full t := by
  have out (hq : (s.pumps.get p).state = .stopped ∨ (s.pumps.get p).state = .lockout ∨
      (s.pumps.get p).state = .faulted ∧ s.inputs.feedback.get p = false) :
      ClaimsLaw full (emit (.pumpChanged p) (setPump p { s.pumps.get p with
        state := .outOfService, cause := none, lockout := none, judged := s.inputs.feedback.get p,
        overload := s.inputs.overload.get p } s)) := by
    refine Matching.frame (h.setPump fun _ ⟨h1, h2, h3, h4, h5, h6⟩ => ?_) rfl
    rcases hq with hq | hq | ⟨hq, hf⟩
    · simp [PumpHolds, h1, h2, hq]
    · simp [PumpHolds, h1, h2, hq]
    · have judged : ¬ (s.pumps.get p).judged = true := fun hj => absurd ((h5 hq hj).2.symm.trans hf) nofun
      simp [PumpHolds, h1, h2, hq, judged]
  unfold serviceOut at e; dsimp only at e
  split at e
  · rename_i hq; obtain rfl := Option.some.inj e; exact out (.inl hq)
  · rename_i hq
    split at e
    · obtain rfl := Option.some.inj e; exact out (.inr (.inl hq))
    · exact absurd e nofun
  · rename_i hq
    split at e
    · exact absurd e nofun
    · rename_i hf; obtain rfl := Option.some.inj e; exact out (.inr (.inr ⟨hq, by simpa using hf⟩))
  · exact absurd e nofun

theorem serviceReturn_matching {p : Fin 3} {s t : State} (h : ClaimsLaw full s) (e : serviceReturn p s = some t) :
    ClaimsLaw full t := by
  unfold serviceReturn at e; dsimp only at e
  split at e
  · rename_i hq
    obtain ⟨hq, hf, -⟩ := hq
    obtain rfl := Option.some.inj e
    refine h.movePump ((setPump_onlyMoves p _ s).trans (enterLockout_onlyMoves p _)) fun _ ⟨h1, h2, _, _, h5, _⟩ => ?_
    have notGranted : ¬ Grants (.pump p) s := by
      rw [h2]
      rcases hq with hq | hq
      · have judged : ¬ (s.pumps.get p).judged = true := fun hj => absurd ((h5 hq hj).2.symm.trans hf) nofun
        simp [hq, judged]
      · simp [hq]
    refine pumpHolds_released (.inr (.inl ?_)) ?_ ?_ notGranted (fun ⟨x, hx, hk, _⟩ => notGranted ⟨x, hx, hk⟩)
    · rw [enterLockout_self]
    · rw [enterLockout_self]; simp
    · show ¬ Waits (.pump p) s
      rw [h1]; rcases hq with hq | hq <;> simp [hq]
  · exact absurd e nofun

end

end Sys2Proof.Machine

/-! The circuits and reset keep the claims laws (R97, R108, R138), and so every step does. -/

namespace Sys2Proof.Machine

open Sys2Proof.Safety

section
variable {full : Prop}

/-! ### The circuits -/

/-- An operation of a circuit keeps the law when the state it comes to calls for the standing it comes to. -/
theorem Matching.moveCircuit {c : Fin 8} {s t : State} (h : ClaimsLaw full s) (hm : OnlyMoves (.circuit c) s t)
    (hk : full → CircuitHolds False (s.frost.circuits.get c).state (Waits (.circuit c) s) (Grants (.circuit c) s) →
      CircuitHolds False (t.frost.circuits.get c).state (Waits (.circuit c) t) (Grants (.circuit c) t)) :
    ClaimsLaw full t := h.move hm hk

theorem setCircuit_get (c : Fin 8) (q : Circuit) (s : State) : (setCircuit c q s).frost.circuits.get c = q :=
  octo_get_set_same _ _ _

/-- A circuit in OFF calls and places its claim (R139). -/
theorem circuitCalls_matching (c : Fin 8) {s : State} (h : ClaimsLaw full s) (hq : (s.frost.circuits.get c).state = .off) :
    ClaimsLaw full (circuitCalls c s) := by
  refine runWalk_matching (h.moveCircuit ((setCircuit_onlyMoves c _ s).trans (enterClaim_onlyMoves _ _ _ _)) fun _ hs => ?_)
  have notGranted : ¬ Grants (.circuit c) (setCircuit c { s.frost.circuits.get c with state := .calling } s) := by
    intro hg
    have hg : Grants (.circuit c) s := hg
    rw [hs.2.1, hq] at hg
    exact absurd hg nofun
  rw [enterClaim_frost, setCircuit_get]
  simp [CircuitHolds, notGranted]

/-- A waiting circuit gives up and withdraws its claim (R140). -/
theorem circuitGivesUp_matching (c : Fin 8) {s : State} (h : ClaimsLaw full s)
    (hq : (s.frost.circuits.get c).state = .calling ∨ (s.frost.circuits.get c).state = .shed) :
    ClaimsLaw full (circuitGivesUp c s) := by
  refine runWalk_matching (h.moveCircuit ((setCircuit_onlyMoves c _ s).trans (dropWaiting_onlyMoves _ _)) fun _ hs => ?_)
  have notGranted : ¬ Grants (.circuit c) (setCircuit c { s.frost.circuits.get c with state := .off, timer := none } s) := by
    intro hg
    have hg : Grants (.circuit c) s := hg
    rw [hs.2.1] at hg
    rcases hq with hq | hq <;> exact absurd (hq.symm.trans hg) nofun
  rw [dropWaiting_frost, setCircuit_get]
  simp [CircuitHolds, notGranted]

/-- A heating circuit stops and releases its claim (R141, R142). -/
theorem circuitStops_matching (c : Fin 8) {x : CircuitState} (hx : x = .off ∨ x = .fault) {s : State} (h : ClaimsLaw full s)
    (hq : (s.frost.circuits.get c).state = .heating) : ClaimsLaw full (circuitStops c x s) := by
  refine runWalk_matching (h.moveCircuit ((setCircuit_onlyMoves c _ s).trans (dropGranted_onlyMoves _ _)) fun _ hs => ?_)
  have notWaiting : ¬ Waits (.circuit c) (setCircuit c { s.frost.circuits.get c with state := x, timer := none } s) := by
    intro hw
    have hw : Waits (.circuit c) s := hw
    rcases hs.1 hw with e | e <;> exact absurd (hq.symm.trans e) nofun
  show CircuitHolds False ((setCircuit c { s.frost.circuits.get c with state := x, timer := none } s).frost.circuits.get c).state _ _
  rw [setCircuit_get]
  rcases hx with rfl | rfl <;> simp [CircuitHolds, notWaiting]

theorem judgeCircuit_matching (c : Fin 8) {s : State} (h : ClaimsLaw full s) : ClaimsLaw full (judgeCircuit c s) := by
  unfold judgeCircuit; dsimp only; split
  · rename_i hq
    split
    · split
      · exact circuitCalls_matching c h hq
      · exact h
    · exact h
  · rename_i hq
    split
    · exact circuitGivesUp_matching c h (.inl hq)
    · exact h
  · rename_i hq
    split
    · exact circuitGivesUp_matching c h (.inr hq)
    · exact h
  · rename_i hq
    split
    · exact circuitStops_matching c (.inl rfl) h hq
    · exact h
  · exact h

theorem circuitTimerExpiry_matching (c : Fin 8) {s : State} (h : ClaimsLaw full s) : ClaimsLaw full (circuitTimerExpiry c s) := by
  unfold circuitTimerExpiry; dsimp only; split
  · rename_i hq; exact (circuitStops_matching c (.inr rfl) h hq.1).frame rfl
  · exact h

/-- A circuit in FAULT holds no claim, and none in OFF. -/
theorem faultCleared_matching (c : Fin 8) {s : State} (hq : (s.frost.circuits.get c).state = .fault) (h : ClaimsLaw full s) :
    ClaimsLaw full (setCircuit c { s.frost.circuits.get c with state := .off, timer := none } s) :=
  h.moveCircuit (setCircuit_onlyMoves c _ s) fun _ hs => by
    rw [hq] at hs
    rw [setCircuit_get]
    obtain ⟨hw, hg, -⟩ := hs
    have notWaiting : ¬ Waits (.circuit c) s := fun e => by simpa using hw e
    have notGranted : ¬ Grants (.circuit c) s := fun e => by simpa using hg.1 e
    exact ⟨fun e => absurd e notWaiting, ⟨fun e => absurd e notGranted, nofun⟩, fun _ e => by simp at e, False.elim⟩

theorem roleGone_matching (c : Fin 8) {s : State} (h : ClaimsLaw full s) : ClaimsLaw full (roleGone c s) := by
  unfold roleGone; split
  · exact h
  · rename_i hq; exact circuitGivesUp_matching c h (.inl hq)
  · rename_i hq; exact circuitGivesUp_matching c h (.inr hq)
  · rename_i hq; exact circuitStops_matching c (.inl rfl) h hq
  · rename_i hq; exact faultCleared_matching c hq h

/-! ### The valve, the guard's entries and the timers -/

theorem judgeLimits_claimParts (s : State) : claimParts (judgeLimits s) = claimParts s := by
  unfold judgeLimits; split <;> rfl

theorem driveOpen_claimParts (s : State) : claimParts (driveOpen s) = claimParts s := (judgeLimits_claimParts _).trans rfl

theorem openCommand_claimParts (s : State) : claimParts (openCommand s) = claimParts s := by
  unfold openCommand; split
  all_goals first
    | rfl
    | exact driveOpen_claimParts s

theorem closeCommand_claimParts (s : State) : claimParts (closeCommand s) = claimParts s := by
  unfold closeCommand driveClose; split
  all_goals first
    | rfl
    | exact judgeLimits_claimParts _

theorem valveLimits_claimParts (o c : Bool) (s : State) : claimParts (valveLimits o c s) = claimParts s := by
  have shown : claimParts { s with inputs := { s.inputs with openLimit := o, closedLimit := c } } = claimParts s := rfl
  unfold valveLimits; dsimp only; repeat' split
  all_goals first
    | exact shown
    | exact (judgeLimits_claimParts _).trans shown

theorem valveTravelExpiry_claimParts (s : State) : claimParts (valveTravelExpiry s) = claimParts s := by
  unfold valveTravelExpiry; repeat' split
  all_goals rfl

theorem enterGuard_matching (g : GuardState) {s : State} (h : ClaimsLaw full s) : ClaimsLaw full (enterGuard g s) := by
  have entered : ∀ e, ClaimsLaw full (match (e : Option EventFlag) with
      | some e => setEvent e { s with guard := { s.guard with state := g } }
      | none => { s with guard := { s.guard with state := g } }) := by rintro (_ | e) <;> exact h.frame rfl
  have stopped (t : State) (ht : ClaimsLaw full t) : ClaimsLaw full (if stopsPumps g then stopAllPumps t else t) := by
    split
    · exact stopAllPumps_matching ht
    · exact ht
  unfold enterGuard; split
  · exact h
  · refine Matching.frame (s := if g = .containment then closeCommand _ else _) ?_ rfl
    split
    · exact (stopped _ (entered _)).frame (closeCommand_claimParts _)
    · exact stopped _ (entered _)

theorem tickTimers_matching (n : Nat) {s : State} (h : ClaimsLaw full s) : ClaimsLaw full (tickTimers n s) := by
  refine ⟨h.1, fun hf k => ?_⟩
  cases k with
  | pump p =>
    rw [holds_pump, tickTimers_pump]; exact h.2 hf (.pump p)
  | circuit c =>
    rw [holds_circuit, show (tickTimers n s).frost.circuits.get c = _ from octo_get_map _ _ _]; exact h.2 hf (.circuit c)

/-- The welded pumps' claims at reset (R108). -/
theorem mem_weldedClaims {g : GuardSet} {fb : Trio Bool} {x : Claim} (h : x ∈ weldedClaims g fb) :
    ∃ p, x.claimant = .pump p ∧ fb.get p = true ∧ x.reclaiming = false := by
  obtain ⟨y, hy, rfl⟩ := List.mem_map.1 h
  refine ⟨y.1, rfl, ?_, rfl⟩
  simpa using (List.mem_filter.1 (List.of_mem_zip hy).1).2

theorem weldedClaims_claimants (g : GuardSet) (fb : Trio Bool) :
    (weldedClaims g fb).map (·.claimant) = (pumpNumbers.filter (fun p => fb.get p)).map .pump := by
  obtain ⟨a, b, c⟩ := fb
  cases a <;> cases b <;> cases c <;> rfl

theorem resetNow_matching (x : Pins) (s : State) : ClaimsLaw full (resetNow x s) := by
  refine Matching.frame (s := resetBlocks x s) ⟨?_, fun _ k => ?_⟩
    (claimParts_of_plantParts (plantParts_of_lawParts (resetNow_lawParts x s)))
  · show ((weldedClaims (loadedGuardSet s.store) x.feedback).map (·.claimant)).Nodup
    rw [weldedClaims_claimants]
    exact (List.Nodup.filter _ (by decide)).map fun _ _ e => Claimant.pump.inj e
  · have notWaiting : ¬ Waits k (resetBlocks x s) := fun ⟨_, hy, _⟩ => absurd hy List.not_mem_nil
    cases k with
    | pump p =>
      have granted : Grants (.pump p) (resetBlocks x s) ↔ x.feedback.get p = true := by
        have mem : Grants (.pump p) (resetBlocks x s) ↔
            Claimant.pump p ∈ (weldedClaims (loadedGuardSet s.store) x.feedback).map (·.claimant) := List.mem_map.symm
        rw [mem, weldedClaims_claimants]
        have all : p ∈ pumpNumbers := by fin_cases p <;> decide
        simp [all]
      have freed : ¬ Reclaims (.pump p) (resetBlocks x s) := by
        rintro ⟨y, hy, -, hr⟩
        obtain ⟨_, -, -, hn⟩ := mem_weldedClaims hy
        exact absurd (hr.symm.trans hn) nofun
      rw [holds_pump, resetBlocks_pump, show (resetBlocks x s).inputs.feedback = x.feedback from rfl]
      unfold pumpAtReset PumpHolds
      cases hf : x.feedback.get p <;> cases x.overload.get p <;> simp [notWaiting, granted, freed, hf]
    | circuit c =>
      have notGranted : ¬ Grants (.circuit c) (resetBlocks x s) := by
        rintro ⟨y, hy, hk⟩
        obtain ⟨p, hp, -⟩ := mem_weldedClaims hy
        exact absurd (hk.symm.trans hp) nofun
      have off : ((resetBlocks x s).frost.circuits.get c).state = .off := by fin_cases c <;> rfl
      rw [holds_circuit, off]
      simp [CircuitHolds, notWaiting, notGranted]

/-- Every primitive operation keeps the claims laws. -/
theorem claims_stepLaw (full : Prop) : StepLaw (ClaimsLaw full) where
  frame hs e := hs.frame (claimParts_of_plantParts (plantParts_of_lawParts e))
  runWalk _ hs := runWalk_matching hs
  stopCommand p b _ hs := stopCommand_matching p b hs
  enterGuard g _ hs := enterGuard_matching g hs
  judgeCircuit c _ hs := judgeCircuit_matching c hs
  circuitTimerExpiry c _ hs := circuitTimerExpiry_matching c hs
  roleGone c _ hs := roleGone_matching c hs
  faultCleared c _ hq hs := faultCleared_matching c hq hs
  pumpDwellExpiry p _ hs := pumpDwellExpiry_matching p hs
  pumpConfirmExpiry p _ hs := pumpConfirmExpiry_matching p hs
  pumpFeedbackCloses p _ hs := pumpFeedbackCloses_matching p hs
  pumpFeedbackOpens p _ hs := pumpFeedbackOpens_matching p hs
  pumpOverloadTrip p _ hs := pumpOverloadTrip_matching p hs
  pumpStopExpiry p _ hs := pumpStopExpiry_matching p hs
  pumpLockoutExpiry p _ hs := pumpLockoutExpiry_matching p hs
  serviceOut _ _ _ hs e := serviceOut_matching hs e
  serviceReturn _ _ _ hs e := serviceReturn_matching hs e
  openCommand s hs := hs.frame (openCommand_claimParts s)
  valveLimits o c s hs := hs.frame (valveLimits_claimParts o c s)
  valveTravelExpiry s hs := hs.frame (valveTravelExpiry_claimParts s)
  tickTimers n _ hs := tickTimers_matching n hs
  resetNow x s _ := resetNow_matching x s
  toFillLaw := fillLaw_of_plant (fun hs e => hs.frame (claimParts_of_plantParts e)) (fun p b _ hs => stopCommand_matching p b hs)
    (fun p c _ _ hs => startCommand_matching p c hs)

end

theorem keptByStep_congr {P Q : State → Prop} (h : KeptByStep P) (e : ∀ s, Q s ↔ P s) : KeptByStep Q :=
  fun s t hs hstep => (e t).2 (h s t ((e s).1 hs) hstep)

/-- Settles O58: every operation of the blocks is one of a single claimant, which comes to the standing its new state calls for, or a
walk, in which a circuit told to shed is exempt until it has claimed again. -/
theorem claimsKept : Obligations.ClaimsKept :=
  ⟨keptByStep_congr (keptByStep_of_stepLaw (claims_stepLaw False)) claimsFit_iff,
    keptByStep_congr (keptByStep_of_stepLaw (claims_stepLaw True)) claimsMatch_iff⟩

end Sys2Proof.Machine

/-! The pump assignments (R49, R57). What an order stakes on a pump while it starts, runs or is retiring; the law pump by pump; and how
each change of a record or of an assignment carries it over. -/

namespace Sys2Proof.Machine

open Sys2Proof.Safety

/-! ### What an order stakes -/

/-- The pump and the state of an order in STARTING, RUNNING or RETIRING. -/
def stake (f : FillRecord) : Option (Fin 3 × FillState) :=
  if inRun f = true ∨ f.state = .retiring then some (f.pump, f.state) else none

/-- What the order of each number stakes. -/
def stakes (s : State) (n : Nat) : Option (Fin 3 × FillState) := (findFill n s).bind stake

theorem stake_of_idle {f : FillRecord} (h : Idle f) : stake f = none := by
  unfold stake; exact if_neg (by rintro (e | e); exacts [absurd (h.1.symm.trans e) nofun, h.2 e])

theorem stake_of_run {f : FillRecord} (h : inRun f = true) : stake f = some (f.pump, f.state) := if_pos (.inl h)

theorem stake_of_sameHold {f g : FillRecord} (h : SameHold f g) : stake g = stake f := by
  rcases h with ⟨hs, hp⟩ | ⟨hf, hg⟩
  · simp [stake, inRun, hs, hp]
  · rw [stake_of_idle hf, stake_of_idle hg]

theorem stakes_of_find {n : Nat} {s : State} {f : FillRecord} (h : findFill n s = some f) : stakes s n = stake f := by
  simp [stakes, h]

theorem stakes_eq_some {s : State} {n : Nat} {p : Fin 3} {x : FillState} :
    stakes s n = some (p, x) ↔ ∃ f, findFill n s = some f ∧ f.pump = p ∧ f.state = x ∧ (inRun f = true ∨ f.state = .retiring) := by
  simp only [stakes, stake, Option.bind_eq_some_iff, Option.ite_none_right_eq_some, Option.some.injEq, Prod.mk.injEq]
  constructor
  · rintro ⟨f, hf, ha, hp, hx⟩; exact ⟨f, hf, hp, hx, ha⟩
  · rintro ⟨f, hf, hp, hx, ha⟩; exact ⟨f, hf, ha, hp, hx⟩

theorem stakes_congr {s t : State} (h : t.book.records = s.book.records) : stakes t = stakes s := by
  funext n; unfold stakes; rw [findFill_congr h]

/-- A FILL record replaced changes the stake of its number alone. -/
theorem stakes_putFill {n : Nat} {s : State} {f : FillRecord} (g : FillRecord) (h : findFill n s = some f) :
    stakes (putFill n g s) = Function.update (stakes s) n (stake g) := by
  obtain ⟨r, hr, -⟩ := findFill_eq_some.1 h
  funext m
  by_cases hm : m = n
  · subst hm
    rw [Function.update_self]
    exact stakes_of_find (findFill_eq_some.2 ⟨_, putFill_finds m g s r hr, rfl⟩)
  · rw [Function.update_of_ne hm]
    unfold stakes findFill; rw [putFill_other n m g s hm]

theorem stakes_removeRecord (n : Nat) (s : State) : stakes (removeRecord n s) = Function.update (stakes s) n none := by
  funext m
  by_cases hm : m = n
  · subst hm; rw [Function.update_self]; unfold stakes findFill; rw [removeRecord_finds]; rfl
  · rw [Function.update_of_ne hm]; unfold stakes findFill; rw [removeRecord_other n m s hm]

/-- Records that keep their orders keep what they stake. -/
theorem stakes_mapRecords {g : Record → Record} (s : State) (hg : ∀ r, SameOrder r (g r)) :
    stakes (setRecords (s.book.records.map g) s) = stakes s := by
  have number (r : Record) : (g r).number = r.number := (hg r).1
  have found (n : Nat) : findRecord n (setRecords (s.book.records.map g) s) = (findRecord n s).map g := by
    unfold findRecord
    rw [setRecords_records, List.find?_map]
    congr 1
    exact List.find?_congr fun r _ => by simp [number]
  funext n
  have body (r : Record) := (hg r).2.2
  unfold stakes findFill
  rw [found]
  cases findRecord n s with
  | none => rfl
  | some r =>
    have same := body r
    obtain ⟨k, o, v, b⟩ := r
    rw [Option.map_some]
    generalize g ⟨k, o, v, b⟩ = q at same
    obtain ⟨k', o', v', b'⟩ := q
    cases b <;> cases b' <;> simp_all [stake, inRun]

/-! ### The law, pump by pump -/

/-- A pump's assignment fits the stakes and its channel. -/
def Held (G : Nat → Option (Fin 3 × FillState)) (p : Fin 3) (a : Assignment) (q : Pump) : Prop :=
  (∀ n, a.holder = some n ↔ ∃ x, G n = some (p, x)) ∧
    (Wants q → ∃ n, G n = some (p, .starting) ∨ G n = some (p, .running)) ∧
    (a.noFlow.isSome = true ↔ ∃ n, G n = some (p, .running)) ∧ RestFits q

/-- Every pump's assignment fits. -/
def Assigned (s : State) : Prop := ∀ p : Fin 3, Held (stakes s) p (s.fill.get p) (s.pumps.get p)

theorem inRun_iff {f : FillRecord} : inRun f = true ↔ f.state = .starting ∨ f.state = .running := by
  simp [inRun]

theorem stakes_running {s : State} {n : Nat} {p : Fin 3} :
    stakes s n = some (p, .running) ↔ ∃ f, findFill n s = some f ∧ f.pump = p ∧ f.state = .running := by
  rw [stakes_eq_some]
  exact exists_congr fun f => ⟨fun ⟨hf, hp, hx, _⟩ => ⟨hf, hp, hx⟩, fun ⟨hf, hp, hx⟩ => ⟨hf, hp, hx, .inl (inRun_iff.2 (.inr hx))⟩⟩

theorem stakes_starting {s : State} {n : Nat} {p : Fin 3} :
    stakes s n = some (p, .starting) ↔ ∃ f, findFill n s = some f ∧ f.pump = p ∧ f.state = .starting := by
  rw [stakes_eq_some]
  exact exists_congr fun f => ⟨fun ⟨hf, hp, hx, _⟩ => ⟨hf, hp, hx⟩, fun ⟨hf, hp, hx⟩ => ⟨hf, hp, hx, .inl (inRun_iff.2 (.inl hx))⟩⟩

theorem holderOf_eq_some {s : State} {p : Fin 3} {f : FillRecord} :
    holderOf s p = some f ↔ ∃ n, (s.fill.get p).holder = some n ∧ findFill n s = some f := by
  unfold holderOf; exact Option.bind_eq_some_iff

/-- The obligation's law is the law pump by pump. -/
theorem assignmentsFit_iff (s : State) : AssignmentsFit s ↔ Assigned s := by
  unfold AssignmentsFit Assigned
  constructor
  · rintro ⟨holds, holder, rest⟩ p
    have stakeOf (n : Nat) : (s.fill.get p).holder = some n ↔ ∃ x, stakes s n = some (p, x) := by
      constructor
      · intro hn
        obtain ⟨f, hf, hp, ha⟩ := holds p n hn
        exact ⟨f.state, stakes_eq_some.2 ⟨f, hf, hp, rfl, ha⟩⟩
      · rintro ⟨x, hx⟩
        obtain ⟨f, hf, rfl, -, ha⟩ := stakes_eq_some.1 hx
        exact holder n f hf ha
    obtain ⟨wants, noFlow, idle⟩ := rest p
    refine ⟨stakeOf, fun hw => ?_, noFlow.trans ?_, idle⟩
    · obtain ⟨f, hf, hrun⟩ := wants hw
      obtain ⟨n, hn, hfind⟩ := holderOf_eq_some.1 hf
      obtain ⟨g, hg, hp, -⟩ := holds p n hn
      obtain rfl := Option.some.inj (hfind.symm.trans hg)
      refine ⟨n, (inRun_iff.1 hrun).imp (fun e => ?_) (fun e => ?_)⟩
      · exact stakes_starting.2 ⟨f, hfind, hp, e⟩
      · exact stakes_running.2 ⟨f, hfind, hp, e⟩
    · constructor
      · rintro ⟨f, hf, hx⟩
        obtain ⟨n, hn, hfind⟩ := holderOf_eq_some.1 hf
        obtain ⟨g, hg, hp, -⟩ := holds p n hn
        obtain rfl := Option.some.inj (hfind.symm.trans hg)
        exact ⟨n, stakes_running.2 ⟨f, hfind, hp, hx⟩⟩
      · rintro ⟨n, hn⟩
        obtain ⟨f, hf, hp, hx⟩ := stakes_running.1 hn
        exact ⟨f, holderOf_eq_some.2 ⟨n, (stakeOf n).2 ⟨_, hn⟩, hf⟩, hx⟩
  · intro h
    refine ⟨fun p n hn => ?_, fun n f hf ha => ?_, fun p => ?_⟩
    · obtain ⟨x, hx⟩ := ((h p).1 n).1 hn
      obtain ⟨f, hf, hp, -, ha⟩ := stakes_eq_some.1 hx
      exact ⟨f, hf, hp, ha⟩
    · exact ((h f.pump).1 n).2 ⟨f.state, stakes_eq_some.2 ⟨f, hf, rfl, rfl, ha⟩⟩
    · obtain ⟨holder, wants, noFlow, idle⟩ := h p
      refine ⟨fun hw => ?_, noFlow.trans ⟨?_, ?_⟩, idle⟩
      · obtain ⟨n, hn | hn⟩ := wants hw
        · obtain ⟨f, hf, -, hx⟩ := stakes_starting.1 hn
          exact ⟨f, holderOf_eq_some.2 ⟨n, (holder n).2 ⟨_, hn⟩, hf⟩, inRun_iff.2 (.inl hx)⟩
        · obtain ⟨f, hf, -, hx⟩ := stakes_running.1 hn
          exact ⟨f, holderOf_eq_some.2 ⟨n, (holder n).2 ⟨_, hn⟩, hf⟩, inRun_iff.2 (.inr hx)⟩
      · rintro ⟨n, hn⟩
        obtain ⟨f, hf, -, hx⟩ := stakes_running.1 hn
        exact ⟨f, holderOf_eq_some.2 ⟨n, (holder n).2 ⟨_, hn⟩, hf⟩, hx⟩
      · rintro ⟨f, hf, hx⟩
        obtain ⟨n, hn, hfind⟩ := holderOf_eq_some.1 hf
        obtain ⟨y, hy⟩ := (holder n).1 hn
        obtain ⟨g, hg, hp, -⟩ := stakes_eq_some.1 hy
        obtain rfl := Option.some.inj (hfind.symm.trans hg)
        exact ⟨n, stakes_running.2 ⟨f, hfind, hp, hx⟩⟩

/-! ### What carries the law over -/

/-- The channel settles, and what is staked on the pump, its holder and whether its timer runs stand. -/
theorem Held.congr {G G' : Nat → Option (Fin 3 × FillState)} {p : Fin 3} {a a' : Assignment} {q q' : Pump} (h : Held G p a q)
    (hG : ∀ n x, G' n = some (p, x) ↔ G n = some (p, x)) (ha : a'.holder = a.holder)
    (hn : a'.noFlow.isSome = a.noFlow.isSome) (hw : Wants q' → Wants q) (hr : RestFits q → RestFits q') : Held G' p a' q' := by
  obtain ⟨holder, wants, noFlow, idle⟩ := h
  refine ⟨fun n => ?_, fun w => ?_, ?_, hr idle⟩
  · rw [ha, holder]; exact exists_congr fun x => (hG n x).symm
  · obtain ⟨n, e⟩ := wants (hw w); exact ⟨n, e.imp (hG n _).2 (hG n _).2⟩
  · rw [hn, noFlow]; exact exists_congr fun n => (hG n _).symm

/-- A change of one number's stake, away from and not onto a pump, leaves what is staked on that pump. -/
theorem update_stake {G : Nat → Option (Fin 3 × FillState)} {n : Nat} {v : Option (Fin 3 × FillState)} {p : Fin 3}
    (hG : ∀ x, G n ≠ some (p, x)) (hv : ∀ x, v ≠ some (p, x)) (m : Nat) (x : FillState) :
    Function.update G n v m = some (p, x) ↔ G m = some (p, x) := by
  by_cases hm : m = n
  · subst hm; rw [Function.update_self]; exact ⟨fun e => absurd e (hv x), fun e => absurd e (hG x)⟩
  · rw [Function.update_of_ne hm]

/-- The pump is given up: the order that staked it stakes nothing, and the channel does not want it. -/
theorem Held.release {G : Nat → Option (Fin 3 × FillState)} {p : Fin 3} {n : Nat} {x : FillState} {a a' : Assignment} {q q' : Pump}
    (h : Held G p a q) (hn : G n = some (p, x)) (ha : a'.holder = none) (hf : a'.noFlow = none) (hw : ¬ Wants q') (hr : RestFits q') :
    Held (Function.update G n none) p a' q' := by
  obtain ⟨holder, -, -, -⟩ := h
  have only (m : Nat) (y : FillState) : Function.update G n none m ≠ some (p, y) := by
    by_cases hm : m = n
    · subst hm; rw [Function.update_self]; nofun
    · rw [Function.update_of_ne hm]
      intro hy
      have e := (holder m).2 ⟨y, hy⟩
      exact hm (Option.some.inj (e.symm.trans ((holder n).2 ⟨x, hn⟩)))
  refine ⟨fun m => ?_, fun w => absurd w hw, ?_, hr⟩
  · rw [ha]; exact ⟨nofun, fun ⟨y, hy⟩ => absurd hy (only m y)⟩
  · rw [hf]; exact ⟨nofun, fun ⟨m, hm⟩ => absurd hm (only m _)⟩

/-- The order that holds the pump changes its state, and the no-flow timer runs as it calls for. -/
theorem Held.change {G : Nat → Option (Fin 3 × FillState)} {p : Fin 3} {n : Nat} {x y : FillState} {a a' : Assignment} {q q' : Pump}
    (h : Held G p a q) (hn : G n = some (p, x)) (ha : a'.holder = a.holder) (hf : a'.noFlow.isSome = true ↔ y = .running)
    (hw : Wants q' → y = .starting ∨ y = .running) (hr : RestFits q') : Held (Function.update G n (some (p, y))) p a' q' := by
  obtain ⟨holder, -, -, -⟩ := h
  have only (m : Nat) (z : FillState) : Function.update G n (some (p, y)) m = some (p, z) ↔ m = n ∧ z = y := by
    by_cases hm : m = n
    · subst hm; rw [Function.update_self]; simp [eq_comm]
    · rw [Function.update_of_ne hm]
      refine ⟨fun hz => ?_, fun e => absurd e.1 hm⟩
      have e := (holder m).2 ⟨z, hz⟩
      exact absurd (Option.some.inj (e.symm.trans ((holder n).2 ⟨x, hn⟩))) hm
  refine ⟨fun m => ?_, fun w => ⟨n, ?_⟩, ?_, hr⟩
  · rw [ha, (holder n).2 ⟨x, hn⟩]
    simp only [only, Option.some.injEq]
    exact ⟨fun e => ⟨y, e.symm, rfl⟩, fun ⟨_, e, _⟩ => e.symm⟩
  · exact (hw w).imp (fun e => (only n _).2 ⟨rfl, e.symm⟩) (fun e => (only n _).2 ⟨rfl, e.symm⟩)
  · rw [hf]; simp only [only]
    exact ⟨fun e => ⟨n, rfl, e.symm⟩, fun ⟨_, _, e⟩ => e.symm⟩

/-- A free pump is taken by an order that staked nothing. -/
theorem Held.take {G : Nat → Option (Fin 3 × FillState)} {p : Fin 3} {n : Nat} {a a' : Assignment} {q q' : Pump}
    (h : Held G p a q) (hfree : a.holder = none) (ha : a'.holder = some n) (hf : a'.noFlow = none) (hr : RestFits q') :
    Held (Function.update G n (some (p, .starting))) p a' q' := by
  obtain ⟨holder, -, -, -⟩ := h
  have only (m : Nat) (z : FillState) : Function.update G n (some (p, .starting)) m = some (p, z) ↔ m = n ∧ z = .starting := by
    by_cases hm : m = n
    · subst hm; rw [Function.update_self]; simp [eq_comm]
    · rw [Function.update_of_ne hm]
      refine ⟨fun hz => ?_, fun e => absurd e.1 hm⟩
      exact absurd ((holder m).2 ⟨z, hz⟩) (by rw [hfree]; nofun)
  refine ⟨fun m => ?_, fun _ => ⟨n, .inl ((only n _).2 ⟨rfl, rfl⟩)⟩, ?_, hr⟩
  · rw [ha]; simp only [only, Option.some.injEq]
    exact ⟨fun e => ⟨_, e.symm, rfl⟩, fun ⟨_, e, _⟩ => e.symm⟩
  · rw [hf]; simp [only]

/-- The pump that is held is held by one order only. -/
theorem Assigned.of_stake {s : State} (h : Assigned s) {n : Nat} {f : FillRecord} (hf : findFill n s = some f)
    (ha : inRun f = true ∨ f.state = .retiring) : (s.fill.get f.pump).holder = some n :=
  ((h f.pump).1 n).2 ⟨f.state, stakes_eq_some.2 ⟨f, hf, rfl, rfl, ha⟩⟩

/-- Channels settle, and the records, the holders and the running timers stand. -/
theorem Assigned.settle {s t : State} (h : Assigned s) (hr : stakes t = stakes s) (hf : t.fill = s.fill) (hp : Settling s t) :
    Assigned t := by
  intro p
  obtain ⟨-, hw, hrest⟩ := hp p
  exact (h p).congr (fun n x => by rw [hr]) (by rw [hf]) (by rw [hf]) hw hrest

theorem Assigned.frame {s t : State} (h : Assigned s) (hb : t.book.records = s.book.records) (hf : t.fill = s.fill)
    (hp : t.pumps = s.pumps) : Assigned t := h.settle (stakes_congr hb) hf (settling_of_pumps hp)

end Sys2Proof.Machine

/-! The operations of the fill controller and the book keep the pump assignments' law (R49, R57). -/

namespace Sys2Proof.Machine

open Sys2Proof.Safety

/-! ### Stops and starts -/

/-- A channel that has taken a stop command does not want its pump (R85). -/
theorem stopCommand_not_wants (p : Fin 3) (b : Bool) {s : State} (h : RestFits (s.pumps.get p)) :
    ¬ Wants ((stopCommand p b s).pumps.get p) := by
  have walked (t : State) (e : (t.pumps.get p).state ≠ .claiming) (hw : ¬ Wants (t.pumps.get p)) :
      ¬ Wants ((runWalk t).pumps.get p) := by
    unfold runWalk; rw [walk_pump 64 t p e]; exact hw
  have ended (t : State) (hn : (t.pumps.get p).pendingStart = none) :
      ¬ Wants ((dropGranted (.pump p) (stopEnds p t)).pumps.get p) ∧
        ((dropGranted (.pump p) (stopEnds p t)).pumps.get p).state ≠ .claiming := by
    have kept : ((stopEnds p t).pumps.get p).pendingStart = none := by
      unfold stopEnds; dsimp only
      cases (t.pumps.get p).stopCause <;> simp [enterLockout_self, enterFaulted_self, hn]
    show ¬ Wants ((stopEnds p t).pumps.get p) ∧ ((stopEnds p t).pumps.get p).state ≠ .claiming
    rcases (stopEnds_pump p t).1 with e | e <;> simp [Wants, pumpsFluid, e, kept]
  have run (why : StopCause) :
      ¬ Wants ((enterStoppingBy runWalk p why (setPump p { s.pumps.get p with pendingStart := none } s)).pumps.get p) := by
    unfold enterStoppingBy; dsimp only; split
    · simp [Wants, pumpsFluid]
    · rw [completeStopBy_eq]
      obtain ⟨hw, hc⟩ := ended (emit (.pumpChanged p) (setPump p
        { (setPump p { s.pumps.get p with pendingStart := none } s).pumps.get p with
            state := .stopping, stopCause := why, dwell := none, confirm := none,
            stopTimer := some (setPump p { s.pumps.get p with pendingStart := none } s).gs.stopConfirmTime,
            judged := (setPump p { s.pumps.get p with pendingStart := none } s).inputs.feedback.get p }
        (setPump p { s.pumps.get p with pendingStart := none } s))) (by simp)
      exact walked _ hc hw
  unfold stopCommand stopBy; dsimp only; split
  · refine walked _ ?_ ?_ <;> rw [dropWaiting_pumps] <;> simp [Wants, pumpsFluid]
  · exact run _
  · exact run _
  · rename_i hq; simp [Wants, pumpsFluid, hq]
  · rename_i hq; simp [Wants, pumpsFluid, hq]
  · rename_i h1 h2 h3 h4 h5
    have hrest : (s.pumps.get p).state = .stopped ∨ (s.pumps.get p).state = .faulted ∨ (s.pumps.get p).state = .outOfService := by
      cases hq : (s.pumps.get p).state <;> simp_all
    have idle := h hrest
    rcases hrest with e | e | e <;> simp [Wants, pumpsFluid, e, idle]

/-- A start command leaves the other channels to settle. -/
theorem startCommand_other (p k : Fin 3) (c : ClaimClass) (s : State) (hk : k ≠ p) :
    Settles (s.pumps.get k) ((startCommand p c s).pumps.get k) := by
  have put (q : Pump) : (setPump p q s).pumps.get k = s.pumps.get k := trio_get_set_other _ _ _ _ hk
  unfold startCommand; dsimp only; split
  · have placed := claimPump_settling p c
      (emit (.pumpChanged p) (setPump p { s.pumps.get p with state := .claiming, pendingStart := some c } s)) k
    rwa [emit_pumps, put] at placed
  · rw [put]; exact Settles.refl _
  · exact Settles.refl _

/-! ### One pump's order changes -/

/-- The stake of one order, and the assignment and the channel of one pump, change; the other channels settle. -/
theorem Assigned.change_at {s t : State} {n : Nat} {v : Option (Fin 3 × FillState)} (h : Assigned s) (p : Fin 3)
    (hG : stakes t = Function.update (stakes s) n v) (away : ∀ k, k ≠ p → ∀ x, stakes s n ≠ some (k, x) ∧ v ≠ some (k, x))
    (hfill : ∀ k, k ≠ p → t.fill.get k = s.fill.get k) (hpumps : ∀ k, k ≠ p → Settles (s.pumps.get k) (t.pumps.get k))
    (hp : Held (Function.update (stakes s) n v) p (t.fill.get p) (t.pumps.get p)) : Assigned t := by
  intro k
  rw [hG]
  by_cases hk : k = p
  · subst hk; exact hp
  · obtain ⟨-, hw, hr⟩ := hpumps k hk
    exact (h k).congr (update_stake (fun x => (away k hk x).1) fun x => (away k hk x).2) (by rw [hfill k hk]) (by rw [hfill k hk])
      hw hr

/-- A FILL record is replaced by one that stakes the same. -/
theorem Assigned.putFill {s : State} {n : Nat} {f g : FillRecord} (h : Assigned s) (hf : findFill n s = some f)
    (hs : stake g = stake f) : Assigned (Machine.putFill n g s) :=
  h.settle (by rw [stakes_putFill g hf, hs, ← stakes_of_find hf, Function.update_eq_self]) rfl (Settling.refl _)

theorem Assigned.bookChanged {s : State} (n : Nat) (h : Assigned s) : Assigned (Machine.bookChanged n s) := by
  unfold Machine.bookChanged; dsimp only; split <;> exact h.frame rfl rfl rfl

/-- A record that stakes nothing leaves the book, and no assignment names it. -/
theorem Assigned.removeRecord {s : State} {n : Nat} (h : Assigned s) (hn : stakes s n = none) :
    Assigned (Machine.removeRecord n s) := by
  intro p
  have notHolder : (s.fill.get p).holder ≠ some n := by
    intro e
    obtain ⟨x, hx⟩ := ((h p).1 n).1 e
    rw [hn] at hx; exact absurd hx nofun
  rw [stakes_removeRecord, show (Machine.removeRecord n s).fill.get p = _ from trio_get_map _ _ _]
  exact (h p).congr (update_stake (by rw [hn]; nofun) (by nofun)) (by simp [forgetAssignment, notHolder])
    (by simp [forgetAssignment, notHolder]) id id

/-- A run ends: its order waits, is served or retired, and its pump's assignment is emptied (R49). -/
theorem Assigned.endRun {s : State} {n : Nat} {f : FillRecord} (h : Assigned s) (hf : findFill n s = some f)
    (ha : inRun f = true ∨ f.state = .retiring) (b : Bool) (c : Option Hold) {g : FillRecord} (hg : stake g = none) :
    Assigned (Machine.putFill n g (Machine.endRun n f.pump b c s)) := by
  have stake : stakes s n = some (f.pump, f.state) := stakes_eq_some.2 ⟨f, hf, rfl, rfl, ha⟩
  have found : findFill n (Machine.endRun n f.pump b c s) = some f :=
    (findFill_congr (congrArg Book.records (endRun_book n f.pump b c s)) n).trans hf
  have settled := stopCommand_settling f.pump b s
  refine h.change_at f.pump (n := n) (v := none) ?_ (fun k hk x => ⟨?_, nofun⟩) (fun k hk => ?_) (fun k _ => settled k) ?_
  · rw [stakes_putFill g found, hg, stakes_congr (congrArg Book.records (endRun_book n f.pump b c s))]
  · rw [stake]; intro e; exact hk (Prod.mk.inj (Option.some.inj e)).1.symm
  · show ((stopCommand f.pump b s).fill.set f.pump _).get k = _
    rw [trio_get_set_other _ _ _ _ hk, low_fill (stopCommand_low f.pump b s)]
  · obtain ⟨-, -, -, rest⟩ := h f.pump
    have hr := (settled f.pump).2.2 rest
    have fill : (Machine.putFill n g (Machine.endRun n f.pump b c s)).fill.get f.pump = _ := trio_get_set_same _ _ _
    rw [fill]
    exact (h f.pump).release stake rfl rfl (stopCommand_not_wants f.pump b rest) hr

theorem stake_served (f : FillRecord) (o : Option Hold) (x : Option Served) (d : Option Nat) :
    stake { f with state := .served, hold := o, outcome := x, servedDay := d } = none := by
  simp [stake, inRun]

theorem applyStaged_state (f : FillRecord) : (applyStaged f).state = f.state := by
  unfold applyStaged applyChange; split <;> rfl

/-- A service: a run ends, or a waiting order is served; a system or ONCE order leaves the book (R67). -/
theorem serveOn_assigned (day n : Nat) (o : Served) {s : State} {f : FillRecord} (h : Assigned s) (hf : findFill n s = some f)
    (hr : f.state ≠ .retiring) : Assigned (serveOn day n o s) := by
  obtain ⟨⟨k, origin, v, b⟩, hrec, hb⟩ := findFill_eq_some.1 hf
  obtain rfl : b = .fill f := hb
  have served : Assigned (Machine.putFill n
      { (if inRun f then applyStaged f else f) with state := .served, hold := none, outcome := some o, servedDay := some day }
      (if inRun f then Machine.endRun n f.pump false none s else s)) ∧ stakes (Machine.putFill n
      { (if inRun f then applyStaged f else f) with state := .served, hold := none, outcome := some o, servedDay := some day }
      (if inRun f then Machine.endRun n f.pump false none s else s)) n = none := by
    have found (u : State) (hu : findFill n u = some f) (g : FillRecord) (hg : stake g = none) :
        stakes (Machine.putFill n g u) n = none := by
      rw [stakes_putFill g hu, Function.update_self, hg]
    by_cases hrun : inRun f = true
    · rw [if_pos hrun, if_pos hrun]
      refine ⟨h.endRun hf (.inl hrun) false none (stake_served _ _ _ _), found _ ?_ _ (stake_served _ _ _ _)⟩
      exact (findFill_congr (congrArg Book.records (endRun_book n f.pump false none s)) n).trans hf
    · rw [if_neg hrun, if_neg hrun]
      have idle : Idle f := ⟨by simpa using hrun, hr⟩
      exact ⟨h.putFill hf ((stake_served _ _ _ _).trans (stake_of_idle idle).symm), found _ hf _ (stake_served _ _ _ _)⟩
  unfold serveOn; rw [hrec]; dsimp only
  generalize Machine.putFill n
      { (if inRun f then applyStaged f else f) with state := .served, hold := none, outcome := some o, servedDay := some day }
      (if inRun f then Machine.endRun n f.pump false none s else s) = u at served
  obtain ⟨hu, hn⟩ := served
  have counted : Assigned (if origin = .system then u else countOutcome o u) ∧
      stakes (if origin = .system then u else countOutcome o u) n = none := by
    split
    · exact ⟨hu, hn⟩
    · exact ⟨hu.frame rfl rfl rfl, hn⟩
  generalize (if origin = .system then u else countOutcome o u) = w at counted
  obtain ⟨hw, hn⟩ := counted
  have flagged : Assigned (if o = .reached then w else setEvent .outcome w) ∧
      stakes (if o = .reached then w else setEvent .outcome w) n = none := by
    split
    · exact ⟨hw, hn⟩
    · exact ⟨hw.frame rfl rfl rfl, hn⟩
  generalize (if o = .reached then w else setEvent .outcome w) = x at flagged
  obtain ⟨hx, hn⟩ := flagged
  have leaves (e : Note) (c : Option Window) :
      Assigned (if origin = .system ∨ onceWindow c = true then Machine.removeRecord n (emit e x) else emit e x) := by
    split
    · exact Assigned.removeRecord (hx.frame rfl rfl rfl) hn
    · exact hx.frame rfl rfl rfl
  exact Assigned.bookChanged n (leaves _ _)

/-! ### Waiting orders, suspensions and moves -/

/-- A FILL order that stakes nothing is judged by its window (R16). -/
theorem judgeChangedFill_assigned (n : Nat) {s : State} (h : Assigned s) : Assigned (judgeChangedFill n s) := by
  unfold judgeChangedFill
  split
  · exact h
  · rename_i f hf
    have waits (hw : f.state = .pending ∨ f.state = .due ∨ f.state = .suspended ∨ f.state = .served) (g : FillRecord)
        (hg : g.state = .pending ∨ g.state = .due ∨ g.state = .suspended ∨ g.state = .served) : Assigned (Machine.putFill n g s) :=
      h.putFill hf ((stake_of_idle (idle_of_state hg)).trans (stake_of_idle (idle_of_state hw)).symm)
    have served (o : Served) (hr : f.state ≠ .retiring) : Assigned (serveFill n o s) := serveOn_assigned _ n o h hf hr
    split
    · exact h
    · dsimp only
      split
      · rename_i e
        split
        · exact waits (.inl e) _ (by simp only [openedState]; split <;> simp)
        · exact h
      · rename_i e
        repeat' split
        · exact served _ (by rw [e]; nofun)
        · exact h
        · exact waits (.inr (.inl e)) _ (.inl rfl)
      · rename_i e
        repeat' split
        · exact served _ (by rw [e]; nofun)
        · exact h
        · exact waits (.inr (.inr (.inl e))) _ (.inl rfl)
      · exact h

theorem judgeApplied_assigned (n : Nat) (f : FillRecord) {s : State} (h : Assigned s) : Assigned (judgeApplied n f s) := by
  unfold judgeApplied; split
  · exact judgeChangedFill_assigned n h
  · exact h

theorem stake_due (f : FillRecord) (x : Option Hold) : stake { f with state := .due, hold := x } = none := by simp [stake, inRun]

theorem stake_pending (f : FillRecord) (x : Option Hold) : stake { f with state := .pending, hold := x } = none := by
  simp [stake, inRun]

theorem stake_suspended (f : FillRecord) (x : Option Hold) (c : Option Context) :
    stake { f with state := .suspended, hold := x, context := c } = none := by
  simp [stake, inRun]

/-- An order that waits again, in SUSPENDED or DUE, stakes nothing. -/
theorem stake_waits {f : FillRecord} (c : Option Context) (h : f.state = if c.isSome then .suspended else .due) :
    stake f = none := by
  refine stake_of_idle (idle_of_state ?_)
  rw [h]; split <;> simp

theorem suspendFill_assigned (n : Nat) (x : Hold) (back : Bool) {s : State} {f : FillRecord} (h : Assigned s)
    (hf : findFill n s = some f) (hrun : inRun f = true) : Assigned (suspendFill n x back s) := by
  have notRetiring : f.state ≠ .retiring := by rintro e; simp [inRun, e] at hrun
  have ended (c : Option Hold) {g : FillRecord} (hg : stake g = none) :
      Assigned (Machine.bookChanged n (judgeApplied n f (Machine.putFill n g (Machine.endRun n f.pump false c s)))) :=
    Assigned.bookChanged n (judgeApplied_assigned n f (h.endRun hf (.inl hrun) false c hg))
  unfold suspendFill; rw [hf]; dsimp only
  split
  · split
    · rename_i c _ _
      obtain ⟨r, hr, -⟩ := findFill_eq_some.1 hf
      have counted : Assigned (Machine.putFill n { f with context := some { c with interruptions := c.interruptions + 1 } } s) :=
        h.putFill hf (stake_of_sameHold (.inl ⟨rfl, rfl⟩))
      exact serveOn_assigned _ n _ counted (findFill_eq_some.2 ⟨_, putFill_finds n _ s r hr, rfl⟩) notRetiring
    · exact ended _ (stake_suspended _ _ _)
  · cases back
    · exact ended _ (stake_due _ _)
    · exact ended _ (stake_pending _ _)

theorem newPump_assigned (n : Nat) (b : Bool) {s : State} {f : FillRecord} (h : Assigned s) (hf : findFill n s = some f)
    (hrun : inRun f = true) : Assigned (newPump n b s) := by
  unfold newPump; rw [hf]; dsimp only
  exact Assigned.bookChanged n (h.endRun hf (.inl hrun) b _ (stake_waits f.context rfl))

/-- A start that a pump OUT_OF_SERVICE never took: the assignment is emptied with no stop (R61). -/
theorem endStart_assigned (n : Nat) {s : State} {f : FillRecord} (h : Assigned s) (hf : findFill n s = some f)
    (hrun : inRun f = true) (hout : (s.pumps.get f.pump).state = .outOfService) : Assigned (endStart n s) := by
  have stake : stakes s n = some (f.pump, f.state) := stakes_eq_some.2 ⟨f, hf, rfl, rfl, .inl hrun⟩
  have emptied (a : Assignment) (ha : a.holder = none ∧ a.noFlow = none) {g : FillRecord} (hg : Machine.stake g = none) :
      Assigned (Machine.putFill n g (setAssign f.pump a s)) := by
    refine h.change_at f.pump (n := n) (v := none) ?_ (fun k hk x => ⟨?_, nofun⟩) (fun k hk => trio_get_set_other _ _ _ _ hk)
      (fun k _ => Settles.refl _) ?_
    · exact (stakes_putFill g hf).trans (by rw [hg])
    · rw [stake]; intro e; exact hk (Prod.mk.inj (Option.some.inj e)).1.symm
    · obtain ⟨-, -, -, rest⟩ := h f.pump
      have fill : (Machine.putFill n g (setAssign f.pump a s)).fill.get f.pump = a := trio_get_set_same _ _ _
      rw [fill]
      refine (h f.pump).release stake ha.1 ha.2 ?_ rest
      simp [Wants, pumpsFluid, hout, rest (.inr (.inr hout))]
  unfold endStart; rw [hf]; dsimp only
  exact Assigned.bookChanged n (judgeApplied_assigned n f (emptied _ ⟨rfl, rfl⟩ (stake_waits f.context rfl)))

/-! ### The actions of an evaluation -/

/-- A live record is found under its number. -/
theorem findRecord_of_mem {s : State} (h : BookFits s) {r : Record} (hr : r ∈ s.book.records) : findRecord r.number s = some r := by
  obtain ⟨hasc, -⟩ := h
  unfold findRecord
  generalize s.book.records = rs at hasc hr
  induction rs with
  | nil => exact absurd hr List.not_mem_nil
  | cons x rest ih =>
    obtain ⟨hx, hrest⟩ := List.pairwise_cons.1 hasc
    rcases List.mem_cons.1 hr with rfl | hr
    · simp
    · have lt : x.number < r.number := hx r.number (List.mem_map.2 ⟨r, hr, rfl⟩)
      rw [List.find?_cons_of_neg (by simpa using Nat.ne_of_lt lt)]
      exact ih hrest hr

/-- The record an evaluation acts on stands in the book. -/
theorem firstAction_eq_some {s : State} {rs : List Record} {r : Record} {a : FillAction} (h : firstAction s rs = some (r, a)) :
    r ∈ rs ∧ recordAction s r = some a := by
  induction rs with
  | nil => exact absurd h nofun
  | cons x rest ih =>
    unfold firstAction at h
    split at h
    · rename_i e; obtain ⟨rfl, rfl⟩ := Prod.mk.inj (Option.some.inj h); exact ⟨List.mem_cons_self, e⟩
    · obtain ⟨hr, e⟩ := ih h; exact ⟨List.mem_cons_of_mem _ hr, e⟩

/-- A run is served, loses its pump, is suspended, or ends a start that its pump never took (R61). -/
theorem runAction_eq_some {s : State} {n : Nat} {o : Origin} {f : FillRecord} {a : FillAction} (h : runAction s n o f = some a) :
    (∃ x, a = .serve x) ∨ a = .pumpFault ∨ (∃ x, a = .suspend x) ∨
      (a = .endStart ∧ (s.pumps.get f.pump).state = .outOfService) := by
  unfold runAction at h; dsimp only at h
  repeat' split at h
  all_goals first
    | (obtain rfl := Option.some.inj h; simp; done)
    | (obtain rfl := Option.some.inj h; simp; assumption)
    | exact absurd h nofun

/-- A waiting order is served or moved (R52, R66, R71). -/
theorem waitAction_eq_some {s : State} {n : Nat} {o : Origin} {f : FillRecord} {a : FillAction} (h : waitAction s n o f = some a) :
    (∃ x, a = .serve x) ∨ ∃ p, a = .movePump p := by
  unfold waitAction at h
  repeat' split at h
  · exact .inl ⟨_, (Option.some.inj h).symm⟩
  · exact .inl ⟨_, (Option.some.inj h).symm⟩
  · obtain ⟨p, -, rfl⟩ := Option.map_eq_some_iff.1 h; exact .inr ⟨p, rfl⟩
  · exact absurd h nofun

/-- What an evaluation does to a run keeps the law. -/
theorem actOn_run_assigned {r : Record} {f : FillRecord} {a : FillAction} {s : State} (h : Assigned s)
    (hf : findFill r.number s = some f) (hrun : inRun f = true) (ha : runAction s r.number r.origin f = some a) :
    Assigned (actOn r a s) := by
  have notRetiring : f.state ≠ .retiring := by rintro e; simp [inRun, e] at hrun
  rcases runAction_eq_some ha with ⟨o, rfl⟩ | rfl | ⟨x, rfl⟩ | ⟨rfl, hout⟩
  · exact serveOn_assigned _ _ o h hf notRetiring
  · show Assigned (pumpFailed r.number r.origin s)
    unfold pumpFailed; split
    · exact newPump_assigned _ _ h hf hrun
    · exact serveOn_assigned _ _ _ h hf notRetiring
  · exact suspendFill_assigned _ x false h hf hrun
  · exact endStart_assigned _ h hf hrun hout

/-- What an evaluation does to a waiting order keeps the law. -/
theorem actOn_wait_assigned {r : Record} {f : FillRecord} {a : FillAction} {s : State} (h : Assigned s)
    (hf : findFill r.number s = some f) (hw : f.state = .due ∨ f.state = .suspended)
    (ha : waitAction s r.number r.origin f = some a) : Assigned (actOn r a s) := by
  have states : f.state = .pending ∨ f.state = .due ∨ f.state = .suspended ∨ f.state = .served := by tauto
  rcases waitAction_eq_some ha with ⟨o, rfl⟩ | ⟨p, rfl⟩
  · exact serveOn_assigned _ _ o h hf (by rcases hw with e | e <;> rw [e] <;> nofun)
  · unfold actOn; dsimp only; rw [hf]
    exact Assigned.bookChanged _ (h.putFill hf
      ((stake_of_idle (idle_of_state (f := { f with pump := p }) states)).trans (stake_of_idle (idle_of_state states)).symm))

theorem act_assigned {r : Record} {a : FillAction} {s : State} (hb : BookFits s) (h : Assigned s)
    (e : firstAction s s.book.records = some (r, a)) : Assigned (actOn r a s) := by
  obtain ⟨hr, ha⟩ := firstAction_eq_some e
  have found := findRecord_of_mem hb hr
  unfold recordAction at ha
  split at ha
  · rename_i f hbody
    have hf : findFill r.number s = some f := findFill_eq_some.2 ⟨r, found, hbody⟩
    split at ha
    · rename_i hq; exact actOn_run_assigned h hf (inRun_iff.2 (.inl hq)) ha
    · rename_i hq; exact actOn_run_assigned h hf (inRun_iff.2 (.inr hq)) ha
    · rename_i hq; exact actOn_wait_assigned h hf (.inl hq) ha
    · rename_i hq; exact actOn_wait_assigned h hf (.inr hq) ha
    · exact absurd ha nofun
  · exact absurd ha nofun

end Sys2Proof.Machine

/-! Pumps handed, reports from the channels, and orders entered and retired keep the pump assignments' law, and so every step does. -/

namespace Sys2Proof.Machine

open Sys2Proof.Safety

/-! ### Pumps handed -/

theorem pumpIdle_iff {s : State} {p : Fin 3} : pumpIdle s p = true ↔ (s.pumps.get p).state = .stopped ∧ (s.fill.get p).holder = none := by
  simp [pumpIdle]

/-- The state in which the winner of a pump holds it, before its start command (R56). -/
def handed (n : Nat) (f : FillRecord) (p : Fin 3) (s : State) : State :=
  bookChanged n (setAssign p { holder := some n, lastHolder := none, lastCause := none, noFlow := none }
    (putFill n { f with state := .starting, hold := some .supply } s))

theorem handPump_eq (n : Nat) (f : FillRecord) (p : Fin 3) (s : State) :
    handPump n f p s = startCommand p (orderClass n) (handed n f p s) := rfl

theorem bookChanged_fill (n : Nat) (s : State) : (bookChanged n s).fill = s.fill := by
  unfold bookChanged; dsimp only; split <;> rfl

theorem handed_pumps (n : Nat) (f : FillRecord) (p : Fin 3) (s : State) : (handed n f p s).pumps = s.pumps :=
  congrArg PlantParts.pumps (bookChanged_plantParts n _)

theorem handed_fill (n : Nat) (f : FillRecord) (p : Fin 3) (s : State) :
    (handed n f p s).fill = s.fill.set p { holder := some n, lastHolder := none, lastCause := none, noFlow := none } :=
  bookChanged_fill n _

theorem handed_book (n : Nat) (f : FillRecord) (p : Fin 3) (s : State) :
    (handed n f p s).book = (putFill n { f with state := .starting, hold := some .supply } s).book := bookChanged_book n _

/-- An idle pump is handed to a waiting order that names it (R55, R56). -/
theorem handPump_assigned {p : Fin 3} {n : Nat} {f : FillRecord} {s : State} (hb : BookFits s) (h : Assigned s)
    (e : firstHanding s pumpNumbers = some (p, n, f)) : Assigned (handPump n f p s) := by
  obtain ⟨hidle, hw⟩ := firstHanding_eq_some e
  obtain ⟨-, hfree⟩ := pumpIdle_iff.1 hidle
  obtain ⟨r, hr, rfl, hready⟩ := contend_mem hw
  obtain ⟨hbody, hstate, rfl, -⟩ := readyFor_eq_some.1 hready
  have hf : findFill r.number s = some f := findFill_eq_some.2 ⟨r, findRecord_of_mem hb hr, hbody⟩
  have idle : stakes s r.number = none := by
    rw [stakes_of_find hf]; exact stake_of_idle (idle_of_state (by tauto))
  have low := startCommand_low f.pump (orderClass r.number) (handed r.number f f.pump s)
  rw [handPump_eq]
  refine h.change_at f.pump (n := r.number) (v := some (f.pump, .starting)) ?_ (fun k hk x => ⟨by rw [idle]; nofun, ?_⟩)
    (fun k hk => ?_) (fun k hk => ?_) ?_
  · rw [stakes_congr (congrArg Book.records (low_book low)), stakes_congr (congrArg Book.records (handed_book _ _ _ _)),
      stakes_putFill _ hf]
    rfl
  · intro e; exact hk (Prod.mk.inj (Option.some.inj e)).1.symm
  · rw [low_fill low, handed_fill, trio_get_set_other _ _ _ _ hk]
  · rw [← handed_pumps r.number f f.pump s]; exact startCommand_other _ _ _ _ hk
  · rw [low_fill low, handed_fill, trio_get_set_same]
    refine (h f.pump).take hfree rfl rfl ((startCommand_fits f.pump _ f.pump).2 ?_)
    rw [handed_pumps]; exact (h f.pump).2.2.2

/-! ### Reports from the channels -/

/-- The holder of a pump names it, and stands in a run or RETIRING. -/
theorem Assigned.holder {s : State} (h : Assigned s) {p : Fin 3} {n : Nat} (hn : (s.fill.get p).holder = some n) {f : FillRecord}
    (hf : findFill n s = some f) : f.pump = p ∧ (inRun f = true ∨ f.state = .retiring) := by
  obtain ⟨x, hx⟩ := ((h p).1 n).1 hn
  obtain ⟨g, hg, hp, -, ha⟩ := stakes_eq_some.1 hx
  obtain rfl := Option.some.inj (hf.symm.trans hg)
  exact ⟨hp, ha⟩

/-- The order that holds a pump changes its state in a run, with the pump's no-flow timer. -/
theorem Assigned.holderChanges {s : State} (h : Assigned s) {n : Nat} {f g : FillRecord} (hf : findFill n s = some f)
    (ha : inRun f = true ∨ f.state = .retiring) (hp : g.pump = f.pump) (hg : inRun g = true) {a : Assignment}
    (hold : a.holder = (s.fill.get f.pump).holder) (hn : a.noFlow.isSome = true ↔ g.state = .running) :
    Assigned (setAssign f.pump a (Machine.putFill n g s)) := by
  have staked : stakes s n = some (f.pump, f.state) := stakes_eq_some.2 ⟨f, hf, rfl, rfl, ha⟩
  have after : stake g = some (f.pump, g.state) := by rw [stake_of_run hg, hp]
  refine h.change_at f.pump (n := n) (v := some (f.pump, g.state)) ?_ (fun k hk x => ⟨?_, ?_⟩)
    (fun k hk => trio_get_set_other _ _ _ _ hk) (fun k _ => Settles.refl _) ?_
  · exact (stakes_putFill g hf).trans (by rw [after])
  · rw [staked]; intro e; exact hk (Prod.mk.inj (Option.some.inj e)).1.symm
  · intro e; exact hk (Prod.mk.inj (Option.some.inj e)).1.symm
  · have fill : (setAssign f.pump a (Machine.putFill n g s)).fill.get f.pump = a := trio_get_set_same _ _ _
    rw [fill]
    exact (h f.pump).change staked hold hn (fun _ => inRun_iff.1 hg) (h f.pump).2.2.2

theorem takeRunningConfirmed_assigned (p : Fin 3) {s : State} (h : Assigned s) : Assigned (takeRunningConfirmed p s) := by
  unfold takeRunningConfirmed
  split
  · exact h
  · rename_i n hn
    split
    · exact h
    · rename_i f hf
      split
      · exact h
      · obtain ⟨rfl, ha⟩ := h.holder hn hf
        dsimp only
        refine Assigned.bookChanged n (h.holderChanges hf ha ?_ ?_ ?_ ?_)
        · rfl
        · exact inRun_iff.2 (.inr rfl)
        · rfl
        · simp

theorem takeFlowPulse_assigned (p : Fin 3) {s : State} (h : Assigned s) : Assigned (takeFlowPulse p s) := by
  unfold takeFlowPulse; dsimp only
  split
  · exact h
  · rename_i n hn
    split
    · exact h
    · rename_i f hf
      split
      · exact h
      · rename_i hrun
        have hrun : f.state = .running := by simpa using hrun
        obtain ⟨rfl, ha⟩ := h.holder hn hf
        refine h.holderChanges hf ha ?_ ?_ ?_ ?_
        · rfl
        · exact inRun_iff.2 (.inr hrun)
        · rfl
        · simp [hrun]

theorem takeNoFlow_assigned (p : Fin 3) {s : State} (h : Assigned s) : Assigned (takeNoFlow p s) := by
  unfold takeNoFlow; dsimp only
  split
  · exact h
  · rename_i n hn
    split
    · rename_i r f hr
      have hf : findFill n s = some f := findFill_eq_some.2 ⟨_, hr, rfl⟩
      split
      · rename_i hrun
        split
        · exact newPump_assigned n true h hf (inRun_iff.2 (.inr hrun.1))
        · have stopped := stopCommand_low p true s
          have book := congrArg Book.records (low_book stopped)
          exact serveOn_assigned _ n _ (h.settle (stakes_congr book) (low_fill stopped) (stopCommand_settling p true s))
            ((findFill_congr book n).trans hf) (by rw [hrun.1]; nofun)
      · exact h
    · exact h

/-- A RETIRING holder leaves the book, its assignment emptied with it, once its channel rests (R22, R49). -/
theorem removeRetiring_assigned {s : State} (h : Assigned s) {n : Nat} {f : FillRecord} (hf : findFill n s = some f)
    (hr : f.state = .retiring) (hw : ¬ Wants (s.pumps.get f.pump)) : Assigned (removeRecord n s) := by
  have staked : stakes s n = some (f.pump, f.state) := stakes_eq_some.2 ⟨f, hf, rfl, rfl, .inr hr⟩
  have notHolder (k : Fin 3) (hk : k ≠ f.pump) : (s.fill.get k).holder ≠ some n := by
    intro e
    obtain ⟨x, hx⟩ := ((h k).1 n).1 e
    exact hk (Prod.mk.inj (Option.some.inj (staked.symm.trans hx))).1.symm
  intro k
  rw [stakes_removeRecord, show (removeRecord n s).fill.get k = _ from trio_get_map _ _ _]
  by_cases hk : k = f.pump
  · subst hk
    have holder := h.of_stake hf (.inr hr)
    exact (h f.pump).release staked (by simp [forgetAssignment, holder]) (by simp [forgetAssignment, holder]) hw (h f.pump).2.2.2
  · refine (h k).congr (update_stake (fun x e => ?_) (by nofun)) (by simp [forgetAssignment, notHolder k hk])
      (by simp [forgetAssignment, notHolder k hk]) id id
    exact hk (Prod.mk.inj (Option.some.inj (staked.symm.trans e))).1.symm

/-- The last holder is of no account to the law. -/
theorem Assigned.forgetLast {s : State} (h : Assigned s) (p : Fin 3) :
    Assigned (setAssign p { s.fill.get p with lastHolder := none, lastCause := none } s) := by
  intro k
  by_cases hk : k = p
  · subst hk
    rw [setAssign_fill, trio_get_set_same]
    exact (h k).congr (fun _ _ => Iff.rfl) rfl rfl id id
  · rw [setAssign_fill, trio_get_set_other _ _ _ _ hk]; exact h k

theorem takePumpChanged_assigned (p : Fin 3) {s : State} (h : Assigned s) : Assigned (takePumpChanged p s) := by
  have forgotten : Assigned (if forgetsLast (s.pumps.get p).state = true then
      setAssign p { s.fill.get p with lastHolder := none, lastCause := none } s else s) := by
    split
    · exact h.forgetLast p
    · exact h
  have same : ∀ n, findFill n (if forgetsLast (s.pumps.get p).state = true then
      setAssign p { s.fill.get p with lastHolder := none, lastCause := none } s else s) = findFill n s ∧
      (if forgetsLast (s.pumps.get p).state = true then
        setAssign p { s.fill.get p with lastHolder := none, lastCause := none } s else s).pumps = s.pumps := by
    intro n; split <;> exact ⟨rfl, rfl⟩
  unfold takePumpChanged; dsimp only
  generalize (if forgetsLast (s.pumps.get p).state = true then
      setAssign p { s.fill.get p with lastHolder := none, lastCause := none } s else s) = u at forgotten same
  refine Assigned.frame (s := match (s.fill.get p).holder with
      | none => u
      | some n => match findFill n u with
        | none => u
        | some f => if f.state = .retiring ∧ (forgetsLast (s.pumps.get p).state = true ∨ (s.pumps.get p).state = .lockout)
          then removeRecord n u else u) ?_ rfl rfl rfl
  split
  · exact forgotten
  · rename_i n hn
    split
    · exact forgotten
    · rename_i f hf
      split
      · rename_i hr
        obtain ⟨hfind, hpumps⟩ := same n
        obtain ⟨hpump, -⟩ := h.holder hn (hfind.symm.trans hf)
        refine removeRetiring_assigned forgotten hf hr.1 ?_
        rw [hpump, hpumps]
        intro hw
        obtain ⟨m, hm⟩ := (h p).2.1 hw
        have staked : stakes s n = some (p, .retiring) := stakes_eq_some.2 ⟨f, hfind.symm.trans hf, hpump, hr.1, .inr hr.1⟩
        have holder : ∀ x, stakes s m = some (p, x) → x = .retiring := fun x hx => by
          have e := Option.some.inj ((((h p).1 m).2 ⟨x, hx⟩).symm.trans (((h p).1 n).2 ⟨_, staked⟩))
          subst e
          exact (Prod.mk.inj (Option.some.inj (hx.symm.trans staked))).2
        rcases hm with hm | hm <;> exact absurd (holder _ hm) nofun
      · exact forgotten

/-! ### Orders entered, changed and retired -/

/-- A record that stakes nothing enters under a free number. -/
theorem stakes_insert {s t : State} {r : Record} (hfree : ∀ x ∈ s.book.records, x.number ≠ r.number)
    (ht : t.book.records = insertRecord r s.book.records) (hi : ∀ f, r.body = .fill f → Idle f) : stakes t = stakes s := by
  have found (n : Nat) : findRecord n t = if n = r.number then some r else findRecord n s := by
    unfold findRecord; rw [ht]
    by_cases hn : n = r.number
    · subst hn; rw [if_pos rfl]; exact insertRecord_finds r _ hfree
    · rw [if_neg hn]
      generalize s.book.records = rs
      induction rs with
      | nil => simp [insertRecord, Ne.symm hn]
      | cons x rest ih =>
        unfold insertRecord; split
        · rw [List.find?_cons_of_neg (by simpa using Ne.symm hn)]
        · rw [List.find?_cons, List.find?_cons, ih]
  funext n
  unfold stakes findFill; rw [found]
  by_cases hn : n = r.number
  · subst hn
    have before : findRecord r.number s = none := List.find?_eq_none.2 fun x hx => by simpa using hfree x hx
    rw [if_pos rfl, before]
    obtain ⟨k, o, v, b⟩ := r
    cases b with
    | fill f => exact stake_of_idle (hi f rfl)
    | heat _ => rfl
    | report _ => rfl
  · rw [if_neg hn]

theorem enterRecord_assigned (port : Port) (b : Body) {s : State} (hb : BookFits s) (h : Assigned s)
    (hroom : ¬ 30 ≤ externalCount s) (hi : ∀ f, b = .fill f → Idle f) : Assigned (enterRecord (allocate s) port b s) := by
  obtain ⟨-, -, hfree⟩ := allocate_free hb hroom
  unfold enterRecord; dsimp only
  exact Assigned.bookChanged _ (h.settle (stakes_insert (isLive_eq_false.1 hfree) rfl hi) rfl (Settling.refl _))

theorem placeSystem_assigned (n t : Nat) {s : State} (h : Assigned s) : Assigned (placeSystem n t s) := by
  unfold placeSystem; split
  · exact h
  · rename_i hlive
    have hfree : isLive n s = false := by simpa using hlive
    refine Assigned.bookChanged n (h.settle (stakes_insert (r := systemRecord n t ((choosePump s).getD 0))
      (isLive_eq_false.1 hfree) rfl fun f hf => ?_) rfl (Settling.refl _))
    rw [← Body.fill.inj hf]; exact idle_of_state (.inr (.inl rfl))

/-- RETIRE of a run: the order keeps its pump until the channel rests (R22). -/
theorem beginRetiring_assigned {n : Nat} {f : FillRecord} {s : State} (h : Assigned s) (hf : findFill n s = some f)
    (hrun : inRun f = true) : Assigned (beginRetiring n f s) := by
  have staked : stakes s n = some (f.pump, f.state) := stakes_eq_some.2 ⟨f, hf, rfl, rfl, .inl hrun⟩
  have after : stake { f with state := .retiring, hold := none, staged := none } = some (f.pump, .retiring) := by simp [stake]
  unfold beginRetiring; dsimp only
  refine Assigned.bookChanged n ?_
  have stopped := stopCommand_low f.pump false (setAssign f.pump
    { (putFill n { f with state := .retiring, hold := none, staged := none } s).fill.get f.pump with noFlow := none }
    (putFill n { f with state := .retiring, hold := none, staged := none } s))
  have settled := stopCommand_settling f.pump false (setAssign f.pump
    { (putFill n { f with state := .retiring, hold := none, staged := none } s).fill.get f.pump with noFlow := none }
    (putFill n { f with state := .retiring, hold := none, staged := none } s))
  have rest : RestFits (s.pumps.get f.pump) := (h f.pump).2.2.2
  refine h.change_at f.pump (n := n) (v := some (f.pump, .retiring)) ?_ (fun k hk x => ⟨?_, ?_⟩) (fun k hk => ?_)
    (fun k _ => settled k) ?_
  · rw [stakes_congr (congrArg Book.records (low_book stopped)), ← after]; exact stakes_putFill _ hf
  · rw [staked]; intro e; exact hk (Prod.mk.inj (Option.some.inj e)).1.symm
  · intro e; exact hk (Prod.mk.inj (Option.some.inj e)).1.symm
  · rw [low_fill stopped, setAssign_fill, trio_get_set_other _ _ _ _ hk]; rfl
  · rw [low_fill stopped, setAssign_fill, trio_get_set_same]
    exact (h f.pump).change staked rfl (by simp) (fun w => absurd w (stopCommand_not_wants f.pump false rest))
      ((settled f.pump).2.2 rest)

/-- A record of another kind, replaced by one of another kind, stakes nothing before or after. -/
theorem stakes_mapRecord {n : Nat} {s : State} {r : Record} {g : Record → Record} (hr : findRecord n s = some r)
    (hg : ∀ x : Record, x.number = n → (g x).number = n) (hb : ∀ f, r.body ≠ .fill f) (ha : ∀ f, (g r).body ≠ .fill f) :
    stakes (setRecords (mapRecord n g s.book.records) s) = stakes s := by
  have idle {u : State} {x : Record} (hx : findRecord n u = some x) (hb : ∀ f, x.body ≠ .fill f) : stakes u n = none := by
    unfold stakes
    cases e : findFill n u with
    | none => rfl
    | some f =>
      obtain ⟨y, hy, hf⟩ := findFill_eq_some.1 e
      obtain rfl := Option.some.inj (hx.symm.trans hy)
      exact absurd hf (hb f)
  funext m
  by_cases hm : m = n
  · subst hm
    have after : findRecord m (setRecords (mapRecord m g s.book.records) s) = some (g r) := mapRecord_finds m g _ r hg hr
    rw [idle hr hb, idle after ha]
  · have other : findRecord m (setRecords (mapRecord n g s.book.records) s) = findRecord m s := mapRecord_other n m g _ hg hm
    unfold stakes findFill; rw [other]

theorem putHeat_assigned {n : Nat} {q : HeatRecord} (g : HeatRecord) {s : State} (h : Assigned s) (hq : findHeat n s = some q) :
    Assigned (putHeat n g s) := by
  obtain ⟨r, hr, hb⟩ := findHeat_eq_some.1 hq
  exact h.settle (stakes_mapRecord (g := fun x => { x with body := .heat g }) hr (fun _ hx => hx) (by rw [hb]; simp) (by simp)) rfl
    (Settling.refl _)

theorem amendReport_assigned (n : Nat) (a : ReportAmend) (q : ReportRecord) {s : State} {r : Record} (h : Assigned s)
    (hr : findRecord n s = some r) (hb : r.body = .report q) : Assigned (amendReport n a q s).1 := by
  have bumped : Assigned (bumpRevision n s) := by
    refine h.settle (stakes_mapRecords s fun x => ?_) rfl (Settling.refl _)
    obtain ⟨k, o, v, b⟩ := x
    split <;> cases b <;> simp [SameOrder]
  have found := bumpRevision_finds n s r hr
  unfold amendReport; repeat' split
  · exact h
  · exact h
  · rename_i q' _ _
    exact Assigned.bookChanged n (bumped.settle (stakes_mapRecord (g := fun x => { x with body := .report q' }) found
      (fun _ hx => hx) (by simp [hb]) (by simp)) rfl (Settling.refl _))

/-! ### Every step -/

/-- The book's law and the assignments' law together. -/
def BookAssigned (s : State) : Prop := BookFits s ∧ Assigned s

theorem assigned_resetNow (x : Pins) (s : State) : Assigned (resetNow x s) := by
  have parts := resetNow_lawParts x s
  refine Assigned.frame (s := resetBlocks x s) (fun p => ?_) (congrArg LawParts.records parts) (congrArg LawParts.fill parts)
    (congrArg LawParts.pumps parts)
  have nothing : ∀ n, stakes (resetBlocks x s) n = none := fun n => rfl
  have empty : (resetBlocks x s).fill.get p = { holder := none, lastHolder := none, lastCause := none, noFlow := none } := by
    fin_cases p <;> rfl
  rw [empty, resetBlocks_pump]
  refine ⟨fun n => by simp [nothing], fun hw => ?_, by simp [nothing], fun _ => rfl⟩
  unfold pumpAtReset at hw
  rcases hw with hw | hw
  · dsimp only at hw; split at hw <;> exact absurd hw nofun
  · exact absurd hw nofun

/-- Every primitive operation keeps the two laws. -/
theorem bookAssigned_stepLaw : StepLaw BookAssigned where
  toPlantLaw := plantLaw_of_mild
    (fun hs e => ⟨bookFits_stepLaw.frame hs.1 e,
      hs.2.frame (congrArg LawParts.records e) (congrArg LawParts.fill e) (congrArg LawParts.pumps e)⟩)
    (fun hs h => ⟨bookFits_of_book h.book hs.1, hs.2.settle (stakes_congr (congrArg Book.records h.book)) h.fill h.pumps⟩)
    (fun g s hs => by
      obtain ⟨hp, hb, hf⟩ := enterGuard_settling g s
      exact ⟨bookFits_of_book hb hs.1, hs.2.settle (stakes_congr (congrArg Book.records hb)) hf hp⟩)
    (fun n s hs => by
      refine ⟨hs.1, fun p => ?_⟩
      rw [tickTimers_pump, show (tickTimers n s).fill.get p = _ from trio_get_map _ _ _]
      exact (hs.2 p).congr (fun _ _ => Iff.rfl) rfl (by simp [tickTimer]) id id)
    (fun x s _ => ⟨bookFits_resetNow x s, assigned_resetNow x s⟩)
  serveOn day n o s f hs hf hr := ⟨bookFits_fillLaw.serveOn day n o s f hs.1 hf hr, serveOn_assigned day n o hs.2 hf hr⟩
  suspendFill n x b s f hs hf hr := ⟨bookFits_fillLaw.suspendFill n x b s f hs.1 hf hr, suspendFill_assigned n x b hs.2 hf hr⟩
  act r a s hs e := ⟨bookFits_fillLaw.act r a s hs.1 e, act_assigned hs.1 hs.2 e⟩
  handPump p n f s hs e := ⟨bookFits_fillLaw.handPump p n f s hs.1 e, handPump_assigned hs.1 hs.2 e⟩
  takeNoFlow p s hs := ⟨bookFits_fillLaw.takeNoFlow p s hs.1, takeNoFlow_assigned p hs.2⟩
  takeRunningConfirmed p s hs := ⟨bookFits_fillLaw.takeRunningConfirmed p s hs.1, takeRunningConfirmed_assigned p hs.2⟩
  takePumpChanged p s hs := ⟨bookFits_fillLaw.takePumpChanged p s hs.1, takePumpChanged_assigned p hs.2⟩
  takeFlowPulse p s hs := ⟨bookFits_fillLaw.takeFlowPulse p s hs.1, takeFlowPulse_assigned p hs.2⟩
  putFill n f g s hs hf hh := ⟨bookFits_fillLaw.putFill n f g s hs.1 hf hh, hs.2.putFill hf (stake_of_sameHold hh)⟩
  putHeat n q g s hs hq := ⟨bookFits_fillLaw.putHeat n q g s hs.1 hq, putHeat_assigned g hs.2 hq⟩
  mapRecords g s hs hg := ⟨bookFits_fillLaw.mapRecords g s hs.1 hg, hs.2.settle (stakes_mapRecords s hg) rfl (Settling.refl _)⟩
  amendReport n a q s r hs hr hb := ⟨bookFits_fillLaw.amendReport n a q s r hs.1 hr hb, amendReport_assigned n a q hs.2 hr hb⟩
  removeRecord n s hs hi := by
    refine ⟨bookFits_fillLaw.removeRecord n s hs.1 hi, hs.2.removeRecord ?_⟩
    unfold stakes
    cases e : findFill n s with
    | none => rfl
    | some f => exact stake_of_idle (hi f e)
  enterRecord port b s hs hroom hi :=
    ⟨bookFits_fillLaw.enterRecord port b s hs.1 hroom hi, enterRecord_assigned port b hs.1 hs.2 hroom hi⟩
  placeSystem n t s hs hn := ⟨bookFits_fillLaw.placeSystem n t s hs.1 hn, placeSystem_assigned n t hs.2⟩
  beginRetiring n f s hs hf hr := ⟨bookFits_fillLaw.beginRetiring n f s hs.1 hf hr, beginRetiring_assigned hs.2 hf hr⟩

/-- Settles O59: pump by pump, by what each order stakes on its pump; the book's law tells one record from another. -/
theorem assignmentsKept : Obligations.AssignmentsKept :=
  keptByStep_congr (keptByStep_of_stepLaw bookAssigned_stepLaw) fun s => and_congr_right fun _ => assignmentsFit_iff s

end Sys2Proof.Machine

/-! The queue (log entry 1), and the state right after reset, which meets every law that steps keep. -/

namespace Sys2Proof.Machine

open Sys2Proof.Safety

/-- Settles O1: both branches of a step. -/
theorem stepTakesFrontCommand : Obligations.StepTakesFrontCommand :=
  ⟨fun _ _ _ => rfl, fun s h => by unfold step; rw [h]⟩

/-- Every field input inactive. -/
def quietPins : Pins := ⟨Trio.all false, Trio.all false, false, false, false, Octo.all false, false⟩

theorem reset_image_good : imageGood State.reset.store.image = true := by
  have fields : guardSetInRange factoryGuardSet = true := by decide
  have calendar : calendarGood factoryCalendar = true := by decide
  have check : imageCheck factoryGuardSet factoryCalendar = State.reset.store.image.check := by simp only [State.reset]
  rw [imageGood, ← check]
  simp [State.reset, fields, calendar]

/-- What the blocks come to is the reset state, but for the flag POWER_UP. -/
theorem reset_blocks : resetBlocks quietPins State.reset = { State.reset with events := 0 } := by
  have gs : loadedGuardSet State.reset.store = factoryGuardSet := if_pos reset_image_good
  have store : loadedStore State.reset.store = State.reset.store := if_pos reset_image_good
  unfold resetBlocks
  rw [gs, store]
  rfl

theorem reset_now : resetNow quietPins State.reset = State.reset := by
  unfold resetNow
  rw [reset_blocks, reset_image_good]
  rfl

/-- RESET on a part just reset gives it again, but for the free value drawn. -/
theorem reset_again : { finish (resetNow quietPins State.reset) with choice := 0, freeCount := 0 } = State.reset := by
  rw [reset_now]; rfl

/-- Settles O3: RESET gives this state again, and each law holds of what RESET leaves. -/
theorem resetStateIsLawful : Obligations.ResetStateIsLawful := by
  have matching : Matching True Unexempt State.reset := by rw [← reset_now]; exact resetNow_matching _ _
  have assigned : Assigned State.reset := by rw [← reset_now]; exact assigned_resetNow _ _
  refine ⟨⟨_, rfl, reset_again⟩, fun p => ?_, fun p => ?_, ?_, ?_, ?_, (claimsMatch_iff _).2 matching, (assignmentsFit_iff _).2 assigned,
    ?_, ?_⟩
  · revert p; decide
  · unfold PumpItemsFit; revert p; decide
  · rw [← reset_now]; exact valveFits_resetNow _ _
  · exact ⟨by decide, by decide, by decide, by decide⟩
  · rw [← reset_now]; exact bookFits_resetNow _ _
  · exact ⟨by decide, by decide, by decide⟩
  · exact ⟨by decide, by decide⟩

end Sys2Proof.Machine

/-! Facts that many statements need: which flags an update leaves set, which announcements a free order holds, and the setpoint as the
greatest value that applies (R78, R135, R188). -/

namespace Sys2Proof.Machine

open Sys2Proof.Safety

/-! ### Flags -/

/-- A flag is set when its bit is. -/
theorem eventIsSet_eq_getLsbD (f : EventFlag) (s : State) : eventIsSet f s = s.events.getLsbD (flagBit f) := by
  unfold eventIsSet
  rw [Bool.eq_iff_iff, bne_iff_ne, ne_zero_iff_exists_flag]
  constructor
  · rintro ⟨g, hg⟩
    rw [BitVec.getLsbD_and, flagMask_getLsbD, Bool.and_eq_true, decide_eq_true_eq] at hg
    obtain ⟨hg, rfl⟩ := hg
    exact hg
  · exact fun h => ⟨f, by rw [BitVec.getLsbD_and, flagMask_getLsbD, h]; simp⟩

/-- Setting a flag sets that one and leaves the others (R188). -/
theorem eventIsSet_setEvent_iff (f g : EventFlag) (s : State) :
    eventIsSet g (setEvent f s) = (decide (f = g) || eventIsSet g s) := by
  rw [eventIsSet_eq_getLsbD, eventIsSet_eq_getLsbD, setEvent_getLsbD]

/-- The flags are a matter of the event set alone. -/
theorem eventIsSet_congr {s t : State} (h : t.events = s.events) (f : EventFlag) : eventIsSet f t = eventIsSet f s := by
  unfold eventIsSet; rw [h]

/-! ### Announcements in a free order -/

theorem pickOrder_perm (n : Nat) (ns : List Note) (k : Nat) : (pickOrder n ns k).1.Perm ns := by
  induction n generalizing ns k with
  | zero => exact List.Perm.refl _
  | succ n ih =>
    unfold pickOrder; split
    · exact List.Perm.refl _
    · rename_i x hx
      obtain ⟨hi, rfl⟩ := List.getElem?_eq_some_iff.1 hx
      exact ((ih _ _).cons _).trans (List.getElem_cons_eraseIdx_perm hi)

/-- A free order holds each announcement once. -/
theorem emitFree_agenda_perm (ns : List Note) (s : State) : ∃ xs, (emitFree ns s).agenda = s.agenda ++ xs ∧ xs.Perm ns :=
  ⟨_, rfl, pickOrder_perm _ _ _⟩

/-! ### Setpoints -/

/-- The greatest of some values that may not apply. -/
theorem foldl_greater (l : List (Option Int)) (a : Option Int) :
    (∀ v, a = some v ∨ some v ∈ l → ∃ x, l.foldl greater a = some x ∧ v ≤ x) ∧
      ∀ x, l.foldl greater a = some x → a = some x ∨ some x ∈ l := by
  induction l generalizing a with
  | nil => exact ⟨fun v h => ⟨v, by simpa using h, Int.le_refl v⟩, fun x h => .inl h⟩
  | cons b rest ih =>
    have step : (∀ v, a = some v ∨ b = some v → ∃ x, greater a b = some x ∧ v ≤ x) ∧
        ∀ x, greater a b = some x → a = some x ∨ b = some x := by
      cases a with
      | none => exact ⟨fun v hv => ⟨v, by simpa [greater] using hv, Int.le_refl v⟩, fun x hx => .inr hx⟩
      | some a =>
        cases b with
        | none => simp [greater]
        | some b =>
          refine ⟨fun v hv => ⟨max a b, rfl, ?_⟩, fun x hx => ?_⟩
          · simp only [Option.some.injEq] at hv; omega
          · simp only [greater, Option.some.injEq] at hx ⊢; omega
    obtain ⟨above, among⟩ := ih (greater a b)
    refine ⟨fun v hv => ?_, fun x hx => ?_⟩
    · rw [List.foldl_cons]
      rcases hv with hv | hv
      · obtain ⟨y, hy, hle⟩ := step.1 v (.inl hv)
        obtain ⟨x, hx, hle'⟩ := above y (.inl hy)
        exact ⟨x, hx, by omega⟩
      · rcases List.mem_cons.1 hv with hv | hv
        · obtain ⟨y, hy, hle⟩ := step.1 v (.inr hv.symm)
          obtain ⟨x, hx, hle'⟩ := above y (.inl hy)
          exact ⟨x, hx, by omega⟩
        · exact above v (.inr hv)
    · rw [List.foldl_cons] at hx
      rcases among x hx with h | h
      · exact (step.2 x h).imp_right fun e => by rw [e]; exact List.mem_cons_self
      · exact .inr (List.mem_cons_of_mem _ h)

theorem holdOf_eq_some {c : Fin 8} {r : Record} {v : Int} :
    holdOf c r = some v ↔ ∃ h, r.body = .heat h ∧ h.state = .active ∧ h.circuit = c ∧ v = h.hold := by
  unfold holdOf
  cases r.body with
  | heat h => simp [and_assoc, eq_comm]
  | _ => simp

theorem greater_eq_some_of {a b : Option Int} {v : Int} (h : greater a b = some v) : a = some v ∨ b = some v := by
  cases a <;> cases b <;> simp_all [greater]
  omega

/-- The setpoint worked out is the greatest value that applies (R135). -/
theorem setpointOf_is (s : State) (c : Fin 8) : SetpointIs s c (setpointOf s c) := by
  obtain ⟨above, among⟩ := foldl_greater (s.book.records.map (holdOf c))
    (greater (frostFloor s.gs (s.gs.role.get c))
      (if s.gs.role.get c = .tank ∧ s.frost.fallback then some s.gs.tankCold else none))
  have held (v : Int) : some v ∈ s.book.records.map (holdOf c) ↔
      ∃ r ∈ s.book.records, ∃ h, r.body = .heat h ∧ h.state = .active ∧ h.circuit = c ∧ v = h.hold := by
    simp only [List.mem_map, holdOf_eq_some]
  refine ⟨fun v hv => above v ?_, fun x hx => ?_⟩
  · rcases hv with ⟨hr, rfl⟩ | ⟨hr, rfl⟩ | ⟨hr, rfl⟩ | ⟨hr, hf, rfl⟩ | hv
    · exact .inl (by simp [hr, frostFloor, greater])
    · exact .inl (by simp [hr, frostFloor, greater])
    · exact .inl (by simp [hr, frostFloor, greater])
    · exact .inl (by simp [hr, hf, frostFloor, greater])
    · exact .inr ((held v).2 hv)
  · rcases among x hx with h | h
    · rcases greater_eq_some_of h with h | h
      · unfold frostFloor at h
        split at h
        · rename_i hr; exact .inl ⟨hr, (Option.some.inj h).symm⟩
        · rename_i hr; exact .inr (.inl ⟨hr, (Option.some.inj h).symm⟩)
        · rename_i hr; exact .inr (.inr (.inl ⟨hr, (Option.some.inj h).symm⟩))
        · exact absurd h nofun
      · split at h
        · rename_i hr; exact .inr (.inr (.inr (.inl ⟨hr.1, hr.2, (Option.some.inj h).symm⟩)))
        · exact absurd h nofun
    · exact .inr (.inr (.inr (.inr ((held x).1 h))))

end Sys2Proof.Machine

/-! RESET (R198): what every block comes to. -/

namespace Sys2Proof.Machine

open Sys2Proof.Safety

/-! ### What reset adds to the blocks -/

theorem resetEvents_frame (good : Bool) (x : Pins) (s : State) :
    resetEvents good x s = { s with events := (resetEvents good x s).events } := by
  unfold resetEvents; dsimp only; repeat' split
  all_goals rfl

/-- The flags reset sets: POWER_UP, DEFAULTED for want of a good image, PUMP_FAULT and VALVE_FAULT by the inputs (R188). -/
theorem resetEvents_isSet (good : Bool) (x : Pins) (s : State) (f : EventFlag) :
    eventIsSet f (resetEvents good x s) =
      (eventIsSet f s || decide (f = .powerUp) || (decide (f = .defaulted) && !good) ||
        (decide (f = .pumpFault) && (x.feedback.toList ++ x.overload.toList).any id) ||
        (decide (f = .valveFault) && (x.openLimit && x.closedLimit))) := by
  have flag (b : Bool) (g : EventFlag) (t : State) :
      eventIsSet f (if b = true then setEvent g t else t) = (eventIsSet f t || (decide (f = g) && b)) := by
    cases b <;> simp [eventIsSet_setEvent_iff, Bool.or_comm, eq_comm]
  have notFlag (b : Bool) (g : EventFlag) (t : State) :
      eventIsSet f (if b = true then t else setEvent g t) = (eventIsSet f t || (decide (f = g) && !b)) := by
    cases b <;> simp [eventIsSet_setEvent_iff, Bool.or_comm, eq_comm]
  unfold resetEvents; dsimp only
  rw [flag, flag, notFlag, eventIsSet_setEvent_iff]
  simp [Bool.or_comm, eq_comm]

/-- Besides the blocks, reset leaves flags, the tally's judgement of a zero allowance, and its reports (R48, R198). -/
theorem resetNow_shape (x : Pins) (s : State) :
    ∃ ev notes ch,
      resetNow x s =
        { resetBlocks x s with
          events := ev
          clock := { (resetBlocks x s).clock with reachedToday := decide ((resetBlocks x s).gs.allowance = 0) }
          agenda := notes
          choice := ch } ∧
      notes.Perm (resetReports x) ∧
      ∀ f, f ≠ .allowance → (ev.getLsbD (flagBit f) = (decide (f = .powerUp) ||
        (decide (f = .defaulted) && !imageGood s.store.image) ||
        (decide (f = .pumpFault) && (x.feedback.toList ++ x.overload.toList).any id) ||
        (decide (f = .valveFault) && (x.openLimit && x.closedLimit)))) := by
  have clean (f : EventFlag) : eventIsSet f (resetBlocks x s) = false := by rw [eventIsSet_eq_getLsbD]; exact BitVec.getLsbD_zero
  have flags := fun f => resetEvents_isSet (imageGood s.store.image) x (resetBlocks x s) f
  simp only [clean, Bool.false_or] at flags
  have frame := resetEvents_frame (imageGood s.store.image) x (resetBlocks x s)
  generalize ht : (resetEvents (imageGood s.store.image) x (resetBlocks x s)) = t at flags frame
  have judged : judgeAllowance t =
      { t with
        events := (judgeAllowance t).events
        clock := { t.clock with reachedToday := decide (t.gs.allowance = 0) } } ∧
      ∀ f, f ≠ .allowance → eventIsSet f (judgeAllowance t) = eventIsSet f t := by
    have tally : t.clock.tally = 0 := by rw [frame]; rfl
    have fresh : t.clock.reachedToday = false := by rw [frame]; rfl
    have spent : allowanceSpent t = decide (t.gs.allowance = 0) := by simp [allowanceSpent, tally]
    unfold judgeAllowance
    by_cases hz : t.gs.allowance = 0
    · rw [if_pos (by rw [spent, fresh]; simp [hz])]
      refine ⟨by simp [hz, setEvent], fun f hf => ?_⟩
      rw [eventIsSet_setEvent_iff, decide_eq_false hf.symm]; rfl
    · rw [if_neg (by rw [spent]; simp [hz])]
      refine ⟨?_, fun _ _ => rfl⟩
      rw [decide_eq_false hz, ← fresh]
  obtain ⟨judged, same⟩ := judged
  refine ⟨(judgeAllowance t).events, (pickOrder (resetReports x).length (resetReports x) s.choice).1,
    (pickOrder (resetReports x).length (resetReports x) s.choice).2, ?_, pickOrder_perm _ _ _, fun f hf => ?_⟩
  · unfold resetNow emitFree; dsimp only
    rw [ht, judged, frame]; rfl
  · rw [← eventIsSet_eq_getLsbD, same f hf, flags]

/-- The reports of reset: a weld for each closed feedback, and a judgement for a lifted float. -/
theorem mem_resetReports (x : Pins) :
    (Note.guardJudge ∈ resetReports x ↔ x.float = true) ∧ ∀ p, Note.weld p ∈ resetReports x ↔ x.feedback.get p = true := by
  have all (p : Fin 3) : p ∈ pumpNumbers := by fin_cases p <;> decide
  unfold resetReports
  refine ⟨?_, fun p => ?_⟩
  · cases x.float <;> simp
  · cases x.float <;> simp [all]

theorem trio_any_of_get {b : Trio Bool} {p : Fin 3} (h : b.get p = true) : b.toList.any id = true := by
  obtain ⟨x, y, z⟩ := b
  fin_cases p <;> simp_all [Trio.toList, Trio.get]

theorem circuitsAtReset_get (g : GuardSet) (c : Fin 8) : (circuitsAtReset g).get c = circuitAtReset g c := by
  fin_cases c <;> rfl

/-- With no orders and the fallback flag clear the setpoint is the frost floor of the role (R135). -/
theorem setpointOf_of_empty {s : State} (hr : s.book.records = []) (hf : s.frost.fallback = false) (c : Fin 8) :
    setpointOf s c = frostFloor s.gs (s.gs.role.get c) := by
  have whole (a : Option Int) : greater a none = a := by cases a <;> rfl
  unfold setpointOf; rw [hr, hf]
  simp [whole]

theorem circuitOfRole_isSome (g : GuardSet) (r : Role) : (circuitOfRole g r).isSome = true ↔ ∃ c, g.role.get c = r := by
  have all (c : Fin 8) : c ∈ eightNumbers := by fin_cases c <;> decide
  simp [circuitOfRole, all]

/-- A welded pump's claim stands granted in class RESERVE for its rating (R108). -/
theorem weldedClaims_of_closed (g : GuardSet) {fb : Trio Bool} {p : Fin 3} (h : fb.get p = true) :
    ∃ c ∈ weldedClaims g fb, c.claimant = .pump p ∧ c.units = g.rating.get p ∧ c.cls = .reserve ∧ c.reclaiming = false := by
  obtain ⟨a, b, d⟩ := fb
  fin_cases p <;> cases a <;> cases b <;> cases d <;> simp_all [Trio.get, weldedClaims, pumpNumbers, List.range, List.range.loop]

/-- Settles O4: the blocks' reset values, with the flags and the reports that reset adds to them. -/
theorem resetSetsTheBlocks : Obligations.ResetSetsTheBlocks := by
  intro x s u
  have whole := resetNow_shape x s
  have reset := exec_reset x s
  obtain ⟨ev, notes, ch, hu, hperm, flags⟩ := whole
  have isSet (f : EventFlag) : eventIsSet f u = ev.getLsbD (flagBit f) := by
    rw [eventIsSet_eq_getLsbD]; show (resetNow x s).events.getLsbD _ = _; rw [hu]
  have held (n : Note) : n ∈ u.agenda ↔ n ∈ resetReports x := by
    show n ∈ (resetNow x s).agenda ↔ _; rw [hu]; exact hperm.mem_iff
  have blocks := resetBlocks_pump x s
  refine ⟨reset, ?_⟩
  change u = _ at hu
  clear_value u
  subst hu
  refine ⟨rfl, ?_, ?_, rfl, rfl, rfl, rfl, rfl, rfl, rfl, rfl, rfl, rfl, rfl, fun c => ?_, fun hc => ?_, fun hc => ?_, rfl, rfl, rfl,
    rfl, rfl, rfl, ?_, ?_, ?_, fun ho hc => ?_, fun ho => ?_, fun ho hc => ?_, fun p => ?_⟩
  · show (loadedStore s.store).calendar = _
    unfold loadedStore; split <;> rfl
  · show (loadedStore s.store).commit = _
    unfold loadedStore; split <;> simp_all
  · have circuit : (circuitsAtReset (loadedGuardSet s.store)).get c = _ := circuitsAtReset_get _ c
    refine ⟨congrArg Circuit.state circuit, congrArg Circuit.timer circuit, ?_⟩
    show SetpointIs _ c ((circuitsAtReset (loadedGuardSet s.store)).get c).setpoint
    rw [circuit]
    have setpoint := setpointOf_is { resetBlocks x s with
      events := ev
      clock := { (resetBlocks x s).clock with reachedToday := decide ((resetBlocks x s).gs.allowance = 0) }
      agenda := notes
      choice := ch } c
    rwa [setpointOf_of_empty rfl rfl] at setpoint
  · exact if_pos ((circuitOfRole_isSome _ _).2 hc)
  · exact if_neg fun h => by obtain ⟨c, e⟩ := (circuitOfRole_isSome _ _).1 h; exact hc c e
  · rw [isSet, flags _ (by decide)]; rfl
  · rw [isSet, flags _ (by decide)]; simp
  · rw [held]; exact (mem_resetReports x).1
  · show (valveAtReset (loadedGuardSet s.store) x).state = _ ∧ (valveAtReset (loadedGuardSet s.store) x).travel = _
    simp [valveAtReset, ho, hc]
  · show (valveAtReset (loadedGuardSet s.store) x).state = _ ∧ (valveAtReset (loadedGuardSet s.store) x).travel = _
    unfold valveAtReset
    rw [ho]
    exact ⟨rfl, rfl⟩
  · refine ⟨?_, ?_, ?_⟩
    · show (valveAtReset (loadedGuardSet s.store) x).state = _
      simp [valveAtReset, ho, hc]
    · show (valveAtReset (loadedGuardSet s.store) x).faultDirection = _
      simp [valveAtReset, ho, hc]
    · rw [isSet, flags _ (by decide), ho, hc]; rfl
  · have fault (h : x.feedback.get p = true ∨ x.overload.get p = true) :
        (x.feedback.toList ++ x.overload.toList).any id = true := by
      rw [List.any_append, Bool.or_eq_true]
      exact h.imp trio_any_of_get trio_any_of_get
    have pumpFault (h : x.feedback.get p = true ∨ x.overload.get p = true) : ev.getLsbD (flagBit .pumpFault) = true := by
      rw [flags _ (by decide), fault h]; rfl
    show let q := (resetBlocks x s).pumps.get p; _
    rw [blocks]
    refine ⟨fun hf ho => ?_, fun hf ho => ?_, fun hf => ?_, ?_, rfl, rfl, rfl, rfl, rfl, rfl, rfl, rfl⟩
    · rw [hf, ho]; exact ⟨rfl, rfl, rfl⟩
    · rw [isSet, pumpFault (.inr ho), hf, ho]; exact ⟨rfl, rfl, rfl⟩
    · rw [isSet, pumpFault (.inl hf), hf]; exact ⟨rfl, rfl, rfl, weldedClaims_of_closed _ hf⟩
    · rw [held]; exact (mem_resetReports x).2 p

end Sys2Proof.Machine

/-! What a service and a judgement by the window do to one record of the book (R16, R26, R67): the record of its number becomes what the
statements call `servedRecord` and `rejudged`, and every other stands. -/

namespace Sys2Proof.Machine

open Sys2Proof.Safety

/-! ### Finding a record after the small updates -/

theorem findRecord_bookChanged (m n : Nat) (s : State) : findRecord m (bookChanged n s) = findRecord m s :=
  findRecord_congr (bookChanged_book n s) m

theorem findRecord_endRun (m n : Nat) (p : Fin 3) (b : Bool) (c : Option Hold) (s : State) :
    findRecord m (endRun n p b c s) = findRecord m s := findRecord_congr (endRun_book n p b c s) m

theorem findFill_of_record {n : Nat} {s : State} {r : Record} {f : FillRecord} (hr : findRecord n s = some r) (hb : r.body = .fill f) :
    findFill n s = some f := findFill_eq_some.2 ⟨r, hr, hb⟩

theorem findHeat_of_record {n : Nat} {s : State} {r : Record} {h : HeatRecord} (hr : findRecord n s = some r) (hb : r.body = .heat h) :
    findHeat n s = some h := findHeat_eq_some.2 ⟨r, hr, hb⟩

theorem putHeat_other (n m : Nat) (h : HeatRecord) (s : State) (hm : m ≠ n) : findRecord m (putHeat n h s) = findRecord m s :=
  mapRecord_other n m _ _ (fun _ hx => hx) hm

/-! ### A service -/

/-- The record and the state that a service writes, before the order may leave the book. -/
def servedFill (day : Nat) (o : Served) (f : FillRecord) : FillRecord :=
  { (if inRun f then applyStaged f else f) with state := .served, hold := none, outcome := some o, servedDay := some day }

/-- The state in which the record is written: its run has ended. -/
def runEnded (n : Nat) (f : FillRecord) (s : State) : State := if inRun f then endRun n f.pump false none s else s

theorem findRecord_runEnded (m n : Nat) (f : FillRecord) (s : State) : findRecord m (runEnded n f s) = findRecord m s := by
  unfold runEnded; split
  · exact findRecord_endRun m n _ _ _ s
  · rfl

/-- A service in its parts: the run ended, the record written, the outcome counted and flagged, the record gone with a ONCE. -/
theorem serveOn_eq (day n : Nat) (o : Served) {s : State} {r : Record} {f : FillRecord} (hr : findRecord n s = some r)
    (hb : r.body = .fill f) :
    serveOn day n o s =
      let s2 := putFill n (servedFill day o f) (runEnded n f s)
      let s3 := if r.origin = .system then s2 else countOutcome o s2
      let s4 := if o = .reached then s3 else setEvent .outcome s3
      let s5 := emit (.served (f.context.map (·.first))) s4
      bookChanged n (if r.origin = .system ∨ onceWindow (servedFill day o f).window then removeRecord n s5 else s5) := by
  obtain ⟨k, origin, v, b⟩ := r
  obtain rfl : b = .fill f := hb
  unfold serveOn; rw [hr]; rfl

/-- The number, origin, revision and window of the order are not changed by its service. -/
theorem servedFill_window (day : Nat) (o : Served) (f : FillRecord) :
    (servedFill day o f).window = (if inRun f then applyStaged f else f).window := rfl

/-- The record of a served order (R26, R67, R73). -/
theorem serveOn_finds (day n : Nat) (o : Served) {s : State} {r : Record} {f : FillRecord} (hr : findRecord n s = some r)
    (hb : r.body = .fill f) :
    findRecord n (serveOn day n o s) = servedRecord day o r (if inRun f then applyStaged f else f) := by
  have written : findRecord n (putFill n (servedFill day o f) (runEnded n f s)) = some { r with body := .fill (servedFill day o f) } :=
    putFill_finds n _ _ r ((findRecord_runEnded n n f s).trans hr)
  rw [serveOn_eq day n o hr hb]; dsimp only
  rw [findRecord_bookChanged, servedFill_window]
  generalize putFill n (servedFill day o f) (runEnded n f s) = t at written
  have flagged : findRecord n (if o = .reached then if r.origin = .system then t else countOutcome o t
      else setEvent .outcome (if r.origin = .system then t else countOutcome o t)) = some { r with body := .fill (servedFill day o f) } := by
    repeat' split
    all_goals exact written
  unfold servedRecord
  by_cases h : r.origin = .system ∨ onceWindow (if inRun f then applyStaged f else f).window = true
  · rw [if_pos h, if_pos h]; exact removeRecord_finds n _
  · rw [if_neg h, if_neg h]; exact flagged

/-- A service leaves the other records. -/
theorem serveOn_other (day n m : Nat) (o : Served) (s : State) (hm : m ≠ n) : findRecord m (serveOn day n o s) = findRecord m s := by
  cases hr : findRecord n s with
  | none => unfold serveOn; rw [hr]
  | some r =>
    cases hb : r.body with
    | fill f =>
      have written : findRecord m (putFill n (servedFill day o f) (runEnded n f s)) = findRecord m s :=
        (putFill_other n m _ _ hm).trans (findRecord_runEnded m n f s)
      rw [serveOn_eq day n o hr hb]; dsimp only
      rw [findRecord_bookChanged]
      generalize putFill n (servedFill day o f) (runEnded n f s) = t at written
      have flagged : findRecord m (if o = .reached then if r.origin = .system then t else countOutcome o t
          else setEvent .outcome (if r.origin = .system then t else countOutcome o t)) = findRecord m s := by
        repeat' split
        all_goals exact written
      split
      · exact (removeRecord_other n m _ hm).trans flagged
      · exact flagged
    | heat h => obtain ⟨k, origin, v, b⟩ := r; obtain rfl : b = .heat h := hb; unfold serveOn; rw [hr]
    | report q => obtain ⟨k, origin, v, b⟩ := r; obtain rfl : b = .report q := hb; unfold serveOn; rw [hr]

/-- Serving a waiting order. -/
theorem serveFill_finds {n : Nat} (o : Served) {s : State} {r : Record} {f : FillRecord} (hr : findRecord n s = some r)
    (hb : r.body = .fill f) (hrun : inRun f = false) : findRecord n (serveFill n o s) = servedRecord s.clock.day o r f := by
  have found := serveOn_finds s.clock.day n o hr hb
  rwa [if_neg (by simp [hrun])] at found

/-! ### A FILL order judged by its window -/

theorem dueToday_iff (w : Window) (s : State) : dueToday w s = true ↔ recurs w.recur s.clock.day = true := Iff.rfl

theorem windowHolds_iff (w : Window) (m : Nat) : windowHolds w m = true ↔ w.start ≤ m ∧ m < w.stop := by simp [windowHolds]

/-- A FILL order placed or changed is judged by the table of R16. -/
theorem judgeChangedFill_finds {n : Nat} {s : State} {r : Record} {f : FillRecord} (hr : findRecord n s = some r)
    (hb : r.body = .fill f) :
    findRecord n (judgeChangedFill n s) = rejudged s.clock.day s.clock.minute r f := by
  have stands : findRecord n s = some { r with body := .fill f } := by
    obtain ⟨k, origin, v, b⟩ := r
    obtain rfl : b = .fill f := hb
    exact hr
  have put (g : FillRecord) : findRecord n (putFill n g s) = some { r with body := .fill g } := putFill_finds n g s r hr
  have served (o : Served) (hrun : inRun f = false) := serveFill_finds o hr hb hrun
  unfold judgeChangedFill
  rw [findFill_of_record hr hb]; dsimp only
  cases hw : f.window with
  | none => simp only [rejudged, hw]; exact stands
  | some w =>
    simp only [rejudged, hw, dueToday_iff, windowHolds_iff]
    cases hq : f.state with
    | pending =>
      simp only [openedState]
      split
      · exact put _
      · exact stands
    | due =>
      dsimp only; split
      · exact served _ (by simp [inRun, hq])
      · split
        · exact stands
        · exact put _
    | suspended =>
      dsimp only; split
      · exact served _ (by simp [inRun, hq])
      · split
        · exact stands
        · exact put _
    | _ => exact stands

theorem judgeChangedFill_other (n m : Nat) (s : State) (hm : m ≠ n) :
    findRecord m (judgeChangedFill n s) = findRecord m s := by
  unfold judgeChangedFill; dsimp only; repeat' split
  all_goals first
    | rfl
    | exact serveOn_other _ n m _ s hm
    | exact putFill_other n m _ s hm

/-! ### A HEAT order judged by its window -/

theorem serveHeatOn_finds (day n : Nat) (h : HeatRecord) {s : State} {r : Record} (hr : findRecord n s = some r) :
    findRecord n (serveHeatOn day n h s) =
      if isOnce h.window.recur then none else some { r with body := .heat { h with state := .served, servedDay := some day } } := by
  unfold serveHeatOn; dsimp only
  rw [findRecord_bookChanged]
  split
  · exact removeRecord_finds n _
  · exact putHeat_finds n _ s r hr

theorem serveHeatOn_other (day n m : Nat) (h : HeatRecord) (s : State) (hm : m ≠ n) :
    findRecord m (serveHeatOn day n h s) = findRecord m s := by
  unfold serveHeatOn; dsimp only
  rw [findRecord_bookChanged]
  split
  · exact (removeRecord_other n m _ hm).trans (putHeat_other n m _ s hm)
  · exact putHeat_other n m _ s hm

/-- A HEAT order meets a minute, a discontinuity or a change of the order (R16, R136, R137). -/
theorem judgeHeatWindow_finds (m : Nat) (jump : Bool) {n : Nat} {s : State} {r : Record} {h : HeatRecord} (hr : findRecord n s = some r)
    (hb : r.body = .heat h) :
    findRecord n (judgeHeatWindow m jump s n) = heatJudged jump s.clock.day m r h := by
  have stands (x : HeatState) (hx : h.state = x) : findRecord n s = some { r with body := .heat { h with state := x } } := by
    obtain ⟨k, origin, v, b⟩ := r
    obtain rfl : b = .heat h := hb
    subst hx; exact hr
  have put (g : HeatRecord) : findRecord n (bookChanged n (putHeat n g s)) = some { r with body := .heat g } := by
    rw [findRecord_bookChanged]; exact putHeat_finds n g s r hr
  unfold judgeHeatWindow
  rw [findHeat_of_record hr hb]; dsimp only
  cases hq : h.state with
  | pending =>
    simp only [heatJudged, hq, dueToday_iff, windowHolds_iff]
    split
    · exact put _
    · exact stands _ hq
  | active =>
    have late : (dueToday h.window s = false) ↔ ¬ recurs h.window.recur s.clock.day = true := by rw [Bool.not_eq_true]; rfl
    simp only [heatJudged, hq, late]
    split
    · exact put _
    · split
      · exact serveHeatOn_finds _ n h hr
      · exact stands _ hq
  | served => simp only [heatJudged, hq]; exact stands _ hq

theorem judgeHeatWindow_other (m : Nat) (jump : Bool) (n k : Nat) (s : State) (hk : k ≠ n) :
    findRecord k (judgeHeatWindow m jump s n) = findRecord k s := by
  unfold judgeHeatWindow; repeat' split
  all_goals first
    | rfl
    | exact serveHeatOn_other _ n k _ s hk
    | exact (findRecord_bookChanged k n _).trans (putHeat_other n k _ s hk)

end Sys2Proof.Machine

/-! PLACE, AMEND and RETIRE: the checks as the statements give them, and the requests they refuse (R3, R5, R15, R17, R21). -/

namespace Sys2Proof.Machine

open Sys2Proof.Safety

/-! ### The checks of PLACE -/

/-- A recurrence in its range is bound as the book stores it (R7). -/
theorem bindRecurrence_eq_some {stop : Nat} {s : State} {r : RecurrenceField} {x : Recurrence} :
    bindRecurrence stop s r = some x ↔ RecurrenceValid r ∧ boundRecurrence s stop r = x := by
  cases r with
  | onceOn d => unfold bindRecurrence; split <;> simp_all [RecurrenceValid, boundRecurrence]
  | once => simp [bindRecurrence, RecurrenceValid, boundRecurrence, boundDay]
  | every k r => unfold bindRecurrence; split <;> simp_all [RecurrenceValid, boundRecurrence]

theorem bindRecurrence_of_valid {stop : Nat} {s : State} {r : RecurrenceField} (h : RecurrenceValid r) :
    bindRecurrence stop s r = some (boundRecurrence s stop r) := bindRecurrence_eq_some.2 ⟨h, rfl⟩

theorem pumpOf_val (p : Fin 3) : pumpOf p.val = some p := dif_pos p.isLt

theorem pumpOf_eq_some {n : Nat} {p : Fin 3} : pumpOf n = some p ↔ p.val = n := by
  unfold pumpOf; split
  · rw [Option.some.injEq, Fin.ext_iff]; exact eq_comm
  · rename_i h; exact ⟨nofun, fun e => absurd (e ▸ p.isLt) h⟩

theorem circuitOf_eq_some {n : Nat} {c : Fin 8} : circuitOf n = some c ↔ c.val = n := by
  unfold circuitOf; split
  · rw [Option.some.injEq, Fin.ext_iff]; exact eq_comm
  · rename_i h; exact ⟨nofun, fun e => absurd (e ▸ c.isLt) h⟩

/-- The FILL record of a PLACE with valid fields. -/
theorem fillPlaced_of_valid {f : FillFields} {p : Fin 3} (s : State) (h : FillValid f) (hp : p.val = f.pump) :
    fillPlaced f s = some
      { pump := p, target := f.target, window := some { start := f.start, stop := f.stop, recur := boundRecurrence s f.stop f.recur },
        band := f.band, priority := f.priority, state := .pending, hold := none, context := none, outcome := none,
        servedDay := none, staged := none } := by
  obtain ⟨-, ht1, ht2, hs, he1, he2, hse, hr, hq⟩ := h
  unfold fillPlaced
  rw [pumpOf_eq_some.2 hp, bindRecurrence_of_valid hr]
  simp [targetOk, startOk, stopOk, ht1, ht2, hs, he1, he2, hse, hq]

theorem fillValid_of_placed {f : FillFields} {s : State} {r : FillRecord} (h : fillPlaced f s = some r) : FillValid f := by
  unfold fillPlaced at h
  split at h
  · rename_i p x hp hx
    split at h
    · rename_i hc
      simp only [targetOk, startOk, stopOk, Bool.and_eq_true, decide_eq_true_eq] at hc
      have := pumpOf_eq_some.1 hp
      exact ⟨by omega, by omega, by omega, by omega, by omega, by omega, by omega, (bindRecurrence_eq_some.1 hx).1, by omega⟩
    · exact absurd h nofun
  · exact absurd h nofun

/-- The HEAT record of a PLACE with valid fields. -/
theorem heatPlaced_of_valid {h : HeatFields} {c : Fin 8} {s : State} (hv : HeatValid s.gs h) (hc : c.val = h.circuit) :
    heatPlaced h s = some
      { circuit := c, hold := h.hold, window := { start := h.start, stop := h.stop, recur := boundRecurrence s h.stop h.recur },
        state := .pending, servedDay := none } := by
  obtain ⟨⟨d, hd, hrole⟩, ht1, ht2, hs, he1, he2, hse, hr⟩ := hv
  obtain rfl : d = c := Fin.ext (hd.trans hc.symm)
  unfold heatPlaced
  rw [circuitOf_eq_some.2 hc, bindRecurrence_of_valid hr]
  simp [holdOk, startOk, stopOk, ht1, ht2, hs, he1, he2, hse, hrole]

theorem heatValid_of_placed {h : HeatFields} {s : State} {r : HeatRecord} (e : heatPlaced h s = some r) : HeatValid s.gs h := by
  unfold heatPlaced at e
  split at e
  · rename_i c x hc hx
    split at e
    · rename_i hok
      simp only [holdOk, startOk, stopOk, Bool.and_eq_true, decide_eq_true_eq] at hok
      obtain ⟨⟨⟨⟨hhold, hstart⟩, hstop⟩, hlt⟩, hrole⟩ := hok
      exact ⟨⟨c, circuitOf_eq_some.1 hc, by simpa using hrole⟩, by omega, by omega, by omega, by omega, by omega, by omega,
        (bindRecurrence_eq_some.1 hx).1⟩
    · exact absurd e nofun
  · exact absurd e nofun

theorem mem_allSelectors (x : Selector) : x ∈ allSelectors := by cases x <;> decide

/-- A contents list is well formed when it is not empty and names no selector twice (R9). -/
theorem contentsOk_iff (l : List Selector) : contentsOk l = true ↔ l ≠ [] ∧ l.Nodup := by
  have count (x : Selector) : (l.filter (fun y => decide (y = x))).length = l.count x := by
    rw [List.count, List.countP_eq_length_filter]; rfl
  simp only [contentsOk, Bool.and_eq_true, Bool.not_eq_true', List.isEmpty_eq_false_iff, List.all_eq_true, decide_eq_true_eq, count]
  exact and_congr_right fun _ => ⟨fun h => List.nodup_iff_count_le_one.2 fun x => h x (mem_allSelectors x),
    fun h x _ => List.nodup_iff_count_le_one.1 h x⟩

theorem reportPlaced_eq_some {r : ReportFields} {q : ReportRecord} :
    reportPlaced r = some q ↔
      ReportValid r ∧ q = { slot := r.slot, k := r.k, r := r.r, contents := inOrder r.contents, lastSent := none } := by
  have ok : (slotOk r.slot && codeOk r.k r.r && contentsOk r.contents) = true ↔ ReportValid r := by
    simp only [slotOk, codeOk, Bool.and_eq_true, decide_eq_true_eq, contentsOk_iff, ReportValid]
    tauto
  unfold reportPlaced
  rw [← ok]
  by_cases h : (slotOk r.slot && codeOk r.k r.r && contentsOk r.contents) = true
  · rw [if_pos h, Option.some.injEq]; exact ⟨fun e => ⟨h, e.symm⟩, fun e => e.2.symm⟩
  · rw [if_neg h]; exact ⟨nofun, fun e => absurd e.1 h⟩

theorem reportConflict_iff (s : State) (n : Nat) (q : ReportRecord) : reportConflict s n q = true ↔ SlotTaken s n q.slot q.k q.r := by
  have one (x : Record) : (match x.body with
      | .report o => (decide (x.number ≠ n) && decide (o.slot = q.slot) && codesCollide o.k o.r q.k q.r : Bool)
      | _ => false) = true ↔
      x.number ≠ n ∧ ∃ o, x.body = .report o ∧ o.slot = q.slot ∧ o.r % 2 ^ min o.k q.k = q.r % 2 ^ min o.k q.k := by
    cases x.body <;> simp [codesCollide, and_assoc]
  unfold reportConflict SlotTaken
  rw [Bool.or_eq_true, decide_eq_true_eq, List.any_eq_true]
  exact or_congr_right (exists_congr fun x => and_congr_right fun _ => one x)

/-! ### A request refused -/

/-- A request that its owner refuses leaves nothing but its result, and so do its announcements. -/
theorem finish_refused {port : Port} {q : Request} {c : ResultCode} {s : State} (e : carryOut port q s = (s, plain c))
    (h : changesTower q (plain c) s = false) :
    finish (takeRequest port q s) = finish (noteFormed port q (plain c) { s with lastResult := some (plain c) }) :=
  congrArg finish (takeRequest_refused port q (plain c) s e h)

theorem exec_place (port : Port) (o : PlaceFields) (s : State) :
    exec (.place port o) s = .next (finish (takeRequest port (.place o) s)) := conclude_eq (takeRequest port (.place o)) s

theorem exec_amend (port : Port) (n : Nat) (e : Option Nat) (a : AmendFields) (s : State) :
    exec (.amend port n e a) s = .next (finish (takeRequest port (.amend n e a) s)) := conclude_eq (takeRequest port (.amend n e a)) s

theorem exec_retire (port : Port) (n : Nat) (e : Option Nat) (s : State) :
    exec (.retire port n e) s = .next (finish (takeRequest port (.retire n e) s)) := conclude_eq (takeRequest port (.retire n e)) s

/-- A PLACE with an invalid field. -/
theorem placeOrder_invalid (port : Port) {o : PlaceFields} {s : State} (hroom : externalCount s < 30)
    (h : match o with
      | .fill f => ¬ FillValid f
      | .heat q => ¬ HeatValid s.gs q
      | .report r => ¬ ReportValid r) : placeOrder port o s = (s, plain .invalid) := by
  unfold placeOrder; rw [if_neg (by omega)]; dsimp only
  cases o with
  | fill f =>
    have none : fillPlaced f s = none := Option.eq_none_iff_forall_ne_some.2 fun r hr => h (fillValid_of_placed hr)
    simp only [none]
  | heat q =>
    have none : heatPlaced q s = none := Option.eq_none_iff_forall_ne_some.2 fun r hr => h (heatValid_of_placed hr)
    simp only [none]
  | report r =>
    have none : reportPlaced r = none := Option.eq_none_iff_forall_ne_some.2 fun q hq => h (reportPlaced_eq_some.1 hq).1
    simp only [none]

theorem placeOrder_conflict (port : Port) {r : ReportFields} {s : State} (hroom : externalCount s < 30) (hv : ReportValid r)
    (ht : SlotTaken s (allocate s) r.slot r.k r.r) : placeOrder port (.report r) s = (s, plain .conflict) := by
  have placed := reportPlaced_eq_some.2 ⟨hv, rfl⟩
  have conflict := (reportConflict_iff s (allocate s)
    { slot := r.slot, k := r.k, r := r.r, contents := inOrder r.contents, lastSent := none }).2 ht
  unfold placeOrder; rw [if_neg (by omega)]; dsimp only
  simp only [placed, conflict, if_true]

/-! ### The common checks of AMEND and RETIRE -/

/-- The refusal that the checks before an order's own give, by the first that fails (R3, R5, R17, R21). -/
theorem order_refused {n : Nat} {e : Option Nat} {c : ResultCode} {s : State}
    (h : (n = 0 ∨ 242 ≤ n) ∧ c = .invalid ∨ (1 ≤ n ∧ n ≤ 241) ∧ findRecord n s = none ∧ c = .noOrder ∨
      (1 ≤ n ∧ n ≤ 241) ∧ ∃ r, findRecord n s = some r ∧
        ((n = 240 ∨ n = 241) ∧ c = .system ∨ n ≤ 239 ∧ revisionStale e r = true ∧ c = .stale ∨
          n ≤ 239 ∧ revisionStale e r = false ∧ isRetiring r.body = true ∧ c = .retiring)) :
    (∀ a, amendOrder n e a s = (s, plain c)) ∧ retireOrder n e s = (s, plain c) := by
  have valid (hn : 1 ≤ n ∧ n ≤ 241) : numberInvalid n = false := by simp [numberInvalid]; omega
  have external (hn : n ≤ 239) : ¬ (n = 240 ∨ n = 241) := by omega
  rcases h with ⟨hn, rfl⟩ | ⟨hn, hr, rfl⟩ | ⟨hn, r, hr, ⟨hn', rfl⟩ | ⟨hn', hs, rfl⟩ | ⟨hn', hs, hret, rfl⟩⟩
  · have bad : numberInvalid n = true := by simp [numberInvalid]; omega
    exact ⟨fun a => by simp [amendOrder, bad], by simp [retireOrder, bad]⟩
  · exact ⟨fun a => by simp [amendOrder, valid hn, hr], by simp [retireOrder, valid hn, hr]⟩
  · exact ⟨fun a => by simp [amendOrder, valid hn, hr, hn'], by simp [retireOrder, valid hn, hr, hn']⟩
  · exact ⟨fun a => by simp [amendOrder, valid hn, hr, external hn', hs], by simp [retireOrder, valid hn, hr, external hn', hs]⟩
  · exact ⟨fun a => by simp [amendOrder, valid hn, hr, external hn', hs, hret],
      by simp [retireOrder, valid hn, hr, external hn', hs, hret]⟩

theorem revisionStale_of_ne {r : Record} {x : Nat} {e : Option Nat} (he : e = some x) (h : x ≠ r.revision) : revisionStale e r = true := by
  subst he; simpa [revisionStale] using h

theorem revisionStale_of_match {r : Record} {e : Option Nat} (h : e = none ∨ e = some r.revision) : revisionStale e r = false := by
  rcases h with rfl | rfl <;> simp [revisionStale]

/-- Settles O5: each check refuses by the first that fails, and a refusal leaves nothing but its result. -/
theorem orderRequestsRefused : Obligations.OrderRequestsRefused := by
  refine ⟨?_, ?_⟩
  · intro port order s refused
    have gives {c : ResultCode} (h : placeOrder port order s = (s, plain c)) (hc : accepts (plain c) = false) : refused c := by
      show exec _ _ = _
      rw [exec_place, finish_refused ((carryOut_place port order s).trans h) hc]
    refine ⟨fun hfull => gives (if_pos hfull) rfl, fun hroom hinvalid => gives (placeOrder_invalid port hroom hinvalid) rfl,
      fun hroom r hr hv ht => ?_⟩
    subst hr
    exact gives (placeOrder_conflict port hroom hv ht) rfl
  · intro port n e a s amendGives retireGives
    have gives {c : ResultCode} (h : amendOrder n e a s = (s, plain c)) (hc : accepts (plain c) = false) : amendGives c := by
      show exec _ _ = _
      rw [exec_amend, finish_refused ((carryOut_amend port n e a s).trans h) hc]
    have both {c : ResultCode} (h : (∀ a, amendOrder n e a s = (s, plain c)) ∧ retireOrder n e s = (s, plain c))
        (hc : accepts (plain c) = false) : amendGives c ∧ retireGives c := by
      refine ⟨gives (h.1 a) hc, ?_⟩
      show exec _ _ = _
      rw [exec_retire, finish_refused ((carryOut_retire port n e s).trans h.2) hc]
    refine ⟨fun hn => both (order_refused (.inl ⟨hn, rfl⟩)) rfl,
      fun h1 h2 hr => both (order_refused (.inr (.inl ⟨⟨h1, h2⟩, hr, rfl⟩))) rfl,
      fun r hr hn => both (order_refused (.inr (.inr ⟨by omega, r, hr, .inl ⟨hn, rfl⟩⟩))) rfl, fun r hr h1 h2 => ⟨fun x hx hne => ?_,
        fun he => ⟨fun f hb hret => ?_, fun f hb hret hstaged => ?_⟩⟩⟩
    · exact both (order_refused (.inr (.inr ⟨by omega, r, hr, .inr (.inl ⟨h2, revisionStale_of_ne hx hne, rfl⟩)⟩))) rfl
    · exact both (order_refused (.inr (.inr ⟨by omega, r, hr,
        .inr (.inr ⟨h2, revisionStale_of_match he, by simp [hb, isRetiring, hret], rfl⟩)⟩))) rfl
    · refine gives ?_ rfl
      have valid : numberInvalid n = false := by simp [numberInvalid]; omega
      have external : ¬ (n = 240 ∨ n = 241) := by omega
      simp [amendOrder, valid, hr, external, revisionStale_of_match he, hb, isRetiring, hret, hasStaged, hstaged]

end Sys2Proof.Machine

/-! PLACE accepted: the allocator's number, and the record entered and judged (R2, R15, R16, R176). -/

namespace Sys2Proof.Machine

open Sys2Proof.Safety

/-! ### The allocator -/

/-- The allocator gives the lowest free number above last assigned. -/
theorem allocate_above {s : State} {n : Nat} (hfree : isLive n s = false) (hn : n ≤ 239) (hlast : s.book.lastAssigned < n)
    (hlow : ∀ m, s.book.lastAssigned < m → m < n → isLive m s = true) : allocate s = n := by
  have found : ((List.range 240).filter (fun m => decide (s.book.lastAssigned < m))).find? (fun m => !isLive m s) = some n := by
    rw [List.find?_filter, List.find?_range_eq_some]
    refine ⟨by simp [hlast, hfree], List.mem_range.2 (by omega), fun m hm => ?_⟩
    by_cases h : s.book.lastAssigned < m
    · simp [h, hlow m h hm]
    · simp [h]
  unfold allocate; dsimp only; rw [found]; rfl

/-- With no free number above last assigned the allocator wraps to the lowest free number. -/
theorem allocate_wraps {s : State} {n : Nat} (hfree : isLive n s = false) (h1 : 1 ≤ n) (hn : n ≤ 239)
    (habove : ∀ m, s.book.lastAssigned < m → m ≤ 239 → isLive m s = true) (hlow : ∀ m, 1 ≤ m → m < n → isLive m s = true) :
    allocate s = n := by
  have above : ((List.range 240).filter (fun m => decide (s.book.lastAssigned < m))).find? (fun m => !isLive m s) = none := by
    rw [List.find?_eq_none]
    intro m hm
    obtain ⟨hm, hlast⟩ := List.mem_filter.1 hm
    simp [habove m (by simpa using hlast) (by have := List.mem_range.1 hm; omega)]
  have low : ((List.range 240).drop 1).find? (fun m => !isLive m s) = some n := by
    have list : (List.range 240).drop 1 = List.range' 1 239 := by rw [List.range_eq_range', List.drop_range']
    rw [list, List.find?_range'_eq_some]
    refine ⟨by simp [hfree], by simp; omega, fun m hm1 hm => ?_⟩
    simp [hlow m hm1 hm]
  unfold allocate; dsimp only; rw [above, low]; rfl

/-! ### What is left of the state a judgement works on -/

theorem judgeChangedFill_lastAssigned (n : Nat) (s : State) : (judgeChangedFill n s).book.lastAssigned = s.book.lastAssigned :=
  congrArg Still.lastAssigned (judgeChangedFill_still n s)

theorem judgeHeatWindow_lastAssigned (m : Nat) (jump : Bool) (s : State) (n : Nat) :
    (judgeHeatWindow m jump s n).book.lastAssigned = s.book.lastAssigned :=
  congrArg Still.lastAssigned (judgeHeatWindow_still m jump s n)

theorem refreshSetpoints_book (s : State) : (refreshSetpoints s).book = s.book := low_book (refreshSetpoints_low s)

/-! ### An order entered -/

/-- The record of a fresh FILL order, judged (R16). -/
theorem rejudged_pending {day m : Nat} {r : Record} {f : FillRecord} {w : Window} {st : FillState} (hw : f.window = some w)
    (hq : f.state = .pending) (hc : f.context = none) (open_ : recurs w.recur day = true ∧ w.start ≤ m ∧ m < w.stop → st = .due)
    (shut : ¬ (recurs w.recur day = true ∧ w.start ≤ m ∧ m < w.stop) → st = .pending) :
    rejudged day m r f = some { r with body := .fill { f with state := st } } := by
  simp only [rejudged, hw, hq, hc]
  split
  · rename_i h; rw [open_ h]; rfl
  · rename_i h; rw [shut h]; obtain ⟨⟩ := f; obtain rfl := hq; obtain rfl := hw; obtain rfl := hc; rfl

theorem heatJudged_pending {day m : Nat} {r : Record} {h : HeatRecord} {st : HeatState} (hq : h.state = .pending)
    (open_ : recurs h.window.recur day = true ∧ h.window.start ≤ m ∧ m < h.window.stop → st = .active)
    (shut : ¬ (recurs h.window.recur day = true ∧ h.window.start ≤ m ∧ m < h.window.stop) → st = .pending) :
    heatJudged true day m r h = some { r with body := .heat { h with state := st } } := by
  simp only [heatJudged, hq]
  split
  · rename_i ho; rw [open_ ho]
  · rename_i ho; rw [shut ho]

/-- What an accepted PLACE has done, and what the port and the result show of it. -/
structure Entered (port : Port) (order : PlaceFields) (b : Body) (s t : State) : Prop where
  places : placeOrder port order s = (t, doneWith (Wire.u8 (allocate s)))
  last : t.book.lastAssigned = allocate s
  finds : findRecord (allocate s) t = some { number := allocate s, origin := originOf port, revision := 0, body := b }

theorem Entered.shows {port : Port} {order : PlaceFields} {b : Body} {s t : State} (h : Entered port order b s t) :
    exec (.place port order) s = .next (finish (takeRequest port (.place order) s)) ∧
      (finish (takeRequest port (.place order) s)).lastResult = some (doneWith [BitVec.ofNat 8 (allocate s)]) ∧
      (finish (takeRequest port (.place order) s)).book.lastAssigned = allocate s ∧
      (port = .district → eventIsSet .remote (takeRequest port (.place order) s) = true) ∧
      findRecord (allocate s) (takeRequest port (.place order) s) =
        some { number := allocate s, origin := originOf port, revision := 0, body := b } := by
  have carried := (carryOut_place port order s).trans h.places
  have book : (takeRequest port (.place order) s).book = t.book := by rw [takeRequest_book, carried]
  refine ⟨exec_place port order s, ?_, ?_, fun hp => ?_, ?_⟩
  · rw [finish_lastResult, takeRequest_lastResult, carried]; rfl
  · rw [finish_lastAssigned, book]; exact h.last
  · subst hp; exact takeRequest_district_remote (by rw [carried]; rfl)
  · rw [findRecord_congr book]; exact h.finds

theorem placeOrder_fill (port : Port) {f : FillFields} {r : FillRecord} {s : State} (room : externalCount s < 30)
    (placed : fillPlaced f s = some r) : placeOrder port (.fill f) s =
      (judgeChangedFill (allocate s) (enterRecord (allocate s) port (.fill r) s), doneWith (Wire.u8 (allocate s))) := by
  unfold placeOrder; rw [if_neg (by omega)]; dsimp only; simp only [placed]

theorem placeOrder_heat (port : Port) {h : HeatFields} {r : HeatRecord} {s : State} (room : externalCount s < 30)
    (placed : heatPlaced h s = some r) : placeOrder port (.heat h) s =
      (refreshSetpoints (judgeHeatWindow s.clock.minute true (enterRecord (allocate s) port (.heat r) s) (allocate s)),
        doneWith (Wire.u8 (allocate s))) := by
  unfold placeOrder; rw [if_neg (by omega)]; dsimp only; simp only [placed]

theorem placeOrder_report (port : Port) {q : ReportFields} {r : ReportRecord} {s : State} (room : externalCount s < 30)
    (placed : reportPlaced q = some r) (free : ¬ reportConflict s (allocate s) r = true) : placeOrder port (.report q) s =
      (enterRecord (allocate s) port (.report r) s, doneWith (Wire.u8 (allocate s))) := by
  unfold placeOrder; rw [if_neg (by omega)]; dsimp only; simp only [placed]; rw [if_neg free]

theorem enters_fill {port : Port} {s : State} (room : externalCount s < 30) (free : isLive (allocate s) s = false)
    {f : FillFields} {p : Fin 3} (valid : FillValid f) (hp : p.val = f.pump) {st : FillState}
    (open_ : recurs (boundRecurrence s f.stop f.recur) s.clock.day = true ∧ f.start ≤ s.clock.minute ∧ s.clock.minute < f.stop → st = .due)
    (shut : ¬ (recurs (boundRecurrence s f.stop f.recur) s.clock.day = true ∧ f.start ≤ s.clock.minute ∧ s.clock.minute < f.stop) →
      st = .pending) :
    ∃ t, Entered port (.fill f) (.fill
      { pump := p, target := f.target, window := some { start := f.start, stop := f.stop, recur := boundRecurrence s f.stop f.recur },
        band := f.band, priority := f.priority, state := st, hold := none, context := none, outcome := none,
        servedDay := none, staged := none }) s t := by
  have placed := fillPlaced_of_valid s valid hp
  refine ⟨_, placeOrder_fill port room placed, ?_, ?_⟩
  · rw [judgeChangedFill_lastAssigned, enterRecord_lastAssigned]
  · rw [judgeChangedFill_finds (enterRecord_finds _ port _ s free) rfl, enterRecord_clock]
    exact rejudged_pending rfl rfl rfl open_ shut

theorem enters_heat {port : Port} {s : State} (room : externalCount s < 30) (free : isLive (allocate s) s = false)
    {h : HeatFields} {c : Fin 8} (valid : HeatValid s.gs h) (hc : c.val = h.circuit) {st : HeatState}
    (open_ : recurs (boundRecurrence s h.stop h.recur) s.clock.day = true ∧ h.start ≤ s.clock.minute ∧ s.clock.minute < h.stop →
      st = .active)
    (shut : ¬ (recurs (boundRecurrence s h.stop h.recur) s.clock.day = true ∧ h.start ≤ s.clock.minute ∧ s.clock.minute < h.stop) →
      st = .pending) :
    ∃ t, Entered port (.heat h) (.heat
      { circuit := c, hold := h.hold, window := { start := h.start, stop := h.stop, recur := boundRecurrence s h.stop h.recur },
        state := st, servedDay := none }) s t := by
  have placed := heatPlaced_of_valid valid hc
  refine ⟨_, placeOrder_heat port room placed, ?_, ?_⟩
  · rw [refreshSetpoints_book, judgeHeatWindow_lastAssigned, enterRecord_lastAssigned]
  · rw [findRecord_congr (refreshSetpoints_book _), judgeHeatWindow_finds _ _ (enterRecord_finds _ port _ s free) rfl, enterRecord_clock]
    exact heatJudged_pending rfl open_ shut

theorem enters_report {port : Port} {s : State} (room : externalCount s < 30) (free : isLive (allocate s) s = false)
    {r : ReportFields} (valid : ReportValid r) (untaken : ¬ SlotTaken s (allocate s) r.slot r.k r.r) :
    ∃ t, Entered port (.report r)
      (.report { slot := r.slot, k := r.k, r := r.r, contents := inOrder r.contents, lastSent := none }) s t := by
  have placed := reportPlaced_eq_some.2 ⟨valid, rfl⟩
  have untaken := mt (reportConflict_iff s (allocate s)
    { slot := r.slot, k := r.k, r := r.r, contents := inOrder r.contents, lastSent := none }).1 untaken
  exact ⟨_, placeOrder_report port room placed untaken, enterRecord_lastAssigned _ _ _ _, enterRecord_finds _ port _ s free⟩

/-- Settles O6: by the order's kind, and the allocator's number as the first free one of its two lists. -/
theorem placeEnters : Obligations.PlaceEnters := by
  refine ⟨?_, fun s n free h1 h2 => ⟨allocate_above free h2, allocate_wraps free h1 h2⟩⟩
  intro port s room free n enters opens
  refine ⟨fun f p valid hp st open_ shut => ?_, fun h c valid hc st open_ shut => ?_, fun r valid untaken => ?_⟩
  · obtain ⟨t, ht⟩ := enters_fill (port := port) room free valid hp open_ shut
    exact ht.shows
  · obtain ⟨t, ht⟩ := enters_heat (port := port) room free valid hc open_ shut
    exact ht.shows
  · obtain ⟨t, ht⟩ := enters_report (port := port) room free valid untaken
    exact ht.shows

end Sys2Proof.Machine

/-! AMEND past the common checks: the fields judged on the order as it would stand, and the record changed, staged or judged
(R5, R7, R16 to R19, R176). -/

namespace Sys2Proof.Machine

open Sys2Proof.Safety

/-! ### The fields of an AMEND -/

theorem ifNamed_iff {α : Type} (p : α → Bool) (o : Option α) : ifNamed p o = true ↔ ∀ x, o = some x → p x = true := by
  cases o <;> simp [ifNamed]

theorem changedRecurrence_eq_some {stop : Nat} {s : State} {o : Option RecurrenceField} {x : Option Recurrence} :
    changedRecurrence stop s o = some x ↔ (∀ r, o = some r → RecurrenceValid r) ∧ x = o.map (boundRecurrence s stop) := by
  cases o with
  | none => simp [changedRecurrence, eq_comm]
  | some r =>
    simp only [changedRecurrence, Option.map_eq_some_iff, bindRecurrence_eq_some, Option.map_some, Option.some.injEq, forall_eq']
    constructor
    · rintro ⟨y, ⟨hv, rfl⟩, rfl⟩; exact ⟨hv, rfl⟩
    · rintro ⟨hv, rfl⟩; exact ⟨_, ⟨hv, rfl⟩, rfl⟩

theorem givesOnce_iff (r : Option RecurrenceField) : givesOnce r = true ↔ GivesOnce r := by
  rcases r with _ | _ | _ | _ <;> simp [givesOnce, GivesOnce]

/-- An order's ONCE is not given anew once it is served. -/
theorem servedOnce_iff {p : Prop} [Decidable p] (r : Option RecurrenceField) :
    (!(decide p && givesOnce r)) = true ↔ ¬ (p ∧ GivesOnce r) := by
  rw [Bool.not_eq_true', ← Bool.not_eq_true, Bool.and_eq_true, decide_eq_true_eq, givesOnce_iff]

theorem named_le {o : Option Nat} (k : Nat) : ifNamed (fun x => decide (x ≤ k)) o = true ↔ ∀ x, o = some x → x ≤ k := by
  simp [ifNamed_iff]

/-- The change of a FILL order that an AMEND asks for, when it is valid (R17). -/
theorem fillAmended_eq_some {a : FillAmend} {f : FillRecord} {w : Window} {s : State} {c : FillChange} (hw : f.window = some w) :
    fillAmended a f s = some c ↔ FillAmendValid a f w ∧ ChangeAsked a w s c := by
  have pumps : ifNamed (fun x => decide (x < 3)) a.pump = true ↔ ∀ p, a.pump = some p → p ≤ 2 := by
    simp only [ifNamed_iff, decide_eq_true_eq]; exact forall₂_congr fun p _ => Nat.lt_succ_iff
  have checks : (decide (a ≠ {}) && ifNamed (fun x => decide (x < 3)) a.pump && ifNamed targetOk a.target && ifNamed startOk a.start
      && ifNamed stopOk a.stop && ifNamed (fun x => decide (x ≤ 7)) a.priority
      && decide (orKeep a.start w.start < orKeep a.stop w.stop)
      && !(decide (f.state = .served) && givesOnce a.recur)) = true ∧ (∀ r, a.recur = some r → RecurrenceValid r) ↔
      FillAmendValid a f w := by
    simp only [Bool.and_eq_true, servedOnce_iff, pumps, ifNamed_iff, decide_eq_true_eq, targetOk, startOk, stopOk, FillAmendValid]
    unfold orKeep; tauto
  have pumpField {x : Option (Fin 3)} (hp : ∀ p, a.pump = some p → p ≤ 2) : x = a.pump.bind pumpOf ↔ x.map Fin.val = a.pump := by
    cases h : a.pump with
    | none => simp
    | some p =>
      obtain ⟨q, rfl⟩ : ∃ q : Fin 3, q.val = p := ⟨⟨p, by have := hp p h; omega⟩, rfl⟩
      simp only [Option.bind_some, pumpOf_val, Option.map_eq_some_iff]
      constructor
      · rintro rfl; exact ⟨q, rfl, rfl⟩
      · rintro ⟨y, rfl, hy⟩; rw [Fin.ext hy]
  unfold fillAmended; rw [hw]; dsimp only
  cases hx : changedRecurrence (orKeep a.stop w.stop) s a.recur with
  | none =>
    refine ⟨nofun, fun ⟨hv, _⟩ => ?_⟩
    obtain ⟨-, -, -, -, -, hr, -⟩ := hv
    rw [changedRecurrence_eq_some.2 ⟨hr, rfl⟩] at hx; exact absurd hx nofun
  | some rec =>
    obtain ⟨hr, rfl⟩ := changedRecurrence_eq_some.1 hx
    rw [← checks]
    dsimp only
    split
    · rename_i h
      have hv := checks.1 ⟨h, hr⟩
      obtain ⟨-, hp, -⟩ := hv
      rw [Option.some.injEq]
      obtain ⟨p, t, st, sp, rc, b, pr⟩ := c
      simp only [FillChange.mk.injEq, ChangeAsked]
      rw [eq_comm (b := p), pumpField hp]
      exact ⟨fun ⟨h1, h2, h3, h4, h5, h6, h7⟩ => ⟨⟨h, hr⟩, h1, h2.symm, h3.symm, h4.symm, h5.symm, h6.symm, h7.symm⟩,
        fun ⟨_, h1, h2, h3, h4, h5, h6, h7⟩ => ⟨h1, h2.symm, h3.symm, h4.symm, h5.symm, h6.symm, h7.symm⟩⟩
    · rename_i h; exact ⟨nofun, fun e => absurd e.1.1 h⟩

/-- A valid set of changes asks for one. -/
theorem fillAmended_of_valid {a : FillAmend} {f : FillRecord} {w : Window} (s : State) (hw : f.window = some w)
    (hv : FillAmendValid a f w) : ∃ c, fillAmended a f s = some c ∧ ChangeAsked a w s c := by
  obtain ⟨-, hp, -⟩ := id hv
  have asked : ChangeAsked a w s
      { pump := a.pump.bind pumpOf, target := a.target, start := a.start, stop := a.stop,
        recur := a.recur.map (boundRecurrence s (a.stop.getD w.stop)), band := a.band, priority := a.priority } := by
    refine ⟨?_, rfl, rfl, rfl, rfl, rfl, rfl⟩
    cases h : a.pump with
    | none => rfl
    | some p => dsimp only [Option.bind_some]; rw [pumpOf, dif_pos (by have := hp p h; omega)]; rfl
  exact ⟨_, (fillAmended_eq_some hw).2 ⟨hv, asked⟩, asked⟩

theorem applyChange_eq (c : FillChange) {w : Window} {f : FillRecord} (hw : f.window = some w) : applyChange c f = changed c w f := by
  unfold applyChange changed changeWindow orKeep; rw [hw]; rfl

/-! ### The requests past the common checks -/

theorem amendOrder_checked {n : Nat} {e : Option Nat} {r : Record} {s : State} (a : AmendFields) (h1 : 1 ≤ n) (h2 : n ≤ 239)
    (hr : findRecord n s = some r) (he : e = none ∨ e = some r.revision) (hret : isRetiring r.body = false)
    (hst : hasStaged r.body = false) :
    amendOrder n e a s = match a, r.body with
      | .fill x, .fill f => amendFill n x f s
      | .heat x, .heat h => amendHeat n x h s
      | .report x, .report q => amendReport n x q s
      | _, _ => (s, plain .invalid) := by
  have valid : numberInvalid n = false := by simp [numberInvalid]; omega
  have external : ¬ (n = 240 ∨ n = 241) := by omega
  unfold amendOrder
  simp only [valid, hr, external, revisionStale_of_match he, hret, hst, if_false, Bool.false_eq_true] <;> rfl

theorem bookChanged_clock (n : Nat) (s : State) : (bookChanged n s).clock = s.clock := by
  unfold bookChanged; dsimp only; split <;> rfl

/-- What an accepted AMEND shows at its port. -/
theorem amend_shows {port : Port} {n : Nat} {e : Option Nat} {a : AmendFields} {s t : State} {r : Response}
    (h : amendOrder n e a s = (t, r)) (hr : accepts r = true) :
    exec (.amend port n e a) s = .next (finish (takeRequest port (.amend n e a) s)) ∧
      (finish (takeRequest port (.amend n e a) s)).lastResult = some r ∧
      (port = .district → eventIsSet .remote (takeRequest port (.amend n e a) s) = true) ∧
      ∀ m, findRecord m (takeRequest port (.amend n e a) s) = findRecord m t := by
  have carried := (carryOut_amend port n e a s).trans h
  refine ⟨exec_amend port n e a s, ?_, fun hp => ?_, fun m => ?_⟩
  · rw [finish_lastResult, takeRequest_lastResult, carried]
  · subst hp; exact takeRequest_district_remote (by rw [carried]; exact hr)
  · exact findRecord_congr (by rw [takeRequest_book, carried]) m

theorem amend_refused {port : Port} {n : Nat} {e : Option Nat} {a : AmendFields} {s : State} {c : ResultCode}
    (h : amendOrder n e a s = (s, plain c)) (hc : accepts (plain c) = false) :
    exec (.amend port n e a) s =
      .next (finish (noteFormed port (.amend n e a) (plain c) { s with lastResult := some (plain c) })) := by
  rw [exec_amend, finish_refused ((carryOut_amend port n e a s).trans h) hc]

/-- Settles O7: by the set's validity and whether the order is in a run. -/
theorem amendFillJudged : Obligations.AmendFillJudged := by
  intro port n e a o k f w s h1 h2 hr he hstate hst hw u
  have checked := amendOrder_checked (.fill a) h1 h2 hr he (by simp [isRetiring, hstate]) (by simp [hasStaged, hst])
  dsimp only at checked
  refine ⟨fun hv => amend_refused ?_ rfl, fun hv => ?_⟩
  · have refused : fillAmended a f s = none :=
      Option.eq_none_iff_forall_ne_some.2 fun c hc => hv ((fillAmended_eq_some hw).1 hc).1
    rw [checked]; unfold amendFill; rw [refused]
  · obtain ⟨c, hc, asked⟩ := fillAmended_of_valid s hw hv
    have bumped := bumpRevision_finds n s _ hr
    cases hrun : inRun f with
    | true =>
      have gives : amendOrder n e (.fill a) s = (bookChanged n (putFill n { f with staged := some c } (bumpRevision n s)), plain .staged) := by
        rw [checked]; unfold amendFill; rw [hc]; exact if_pos hrun
      obtain ⟨hx, hres, hrem, hfind⟩ := amend_shows (port := port) gives rfl
      refine ⟨hx, hrem, c, asked, fun _ => ⟨hres, ?_⟩, nofun⟩
      rw [hfind, findRecord_bookChanged, putFill_finds _ _ _ _ bumped]
    | false =>
      have gives : amendOrder n e (.fill a) s =
          (judgeChangedFill n (bookChanged n (putFill n (applyChange c f) (bumpRevision n s))), plain .done) := by
        rw [checked]; unfold amendFill; rw [hc]; exact if_neg (by simp [hrun])
      obtain ⟨hx, hres, hrem, hfind⟩ := amend_shows (port := port) gives rfl
      refine ⟨hx, hrem, c, asked, nofun, fun _ => ⟨hres, ?_⟩⟩
      have put : findRecord n (bookChanged n (putFill n (applyChange c f) (bumpRevision n s))) = some
          { number := n, origin := o, revision := (k + 1) % 256, body := .fill (applyChange c f) } := by
        rw [findRecord_bookChanged, putFill_finds _ _ _ _ bumped]
      rw [hfind, judgeChangedFill_finds put rfl, bookChanged_clock, applyChange_eq c hw]
      rfl

end Sys2Proof.Machine

/-! AMEND of a HEAT and of a REPORT order past the common checks (R5, R7, R9, R10, R16 to R18, R137, R176). -/

namespace Sys2Proof.Machine

open Sys2Proof.Safety

/-- A HEAT record with the fields a set of changes names replaced, its ONCE bound by the end mark as it would stand. -/
def heatChanged (a : HeatAmend) (h : HeatRecord) (c : Fin 8) (s : State) : HeatRecord :=
  { h with
    circuit := c
    hold := a.hold.getD h.hold
    window := { start := a.start.getD h.window.start, stop := a.stop.getD h.window.stop,
                recur := (a.recur.map (boundRecurrence s (a.stop.getD h.window.stop))).getD h.window.recur } }

/-- A REPORT record with the fields a set of changes names replaced. -/
def reportChanged (a : ReportAmend) (q : ReportRecord) : ReportRecord :=
  { slot := a.slot.getD q.slot, k := (a.code.getD (q.k, q.r)).1, r := (a.code.getD (q.k, q.r)).2,
    contents := inOrder (a.contents.getD q.contents), lastSent := q.lastSent }

/-- The HEAT record that an AMEND asks for, when the order as it would stand is valid (R8, R17, R18). -/
theorem heatAmended_eq_some {a : HeatAmend} {h h1 : HeatRecord} {s : State} :
    heatAmended a h s = some h1 ↔ ∃ c, HeatAmendValid s.gs a h c ∧ h1 = heatChanged a h c s := by
  have checks (c : Fin 8) : (decide (a ≠ {}) && ifNamed holdOk a.hold && ifNamed startOk a.start && ifNamed stopOk a.stop
      && decide (orKeep a.start h.window.start < orKeep a.stop h.window.stop) && decide (s.gs.role.get c ≠ .none)
      && !(decide (h.state = .served) && givesOnce a.recur)) = true ∧ c.val = a.circuit.getD h.circuit.val ∧
      (∀ r, a.recur = some r → RecurrenceValid r) ↔ HeatAmendValid s.gs a h c := by
    simp only [Bool.and_eq_true, servedOnce_iff, ifNamed_iff, decide_eq_true_eq, holdOk, startOk, stopOk, HeatAmendValid]
    unfold orKeep; tauto
  unfold heatAmended; dsimp only
  cases hx : changedRecurrence (orKeep a.stop h.window.stop) s a.recur with
  | none =>
    refine ⟨nofun, fun ⟨c, hv, _⟩ => ?_⟩
    rw [changedRecurrence_eq_some.2 ⟨((checks c).2 hv).2.2, rfl⟩] at hx; exact absurd hx nofun
  | some rec =>
    obtain ⟨hr, rfl⟩ := changedRecurrence_eq_some.1 hx
    cases hc : circuitOf (orKeep a.circuit h.circuit.val) with
    | none =>
      refine ⟨nofun, fun ⟨c, hv, _⟩ => ?_⟩
      have hval : c.val = orKeep a.circuit h.circuit.val := ((checks c).2 hv).2.1
      rw [circuitOf_eq_some.2 hval] at hc; exact absurd hc nofun
    | some c =>
      have hval : c.val = a.circuit.getD h.circuit.val := circuitOf_eq_some.1 hc
      dsimp only
      split
      · rename_i ok
        rw [Option.some.injEq]
        refine ⟨fun e => ⟨c, (checks c).1 ⟨ok, hval, hr⟩, e.symm⟩, fun ⟨d, hv, e⟩ => ?_⟩
        obtain rfl : d = c := Fin.ext (((checks d).2 hv).2.1.trans hval.symm)
        exact e.symm
      · rename_i bad
        refine ⟨nofun, fun ⟨d, hv, _⟩ => ?_⟩
        obtain rfl : d = c := Fin.ext (((checks d).2 hv).2.1.trans hval.symm)
        exact absurd ((checks d).2 hv).1 bad

theorem reportAmended_eq_some {a : ReportAmend} {q q1 : ReportRecord} :
    reportAmended a q = some q1 ↔ ReportAmendValid a q ∧ q1 = reportChanged a q := by
  have checks : (decide (a ≠ {}) && ifNamed slotOk a.slot && codeOk (orKeep a.code (q.k, q.r)).1 (orKeep a.code (q.k, q.r)).2
      && contentsOk (orKeep a.contents q.contents)) = true ↔ ReportAmendValid a q := by
    simp only [Bool.and_eq_true, ifNamed_iff, decide_eq_true_eq, slotOk, codeOk, contentsOk_iff, ReportAmendValid]
    unfold orKeep; tauto
  unfold reportAmended; dsimp only
  rw [← checks]
  by_cases h : (decide (a ≠ {}) && ifNamed slotOk a.slot && codeOk (orKeep a.code (q.k, q.r)).1 (orKeep a.code (q.k, q.r)).2
      && contentsOk (orKeep a.contents q.contents)) = true
  · rw [if_pos h, Option.some.injEq]; exact ⟨fun e => ⟨h, e.symm⟩, fun e => e.2.symm⟩
  · rw [if_neg h]; exact ⟨nofun, fun e => absurd e.1 h⟩

theorem changesSlot_iff (a : ReportAmend) : changesSlot a = true ↔ a.slot.isSome = true ∨ a.code.isSome = true := by
  unfold changesSlot; rw [Bool.or_eq_true]

/-- Settles O8: by the order's kind and the set's validity. -/
theorem amendHeatAndReportJudged : Obligations.AmendHeatAndReportJudged := by
  intro port n e o k s h1 h2 he refused accepted
  refine ⟨fun a h hr => ?_, fun a q hr => ?_⟩
  · have checked := amendOrder_checked (.heat a) h1 h2 hr he rfl rfl
    dsimp only at checked
    refine ⟨fun hv => amend_refused ?_ rfl, fun c hv => ?_⟩
    · have invalid : heatAmended a h s = none := Option.eq_none_iff_forall_ne_some.2 fun x hx => by
        obtain ⟨c, hc, -⟩ := heatAmended_eq_some.1 hx
        exact hv c hc
      rw [checked]; unfold amendHeat; rw [invalid]
    · have gives : amendOrder n e (.heat a) s = (refreshSetpoints (judgeHeatWindow s.clock.minute true
          (bookChanged n (putHeat n (heatChanged a h c s) (bumpRevision n s))) n), plain .done) := by
        rw [checked]; unfold amendHeat; rw [heatAmended_eq_some.2 ⟨c, hv, rfl⟩]
      obtain ⟨hx, hres, hrem, hfind⟩ := amend_shows (port := port) gives rfl
      have put : findRecord n (bookChanged n (putHeat n (heatChanged a h c s) (bumpRevision n s))) = some
          { number := n, origin := o, revision := (k + 1) % 256, body := .heat (heatChanged a h c s) } := by
        rw [findRecord_bookChanged, putHeat_finds _ _ _ _ (bumpRevision_finds n s _ hr)]
      refine ⟨⟨hx, hres, hrem⟩, ?_⟩
      rw [hfind, findRecord_congr (refreshSetpoints_book _), judgeHeatWindow_finds _ _ put rfl, bookChanged_clock]
      rfl
  · have checked := amendOrder_checked (.report a) h1 h2 hr he rfl rfl
    dsimp only at checked
    intro q1 collides
    have taken : (changesSlot a && reportConflict s n (reportChanged a q)) = true ↔ collides := by
      rw [Bool.and_eq_true, changesSlot_iff, reportConflict_iff]; exact Iff.rfl
    refine ⟨fun hv => amend_refused ?_ rfl, fun hv hc => amend_refused ?_ rfl, fun hv hc => ?_⟩
    · have invalid : reportAmended a q = none :=
        Option.eq_none_iff_forall_ne_some.2 fun x hx => hv (reportAmended_eq_some.1 hx).1
      rw [checked]; unfold amendReport; rw [invalid]
    · rw [checked]; unfold amendReport; rw [reportAmended_eq_some.2 ⟨hv, rfl⟩]; exact if_pos (taken.2 hc)
    · have gives : amendOrder n e (.report a) s = (bookChanged n (setRecords
          (mapRecord n (fun x => { x with body := .report (reportChanged a q) }) (bumpRevision n s).book.records)
          (bumpRevision n s)), plain .done) := by
        rw [checked]; unfold amendReport; rw [reportAmended_eq_some.2 ⟨hv, rfl⟩]; exact if_neg (mt taken.1 hc)
      obtain ⟨hx, hres, hrem, hfind⟩ := amend_shows (port := port) gives rfl
      refine ⟨⟨hx, hres, hrem⟩, ?_⟩
      rw [hfind, findRecord_bookChanged]
      exact mapRecord_finds n (fun x => { x with body := .report (reportChanged a q) }) _ _ (fun _ hx => hx) (bumpRevision_finds n s _ hr)

end Sys2Proof.Machine

/-! What a stop command leaves of its own channel (R85, R86), and RETIRE (R21, R22, R176). -/

namespace Sys2Proof.Machine

open Sys2Proof.Safety

/-! ### A stop command, and its channel -/

theorem enterStoppingBy_walk (w : State → State) (p : Fin 3) (why : StopCause) (s : State) :
    enterStoppingBy w p why s = enterStoppingBy id p why s ∨ enterStoppingBy w p why s = w (enterStoppingBy id p why s) := by
  unfold enterStoppingBy; dsimp only; split
  · exact .inl rfl
  · exact .inr rfl

/-- The walk comes last in a stop, after a withdrawal or a release. -/
theorem stopBy_walk (w : State → State) (p : Fin 3) (b : Bool) (s : State) :
    stopBy w p b s = stopBy id p b s ∨ stopBy w p b s = w (stopBy id p b s) := by
  unfold stopBy; dsimp only; split
  · exact .inr rfl
  · exact enterStoppingBy_walk w p _ _
  · exact enterStoppingBy_walk w p _ _
  all_goals exact .inl rfl

/-- A channel that has taken a stop is out of CLAIMING, STARTING and RUNNING. -/
theorem stopBy_id_fluid (p : Fin 3) (b : Bool) (s : State) : pumpsFluid ((stopBy id p b s).pumps.get p).state = false := by
  have completed (t : State) : pumpsFluid ((completeStopBy id p t).pumps.get p).state = false := by
    rw [completeStopBy_eq]
    rcases (stopEnds_pump p t).1 with e | e <;> simp [dropGranted, e, pumpsFluid]
  have ended (c : StopCause) (t : State) : pumpsFluid ((enterStoppingBy id p c t).pumps.get p).state = false := by
    unfold enterStoppingBy; dsimp only; split
    · simp [pumpsFluid]
    · exact completed _
  unfold stopBy; dsimp only
  cases hq : (s.pumps.get p).state with
  | claiming => simp [dropWaiting_pumps, pumpsFluid]
  | starting => exact ended _ _
  | running => exact ended _ _
  | _ => simp [pumpsFluid, hq]

theorem not_claiming_of_not_fluid {q : PumpState} (h : pumpsFluid q = false) : q ≠ .claiming := by
  rintro rfl; exact absurd h (by decide)

/-- The walk of a stop command leaves the channel, which is out of CLAIMING by then. -/
theorem stopCommand_self (p : Fin 3) (b : Bool) (s : State) :
    (stopCommand p b s).pumps.get p = (stopBy id p b s).pumps.get p := by
  rcases stopBy_walk runWalk p b s with e | e
  · unfold stopCommand; rw [e]
  · unfold stopCommand runWalk at *; rw [e, walk_pump 64 _ p (not_claiming_of_not_fluid (stopBy_id_fluid p b s))]

theorem stopCommand_not_fluid (p : Fin 3) (b : Bool) (s : State) :
    pumpsFluid ((stopCommand p b s).pumps.get p).state = false := by
  rw [stopCommand_self]; exact stopBy_id_fluid p b s

/-- The channel after a stop command without NO_FLOW. -/
theorem stopCommand_stoppedNow (p : Fin 3) (s : State) : (stopCommand p false s).pumps.get p = stoppedNow s p := by
  rw [stopCommand_self, stopBy_id_self]

theorem stopCommand_fill (p : Fin 3) (b : Bool) (s : State) : (stopCommand p b s).fill = s.fill := low_fill (stopCommand_low p b s)

/-! ### The pumps after a request -/

theorem takeRequest_pumps (port : Port) (q : Request) (s : State) : (takeRequest port q s).pumps = (carryOut port q s).1.pumps := by
  rw [takeRequest_frame]

theorem takeRequest_fill (port : Port) (q : Request) (s : State) : (takeRequest port q s).fill = (carryOut port q s).1.fill := by
  rw [takeRequest_frame]

theorem bookChanged_pumps (n : Nat) (s : State) : (bookChanged n s).pumps = s.pumps := by
  unfold bookChanged; dsimp only; split <;> rfl

/-! ### RETIRE -/

theorem retireOrder_checked {n : Nat} {e : Option Nat} {r : Record} {s : State} (h1 : 1 ≤ n) (h2 : n ≤ 239)
    (hr : findRecord n s = some r) (he : e = none ∨ e = some r.revision) (hret : isRetiring r.body = false) :
    ((∀ f, r.body = .fill f → inRun f = false) → retireOrder n e s = (retireNow n s, plain .done)) ∧
      ∀ f, r.body = .fill f → inRun f = true → retireOrder n e s = (beginRetiring n f s, plain .done) := by
  have valid : numberInvalid n = false := by simp [numberInvalid]; omega
  have external : ¬ (n = 240 ∨ n = 241) := by omega
  unfold retireOrder
  simp only [valid, hr, external, revisionStale_of_match he, hret, if_false, Bool.false_eq_true]
  refine ⟨fun hrun => ?_, fun f hb hrun => ?_⟩
  · cases hb : r.body with
    | fill f => simp [hrun f hb]
    | _ => rfl
  · simp only [hb, hrun, if_true]

theorem retireNow_finds (n : Nat) (s : State) : findRecord n (retireNow n s) = none := by
  unfold retireNow
  rw [findRecord_congr (refreshSetpoints_book _), findRecord_bookChanged]; exact removeRecord_finds n s

theorem retireNow_other (n m : Nat) (s : State) (hm : m ≠ n) : findRecord m (retireNow n s) = findRecord m s := by
  unfold retireNow
  rw [findRecord_congr (refreshSetpoints_book _), findRecord_bookChanged]; exact removeRecord_other n m s hm

/-- The state in which the pump of an order going into RETIRING is stopped. -/
def retiringFill (n : Nat) (f : FillRecord) (s : State) : State :=
  setAssign f.pump { s.fill.get f.pump with noFlow := none }
    (putFill n { f with state := .retiring, hold := none, staged := none } s)

theorem beginRetiring_eq (n : Nat) (f : FillRecord) (s : State) :
    beginRetiring n f s = bookChanged n (stopCommand f.pump false (retiringFill n f s)) := rfl

/-- Settles O9: by whether the order is in a run. -/
theorem retireAccepted : Obligations.RetireAccepted := by
  intro port n e r s h1 h2 hr he hret u
  have checked := retireOrder_checked h1 h2 hr he hret
  have done : (carryOut port (.retire n e) s).2 = plain .done := by
    rw [carryOut_retire]
    by_cases h : ∃ f, r.body = .fill f ∧ inRun f = true
    · obtain ⟨f, hb, hrun⟩ := h
      rw [checked.2 f hb hrun]
    · rw [checked.1 fun f hb => by_contra fun c => h ⟨f, hb, by simpa using c⟩]
  refine ⟨exec_retire port n e s, ?_, fun hp => ?_, fun hrun => ?_, fun f hb hrun => ?_⟩
  · rw [finish_lastResult, takeRequest_lastResult, done]
  · subst hp; exact takeRequest_district_remote (by rw [done]; rfl)
  · have book : u.book = (retireNow n s).book := by rw [takeRequest_book, carryOut_retire, checked.1 hrun]
    refine ⟨(findRecord_congr book n).trans (retireNow_finds n s), fun m hm => ?_⟩
    exact (findRecord_congr book m).trans (retireNow_other n m s hm)
  · have gives : (carryOut port (.retire n e) s).1 = bookChanged n (stopCommand f.pump false (retiringFill n f s)) := by
      rw [carryOut_retire, checked.2 f hb hrun, beginRetiring_eq]
    have pumps : u.pumps = (stopCommand f.pump false (retiringFill n f s)).pumps := by
      rw [takeRequest_pumps, gives, bookChanged_pumps]
    refine ⟨?_, pumps, ?_, ?_⟩
    · have book : u.book = (retiringFill n f s).book := by
        rw [takeRequest_book, gives, bookChanged_book, stopCommand_book]
      rw [findRecord_congr book]; exact putFill_finds n _ s r hr
    · rw [pumps]; exact stopCommand_not_fluid _ _ _
    · rw [takeRequest_fill, gives, bookChanged_fill, stopCommand_fill]
      simp [retiringFill]

end Sys2Proof.Machine

/-! LOOK and the record image, byte by byte (R3, R24, R200). -/

namespace Sys2Proof.Machine

open Sys2Proof.Safety Wire

theorem exec_look_result (port : Port) (n : Nat) (s : State) :
    exec (.look port n) s = .next (noteFormed port (.look n) (lookNow n s) { s with lastResult := some (lookNow n s) }) :=
  congrArg Host.Outcome.next (takeRequest_refused port (.look n) (lookNow n s) s (carryOut_look port n s) rfl)

/-! ### The parts of the image -/

/-- An optional part is its bytes, or zeros of its width. -/
theorem stagedBytes_eq {α : Type} (width : Nat) (f : α → List Byte) (o : Option α) :
    stagedBytes width f o = (o.map f).getD (List.replicate width 0) := by cases o <;> rfl

@[simp] theorem length_u8 (n : Nat) : (u8 n).length = 1 := rfl
@[simp] theorem length_u16 (n : Nat) : (u16 n).length = 2 := rfl
@[simp] theorem length_u24 (n : Nat) : (u24 n).length = 3 := rfl
@[simp] theorem length_s16 (t : Int) : (s16 t).length = 2 := rfl

@[simp] theorem length_recurrenceBytes (x : Recurrence) : (recurrenceBytes x).length = 3 := by cases x <;> rfl

@[simp] theorem length_windowBytes (w : Option Window) : (windowBytes w).length = 7 := by
  cases w with
  | none => rfl
  | some w => simp [windowBytes]

/-- An optional part keeps its width, present or absent. -/
theorem length_stagedBytes {α : Type} {width : Nat} {f : α → List Byte} (hf : ∀ a, (f a).length = width) (o : Option α) :
    (stagedBytes width f o).length = width := by
  cases o with
  | none => simp [stagedBytes, zeros]
  | some a => exact hf a

@[simp] theorem length_staged_u8 (o : Option Nat) : (stagedBytes 1 u8 o).length = 1 := length_stagedBytes length_u8 o
@[simp] theorem length_staged_code {α : Type} (code : α → Nat) (o : Option α) : (stagedBytes 1 (fun x => u8 (code x)) o).length = 1 :=
  length_stagedBytes (fun x => length_u8 (code x)) o
@[simp] theorem length_staged_u16 (o : Option Nat) : (stagedBytes 2 u16 o).length = 2 := length_stagedBytes length_u16 o
@[simp] theorem length_staged_recurrence (o : Option Recurrence) : (stagedBytes 3 recurrenceBytes o).length = 3 :=
  length_stagedBytes length_recurrenceBytes o

@[simp] theorem length_changeBytes (c : FillChange) : (changeBytes c).length = 13 := by
  simp [changeBytes]

@[simp] theorem length_contextBytes (c : Context) : (contextBytes c).length = 6 := by simp [contextBytes]

@[simp] theorem length_staged_change (o : Option FillChange) : (stagedBytes 13 changeBytes o).length = 13 :=
  length_stagedBytes length_changeBytes o
@[simp] theorem length_staged_context (o : Option Context) : (stagedBytes 6 contextBytes o).length = 6 :=
  length_stagedBytes length_contextBytes o

@[simp] theorem length_fillBlock (f : FillRecord) : (fillBlock f).length = 12 := by simp [fillBlock]

@[simp] theorem length_commonPart (r : Record) (state presence : Nat) (outcome : Option Served) (day : Option Nat) (hold : Option Hold) :
    (commonPart r state presence outcome day hold).length = 10 := by
  simp [commonPart]

theorem length_recordImage_fill {r : Record} {f : FillRecord} (h : r.body = .fill f) : (recordImage r).length = 41 := by
  unfold recordImage; rw [h]; simp
theorem length_recordImage_heat {r : Record} {q : HeatRecord} (h : r.body = .heat q) : (recordImage r).length = 20 := by
  unfold recordImage; rw [h]; simp
theorem length_recordImage_report {r : Record} {q : ReportRecord} (h : r.body = .report q) : (recordImage r).length = 15 := by
  unfold recordImage; rw [h]; simp

/-- Settles O10: LOOK leaves only its result, and the image is the parts of the model's own layout written out. -/
theorem lookReturnsRecord : Obligations.LookReturnsRecord := by
  refine ⟨?_, ?_, rfl, rfl, rfl, rfl, rfl, rfl, rfl⟩
  · intro port n s gives
    have gives_look : gives (lookNow n s) := exec_look_result port n s
    have look_valid (h1 : 1 ≤ n) (h2 : n ≤ 241) : numberInvalid n = false := by simp [numberInvalid]; omega
    refine ⟨fun hn => ?_, fun h1 h2 hr => ?_, fun h1 h2 r hr => ⟨?_, ?_⟩⟩
    · have invalid : lookNow n s = plain .invalid := if_pos (by simp [numberInvalid]; omega)
      rwa [invalid] at gives_look
    · have missing : lookNow n s = plain .noOrder := by simp [lookNow, look_valid h1 h2, hr]
      rwa [missing] at gives_look
    · have found : lookNow n s = doneWith (recordImage r) := by simp [lookNow, look_valid h1 h2, hr]
      rwa [found] at gives_look
    · cases hb : r.body with
      | fill f => exact length_recordImage_fill hb
      | heat q => exact length_recordImage_heat hb
      | report q => exact length_recordImage_report hb
  · intro n o k byte two bit part recurrence window common
    have recurrences : recurrence = recurrenceBytes := funext fun x => by cases x <;> rfl
    have windows : window = windowBytes := funext fun x => by
      cases x with
      | none => rfl
      | some w => show _ ++ recurrence w.recur = _; rw [recurrences]; rfl
    have commons (r : Record) (kind state presence : Nat) (hk : kindCode r.body = kind) (hr : r.number = n) (ho : r.origin = o)
        (hv : r.revision = k) (outcome : Option Served) (day : Option Nat) (hold : Option Hold) :
        commonPart r state presence outcome day hold = common kind state presence outcome day hold := by
      unfold commonPart; subst hk hr ho hv; simp only [stagedBytes_eq]; rfl
    refine ⟨fun f => ?_, fun h => ?_, fun q => ?_⟩
    · unfold recordImage; dsimp only
      rw [commons _ 0 _ _ rfl rfl rfl rfl, windows, recurrences]
      unfold fillBlock; simp only [stagedBytes_eq]
      unfold changeBytes; simp only [stagedBytes_eq]; rfl
    · unfold recordImage; dsimp only
      rw [commons _ 1 _ _ rfl rfl rfl rfl, windows]; rfl
    · unfold recordImage; dsimp only
      rw [commons _ 2 _ _ rfl rfl rfl rfl]
      simp only [stagedBytes_eq]; rfl

end Sys2Proof.Machine

/-! Within one command the announcements and the flags only grow: what stands in the agenda stays in front, and a flag that is set stays
set (R78, R188). -/

namespace Sys2Proof.Machine

open Sys2Proof.Safety

/-- The second state has the announcements of the first in front of its own, and its flags. -/
structure Grows (s t : State) : Prop where
  agenda : ∃ xs, t.agenda = s.agenda ++ xs
  events : ∀ f, eventIsSet f s = true → eventIsSet f t = true

theorem Grows.refl (s : State) : Grows s s := ⟨⟨[], by simp⟩, fun _ h => h⟩

theorem Grows.trans {s t u : State} (h : Grows s t) (h' : Grows t u) : Grows s u := by
  obtain ⟨xs, hx⟩ := h.agenda
  obtain ⟨ys, hy⟩ := h'.agenda
  exact ⟨⟨xs ++ ys, by rw [hy, hx, List.append_assoc]⟩, fun f hf => h'.events f (h.events f hf)⟩

/-- Neither the agenda nor the flags are touched. -/
theorem grows_of_eq {s t : State} (ha : t.agenda = s.agenda) (he : t.events = s.events) : Grows s t :=
  ⟨⟨[], by rw [ha, List.append_nil]⟩, fun f hf => by rw [eventIsSet_congr he]; exact hf⟩

theorem Grows.mem {s t : State} (h : Grows s t) {n : Note} (hn : n ∈ s.agenda) : n ∈ t.agenda := by
  obtain ⟨xs, hx⟩ := h.agenda
  rw [hx]; exact List.mem_append_left _ hn

/-- A fold grows when each of its steps does. -/
theorem foldl_grows {α : Type} {f : State → α → State} (h : ∀ s a, Grows s (f s a)) (l : List α) (s : State) :
    Grows s (l.foldl f s) := by
  induction l generalizing s with
  | nil => exact Grows.refl s
  | cons a l ih => exact (h s a).trans (ih _)

/-! ### Named updates -/

theorem emit_grows (n : Note) (s : State) : Grows s (emit n s) := ⟨⟨[n], rfl⟩, fun _ h => h⟩

theorem emitFree_grows (ns : List Note) (s : State) : Grows s (emitFree ns s) := ⟨⟨_, rfl⟩, fun _ h => h⟩

theorem setEvent_grows (f : EventFlag) (s : State) : Grows s (setEvent f s) :=
  ⟨⟨[], by simp⟩, fun g h => by rw [eventIsSet_setEvent_iff, h, Bool.or_true]⟩

theorem setPump_grows (p : Fin 3) (q : Pump) (s : State) : Grows s (setPump p q s) := grows_of_eq rfl rfl
theorem setAssign_grows (p : Fin 3) (a : Assignment) (s : State) : Grows s (setAssign p a s) := grows_of_eq rfl rfl
theorem setCircuit_grows (c : Fin 8) (q : Circuit) (s : State) : Grows s (setCircuit c q s) := grows_of_eq rfl rfl
theorem putFill_grows (n : Nat) (f : FillRecord) (s : State) : Grows s (putFill n f s) := grows_of_eq rfl rfl
theorem putHeat_grows (n : Nat) (h : HeatRecord) (s : State) : Grows s (putHeat n h s) := grows_of_eq rfl rfl
theorem removeRecord_grows (n : Nat) (s : State) : Grows s (removeRecord n s) := grows_of_eq rfl rfl
theorem dropGranted_grows (k : Claimant) (s : State) : Grows s (dropGranted k s) := grows_of_eq rfl rfl

theorem dropWaiting_grows (k : Claimant) (s : State) : Grows s (dropWaiting k s) := by
  unfold dropWaiting; dsimp only; repeat' split
  all_goals exact grows_of_eq rfl rfl

theorem enterClaim_grows (k : Claimant) (u : Nat) (c : ClaimClass) (s : State) : Grows s (enterClaim k u c s) := by
  unfold enterClaim; split
  · exact Grows.refl s
  · exact grows_of_eq rfl rfl

theorem bookChanged_grows (n : Nat) (s : State) : Grows s (bookChanged n s) := by
  unfold bookChanged; dsimp only; split
  · exact (emit_grows _ s).trans (emit_grows _ _)
  · exact emit_grows _ s

/-! ### The arbiter -/

theorem confirmRunning_grows (p : Fin 3) (s : State) : Grows s (confirmRunning p s) :=
  (setPump_grows p _ s).trans ((emit_grows _ _).trans (emit_grows _ _))

theorem takeGrant_grows (k : Claimant) (s : State) : Grows s (takeGrant k s) := by
  cases k with
  | pump p =>
    show Grows s (takePumpGrant p s)
    unfold takePumpGrant; dsimp only; split
    · exact Grows.refl s
    · have started (q : Pump) : Grows s (emit (.pumpChanged p) (setPump p q s)) := (setPump_grows p q s).trans (emit_grows _ _)
      split
      · exact (started _).trans (confirmRunning_grows p _)
      · exact started _
  | circuit c =>
    show Grows s (takeCircuitGrant c s)
    unfold takeCircuitGrant; dsimp only; split
    · exact setCircuit_grows c _ s
    · exact Grows.refl s

theorem reportReclaim_grows (k : Claimant) (s : State) : Grows s (reportReclaim k s) := by
  unfold reportReclaim; repeat' split
  · exact emit_grows _ s
  · exact Grows.refl s
  · exact Grows.refl s

theorem shedCircuit_grows {w : State → State} (hw : ∀ t, Grows t (w t)) (k : Claimant) (s : State) : Grows s (shedCircuit w k s) := by
  unfold shedCircuit; split
  · exact Grows.refl s
  · exact (((setCircuit_grows _ _ s).trans (dropGranted_grows _ _)).trans (hw _)).trans ((enterClaim_grows _ _ _ _).trans (hw _))

theorem walk_grows (n : Nat) (s : State) : Grows s (walk n s) := by
  induction n generalizing s with
  | zero => exact emit_grows .walk s
  | succ n ih =>
    unfold walk; dsimp only
    split
    · exact Grows.refl s
    · split
      · exact Grows.refl s
      · split
        · have moved (c : Claim) : Grows s (moveToGranted c s) := grows_of_eq rfl rfl
          exact ((moved _).trans (takeGrant_grows _ _)).trans (ih _)
        · split
          · exact Grows.refl s
          · have marked (c : Claim) (vs : List Claimant) : Grows s (markReclaim c vs s) := grows_of_eq rfl rfl
            exact ((marked _ _).trans (foldl_grows (fun t k => reportReclaim_grows k t) _ _)).trans
              (foldl_grows (fun t k => shedCircuit_grows ih k t) _ _)

theorem runWalk_grows (s : State) : Grows s (runWalk s) := walk_grows 64 s

theorem placeClaim_grows (k : Claimant) (u : Nat) (c : ClaimClass) (s : State) : Grows s (placeClaim k u c s) :=
  (enterClaim_grows k u c s).trans (runWalk_grows _)

theorem releaseClaim_grows (k : Claimant) (s : State) : Grows s (releaseClaim k s) := (dropGranted_grows k s).trans (runWalk_grows _)

theorem withdrawClaim_grows (k : Claimant) (s : State) : Grows s (withdrawClaim k s) := (dropWaiting_grows k s).trans (runWalk_grows _)

/-! ### The circuits -/

theorem judgeCircuit_grows (c : Fin 8) (s : State) : Grows s (judgeCircuit c s) := by
  have givesUp : Grows s (circuitGivesUp c s) := (setCircuit_grows c _ s).trans (withdrawClaim_grows _ _)
  unfold judgeCircuit; dsimp only; repeat' split
  all_goals first
    | exact Grows.refl s
    | exact givesUp
    | exact (setCircuit_grows c _ s).trans (placeClaim_grows _ _ _ _)
    | exact (setCircuit_grows c _ s).trans (releaseClaim_grows _ _)

theorem refreshSetpoint_grows (s : State) (c : Fin 8) : Grows s (refreshSetpoint s c) := by
  unfold refreshSetpoint; dsimp only; split
  · exact Grows.refl s
  · exact (setCircuit_grows c _ s).trans (judgeCircuit_grows c _)

theorem refreshSetpoints_grows (s : State) : Grows s (refreshSetpoints s) := foldl_grows refreshSetpoint_grows _ s

/-! ### The pump channels -/

theorem enterLockout_grows (p : Fin 3) (s : State) : Grows s (enterLockout p s) := (setPump_grows p _ s).trans (emit_grows _ _)

theorem enterFaulted_grows (p : Fin 3) (w : FaultCause) (s : State) : Grows s (enterFaulted p w s) := by
  unfold enterFaulted; dsimp only
  have faulted (q : Pump) : Grows s (setEvent .pumpFault (setPump p q s)) := (setPump_grows p q s).trans (setEvent_grows _ _)
  split
  · exact (faulted _).trans (emitFree_grows _ _)
  · exact (faulted _).trans (emit_grows _ _)

theorem stopEnds_grows (p : Fin 3) (s : State) : Grows s (stopEnds p s) := by
  unfold stopEnds; dsimp only; split
  all_goals first
    | exact (setPump_grows p _ s).trans (enterLockout_grows p _)
    | exact (setPump_grows p _ s).trans (enterFaulted_grows p _ _)

section
variable {w : State → State} (hw : ∀ t, Grows t (w t))
include hw

theorem completeStopBy_grows (p : Fin 3) (s : State) : Grows s (completeStopBy w p s) := by
  rw [completeStopBy_eq]
  exact ((stopEnds_grows p s).trans (dropGranted_grows _ _)).trans (hw _)

theorem enterStoppingBy_grows (p : Fin 3) (c : StopCause) (s : State) : Grows s (enterStoppingBy w p c s) := by
  unfold enterStoppingBy; dsimp only
  have stopping (q : Pump) : Grows s (emit (.pumpChanged p) (setPump p q s)) := (setPump_grows p q s).trans (emit_grows _ _)
  split
  · exact stopping _
  · exact (stopping _).trans (completeStopBy_grows hw p _)

theorem stopBy_grows (p : Fin 3) (b : Bool) (s : State) : Grows s (stopBy w p b s) := by
  unfold stopBy; dsimp only; split
  · exact (((setPump_grows p _ s).trans (emit_grows _ _)).trans (dropWaiting_grows _ _)).trans (hw _)
  · exact (setPump_grows p _ s).trans (enterStoppingBy_grows hw p _ _)
  · exact (setPump_grows p _ s).trans (enterStoppingBy_grows hw p _ _)
  · exact setPump_grows p _ s
  · exact setPump_grows p _ s
  · exact Grows.refl s

end

theorem stopCommand_grows (p : Fin 3) (b : Bool) (s : State) : Grows s (stopCommand p b s) := stopBy_grows runWalk_grows p b s

theorem stopAllPumps_grows (s : State) : Grows s (stopAllPumps s) := by
  have stopped : Grows s (pumpNumbers.foldl (fun u p => stopBy id p false u) s) := foldl_grows (fun t p => stopBy_grows Grows.refl p false t) _ s
  unfold stopAllPumps; dsimp only; split
  · exact stopped
  · exact stopped.trans (runWalk_grows _)

/-! ### The ends of a run, and the book -/

theorem endRun_grows (n : Nat) (p : Fin 3) (b : Bool) (c : Option Hold) (s : State) : Grows s (endRun n p b c s) :=
  (stopCommand_grows p b s).trans (setAssign_grows p _ _)

theorem runEnded_grows (n : Nat) (f : FillRecord) (s : State) : Grows s (runEnded n f s) := by
  unfold runEnded; split
  · exact endRun_grows n _ _ _ s
  · exact Grows.refl s

theorem serveOn_grows (day n : Nat) (o : Served) (s : State) : Grows s (serveOn day n o s) := by
  cases hr : findRecord n s with
  | none => unfold serveOn; rw [hr]; exact Grows.refl s
  | some r =>
    cases hb : r.body with
    | heat h => obtain ⟨k, origin, v, b⟩ := r; obtain rfl : b = .heat h := hb; unfold serveOn; rw [hr]; exact Grows.refl s
    | report q => obtain ⟨k, origin, v, b⟩ := r; obtain rfl : b = .report q := hb; unfold serveOn; rw [hr]; exact Grows.refl s
    | fill f =>
      rw [serveOn_eq day n o hr hb]; dsimp only
      have written := (runEnded_grows n f s).trans (putFill_grows n (servedFill day o f) _)
      generalize putFill n (servedFill day o f) (runEnded n f s) = t at written
      have counted : Grows s (if r.origin = .system then t else countOutcome o t) := by
        split
        · exact written
        · exact written.trans (grows_of_eq rfl rfl)
      generalize (if r.origin = .system then t else countOutcome o t) = u at counted
      have flagged : Grows s (if o = .reached then u else setEvent .outcome u) := by
        split
        · exact counted
        · exact counted.trans (setEvent_grows _ _)
      have announced := flagged.trans (emit_grows (.served (f.context.map (·.first))) _)
      split
      · exact (announced.trans (removeRecord_grows n _)).trans (bookChanged_grows n _)
      · exact announced.trans (bookChanged_grows n _)

theorem judgeChangedFill_grows (n : Nat) (s : State) : Grows s (judgeChangedFill n s) := by
  unfold judgeChangedFill; dsimp only; repeat' split
  all_goals first
    | exact Grows.refl s
    | exact serveOn_grows _ n _ s
    | exact putFill_grows n _ s

theorem judgeApplied_grows (n : Nat) (f : FillRecord) (s : State) : Grows s (judgeApplied n f s) := by
  unfold judgeApplied; split
  · exact judgeChangedFill_grows n s
  · exact Grows.refl s

theorem suspendFill_grows (n : Nat) (h : Hold) (b : Bool) (s : State) : Grows s (suspendFill n h b s) := by
  have judged (p : Fin 3) (c : Option Hold) (g f : FillRecord) :
      Grows s (bookChanged n (judgeApplied n f (putFill n g (endRun n p false c s)))) :=
    (((endRun_grows n p false c s).trans (putFill_grows n g _)).trans (judgeApplied_grows n f _)).trans (bookChanged_grows n _)
  unfold suspendFill; dsimp only; repeat' split
  all_goals first
    | exact Grows.refl s
    | exact judged _ _ _ _
    | exact (putFill_grows n _ s).trans (serveOn_grows _ n _ _)

theorem serveHeatOn_grows (day n : Nat) (h : HeatRecord) (s : State) : Grows s (serveHeatOn day n h s) := by
  unfold serveHeatOn; dsimp only; split
  · exact ((putHeat_grows n _ s).trans (removeRecord_grows n _)).trans (bookChanged_grows n _)
  · exact (putHeat_grows n _ s).trans (bookChanged_grows n _)

theorem judgeWindow_grows (m : Nat) (jump : Bool) (s : State) (n : Nat) : Grows s (judgeWindow m jump s n) := by
  have reopened (g : FillRecord) : Grows s (bookChanged n (putFill n g s)) := (putFill_grows n g s).trans (bookChanged_grows n _)
  have run (f : FillRecord) (w : Window) : Grows s (judgeRunAtJump m n f w s) := by
    unfold judgeRunAtJump; repeat' split
    · exact serveOn_grows _ n _ s
    · exact suspendFill_grows n _ _ s
    · exact Grows.refl s
  unfold judgeWindow; repeat' split
  all_goals first
    | exact Grows.refl s
    | exact reopened _
    | exact serveOn_grows _ n _ s
    | exact run _ _

theorem judgeHeatWindow_grows (m : Nat) (jump : Bool) (s : State) (n : Nat) : Grows s (judgeHeatWindow m jump s n) := by
  have changed (g : HeatRecord) : Grows s (bookChanged n (putHeat n g s)) := (putHeat_grows n g s).trans (bookChanged_grows n _)
  unfold judgeHeatWindow; repeat' split
  all_goals first
    | exact Grows.refl s
    | exact changed _
    | exact serveHeatOn_grows _ n _ s

theorem closeOrder_grows (day : Nat) (s : State) (n : Nat) : Grows s (closeOrder day s n) := by
  unfold closeOrder; repeat' split
  all_goals first
    | exact Grows.refl s
    | exact serveOn_grows _ n _ s
    | exact serveHeatOn_grows _ n _ s

theorem renewOrder_grows (old new : Nat) (s : State) (n : Nat) : Grows s (renewOrder old new s n) := by
  unfold renewOrder; repeat' split
  all_goals first
    | exact Grows.refl s
    | exact serveOn_grows _ n _ s
    | exact serveHeatOn_grows _ n _ s
    | exact putFill_grows n _ s
    | exact putHeat_grows n _ s

theorem closeDay_grows (day : Nat) (s : State) : Grows s (closeDay day s) :=
  (foldl_grows (closeOrder_grows day) _ s).trans (grows_of_eq rfl rfl)

theorem newDay_grows (old new : Nat) (s : State) : Grows s (newDay old new s) :=
  (foldl_grows (renewOrder_grows old new) _ s).trans (grows_of_eq rfl rfl)

end Sys2Proof.Machine

/-! The rollover (R26 to R28, R33, R48): a judgement of every order of the book is a judgement of each, and the closing of the day and
the readying for the new one are such judgements. -/

namespace Sys2Proof.Machine

open Sys2Proof.Safety

/-! ### A judgement of every order -/

/-- A judgement of one order gives that order's record as `g` says, which may look at the clock, and leaves the others and the clock. -/
structure Judges (f : State → Nat → State) (g : Clock → Record → Option Record) : Prop where
  finds : ∀ s n r, findRecord n s = some r → findRecord n (f s n) = g s.clock r
  other : ∀ s n m, m ≠ n → findRecord m (f s n) = findRecord m s
  clock : ∀ s n, (f s n).clock = s.clock

theorem liveNumbers_nodup {s : State} (h : BookFits s) : (liveNumbers s).Nodup := h.1.imp fun h => Nat.ne_of_lt h

theorem findRecord_number {n : Nat} {s : State} {r : Record} (h : findRecord n s = some r) : r.number = n := by
  simpa using List.find?_some h

theorem mem_liveNumbers {n : Nat} {s : State} {r : Record} (h : findRecord n s = some r) : n ∈ liveNumbers s :=
  List.mem_map.2 ⟨r, List.mem_of_find?_eq_some h, findRecord_number h⟩

theorem not_mem_liveNumbers {n : Nat} {s : State} (h : findRecord n s = none) : n ∉ liveNumbers s := by
  intro hn
  obtain ⟨r, hr, e⟩ := List.mem_map.1 hn
  have := List.find?_eq_none.1 h r hr
  exact this (by simpa using e)

section
variable {f : State → Nat → State} {g : Clock → Record → Option Record} (h : Judges f g)
include h

theorem Judges.foldl_clock (l : List Nat) (s : State) : (l.foldl f s).clock = s.clock := by
  induction l generalizing s with
  | nil => rfl
  | cons n l ih => rw [List.foldl_cons, ih, h.clock]

theorem Judges.foldl_other {l : List Nat} {n : Nat} (hn : n ∉ l) (s : State) : findRecord n (l.foldl f s) = findRecord n s := by
  induction l generalizing s with
  | nil => rfl
  | cons m l ih =>
    rw [List.foldl_cons, ih fun hm => hn (List.mem_cons_of_mem m hm), h.other s m n fun e => hn (e ▸ List.mem_cons_self)]

theorem Judges.foldl_finds {l : List Nat} (hl : l.Nodup) {n : Nat} (hn : n ∈ l) {s : State} {r : Record}
    (hr : findRecord n s = some r) : findRecord n (l.foldl f s) = g s.clock r := by
  obtain ⟨pre, post, rfl⟩ := List.append_of_mem hn
  obtain ⟨-, hpost, hdisjoint⟩ := List.nodup_append.1 hl
  have before : n ∉ pre := fun hp => hdisjoint n hp n List.mem_cons_self rfl
  have after : n ∉ post := (List.nodup_cons.1 hpost).1
  rw [List.foldl_append, List.foldl_cons, h.foldl_other after, h.finds _ n r (by rw [h.foldl_other before, hr]),
    h.foldl_clock]

/-- After a judgement of the whole book each record is as the judgement of it alone gives it. -/
theorem Judges.book {s : State} (hs : BookFits s) (n : Nat) :
    findRecord n ((liveNumbers s).foldl f s) = (findRecord n s).bind (g s.clock) := by
  cases hr : findRecord n s with
  | none => rw [h.foldl_other (not_mem_liveNumbers hr), hr]; rfl
  | some r => rw [h.foldl_finds (liveNumbers_nodup hs) (mem_liveNumbers hr) hr]; rfl

/-- What the judgement of one order brings about and every judgement keeps, the judgement of the whole book brings about. -/
theorem Judges.reached {P : State → Prop} {s : State} (hs : BookFits s) {n : Nat} {r : Record} (hr : findRecord n s = some r)
    (brings : ∀ t, findRecord n t = some r → P (f t n)) (keeps : ∀ t m, P t → P (f t m)) : P ((liveNumbers s).foldl f s) := by
  have hl := liveNumbers_nodup hs
  obtain ⟨pre, post, e⟩ := List.append_of_mem (mem_liveNumbers hr)
  rw [e] at hl ⊢
  obtain ⟨-, -, hdisjoint⟩ := List.nodup_append.1 hl
  have before : n ∉ pre := fun hp => hdisjoint n hp n List.mem_cons_self rfl
  rw [List.foldl_append, List.foldl_cons]
  exact foldl_keeps P f keeps post _ (brings _ (by rw [h.foldl_other before, hr]))

end

/-! ### The clock stands in a judgement -/

theorem serveOn_clock (day n : Nat) (o : Served) (s : State) : (serveOn day n o s).clock = s.clock := calm_clock (serveOn_calm day n o s)
theorem serveHeatOn_clock (day n : Nat) (h : HeatRecord) (s : State) : (serveHeatOn day n h s).clock = s.clock :=
  calm_clock (serveHeatOn_calm day n h s)

/-! ### Closing the day -/

/-- Closing the day serves an open order and leaves any other (R27). -/
theorem closeOrder_judges (day : Nat) : Judges (closeOrder day) (fun _ r => closedRecord day r) where
  finds s n r hr := by
    obtain ⟨k, o, v, b⟩ := r
    unfold closeOrder; rw [hr]
    cases b with
    | fill f =>
      have open_iff : (f.state = .due ∨ f.state = .suspended ∨ f.state = .starting ∨ f.state = .running) ↔
          (f.state = .due ∨ f.state = .suspended ∨ inRun f = true) := by simp [inRun]
      simp only [closedRecord, open_iff]
      split
      · exact serveOn_finds day n _ hr rfl
      · exact hr
    | heat h =>
      dsimp only [closedRecord]; split
      · exact serveHeatOn_finds day n h hr
      · exact hr
    | report q => exact hr
  other s n m hm := by
    unfold closeOrder; repeat' split
    all_goals first
      | rfl
      | exact serveOn_other day n m _ s hm
      | exact serveHeatOn_other day n m _ s hm
  clock s n := by
    unfold closeOrder; repeat' split
    all_goals first
      | rfl
      | exact serveOn_clock day n _ s
      | exact serveHeatOn_clock day n _ s

/-! ### Readying for the new day -/

theorem oncePassed_eq (old new : Nat) (w : Window) : oncePassed old new w = onceLapsed old new w := by
  unfold oncePassed onceLapsed; cases w.recur <;> rfl

theorem onceLapsed_isOnce {old new : Nat} {w : Window} (h : onceLapsed old new w = true) : isOnce w.recur = true := by
  unfold onceLapsed at h
  cases hw : w.recur with
  | once d => rfl
  | every k r => rw [hw] at h; exact absurd h nofun

theorem readyAgain_iff (w : Window) (day : Option Nat) (new : Nat) :
    readyAgain w day new = true ↔ recurs w.recur new = true ∧ day ≠ some new := by simp [readyAgain]

/-- Readying writes the record the new day begins with, and strikes a ONCE whose day has passed (R28). -/
theorem renewOrder_judges (old new : Nat) : Judges (renewOrder old new) (fun _ r => readiedRecord old new r) where
  finds s n r hr := by
    obtain ⟨k, o, v, b⟩ := r
    unfold renewOrder; rw [hr]
    cases b with
    | fill f =>
      have put (g : FillRecord) : findRecord n (putFill n g s) = some { number := k, origin := o, revision := v, body := .fill g } :=
        putFill_finds n g s _ hr
      dsimp only [readiedRecord]
      cases hw : f.window with
      | none => exact hr
      | some w =>
        dsimp only
        cases hq : f.state with
        | pending =>
          simp only [oncePassed_eq]
          split
          · rename_i lapsed
            have found := serveOn_finds old n .missed hr rfl
            have idle : inRun f = false := by simp [inRun, hq]
            have once : onceWindow f.window = true := by rw [hw]; exact onceLapsed_isOnce lapsed
            rw [idle, if_neg Bool.false_ne_true, servedRecord, if_pos (.inr once)] at found
            exact found
          · exact put _
        | served => simp only [readyAgain_iff]; exact put _
        | retiring => exact hr
        | _ => exact put _
    | heat h =>
      dsimp only [readiedRecord]
      cases hq : h.state with
      | pending =>
        simp only [oncePassed_eq]
        split
        · rename_i lapsed
          rw [serveHeatOn_finds old n h hr, if_pos (onceLapsed_isOnce lapsed)]
        · exact hr
      | served =>
        simp only [readyAgain_iff]
        split
        · exact putHeat_finds n _ s _ hr
        · exact hr
      | active => exact hr
    | report q => exact hr
  other s n m hm := by
    unfold renewOrder; repeat' split
    all_goals first
      | rfl
      | exact serveOn_other old n m _ s hm
      | exact serveHeatOn_other old n m _ s hm
      | exact putFill_other n m _ s hm
      | exact putHeat_other n m _ s hm
  clock s n := by
    unfold renewOrder; repeat' split
    all_goals first
      | rfl
      | exact serveOn_clock old n _ s
      | exact serveHeatOn_clock old n _ s

/-! ### What a closing leaves of the pumps and the flags -/

/-- The pump is out of a run and no order holds it. -/
def Released (p : Fin 3) (s : State) : Prop :=
  pumpsFluid (s.pumps.get p).state = false ∧ (s.fill.get p).holder = none ∧ (s.fill.get p).noFlow = none

theorem released_congr {p : Fin 3} {s t : State} (hp : t.pumps = s.pumps) (hf : t.fill = s.fill) (h : Released p s) : Released p t := by
  unfold Released; rw [hp, hf]; exact h

/-- A stop command gives no pump a run. -/
theorem stopCommand_keeps_not_fluid (k p : Fin 3) (b : Bool) {s : State} (h : pumpsFluid (s.pumps.get p).state = false) :
    pumpsFluid ((stopCommand k b s).pumps.get p).state = false := by
  by_cases hk : p = k
  · subst hk; exact stopCommand_not_fluid p b s
  · have stays : (stopBy id k b s).pumps.get p = s.pumps.get p := stopBy_id_other k p b s hk
    rcases stopBy_walk runWalk k b s with e | e
    · unfold stopCommand; rw [e, stays]; exact h
    · unfold stopCommand runWalk at *
      rw [e, walk_pump 64 _ p (by rw [stays]; exact not_claiming_of_not_fluid h), stays]; exact h

theorem endRun_released (n : Nat) (p : Fin 3) (b : Bool) (c : Option Hold) (s : State) : Released p (endRun n p b c s) := by
  refine ⟨stopCommand_not_fluid p b s, ?_, ?_⟩ <;> simp [endRun]

theorem endRun_keeps_released (n : Nat) (k p : Fin 3) (b : Bool) (c : Option Hold) {s : State} (h : Released p s) :
    Released p (endRun n k b c s) := by
  by_cases hk : p = k
  · subst hk; exact endRun_released n p b c s
  · have fill : (endRun n k b c s).fill.get p = s.fill.get p := by
      unfold endRun; dsimp only
      rw [setAssign_fill, trio_get_set_other _ _ _ _ hk, stopCommand_fill]
    exact ⟨stopCommand_keeps_not_fluid k p b h.1, by rw [fill]; exact h.2.1, by rw [fill]; exact h.2.2⟩

theorem removeRecord_keeps_released (n : Nat) (p : Fin 3) {s : State} (h : Released p s) : Released p (removeRecord n s) := by
  obtain ⟨hp, hh, hf⟩ := h
  refine ⟨hp, ?_, ?_⟩ <;> simp [removeRecord, trio_get_map, forgetAssignment, hh, hf]

theorem bookChanged_keeps_released (n : Nat) (p : Fin 3) {s : State} (h : Released p s) : Released p (bookChanged n s) :=
  released_congr (bookChanged_pumps n s) (bookChanged_fill n s) h

/-- A service after its run has ended moves no pump and gives none a holder. -/
theorem serveOn_released_of {p : Fin 3} (day n : Nat) (o : Served) {s : State} {r : Record} {f : FillRecord}
    (hr : findRecord n s = some r) (hb : r.body = .fill f) (h : Released p (runEnded n f s)) : Released p (serveOn day n o s) := by
  rw [serveOn_eq day n o hr hb]; dsimp only
  have written : Released p (putFill n (servedFill day o f) (runEnded n f s)) := h
  generalize putFill n (servedFill day o f) (runEnded n f s) = t at written
  have counted : Released p (if r.origin = .system then t else countOutcome o t) := by split <;> exact written
  generalize (if r.origin = .system then t else countOutcome o t) = u at counted
  have flagged : Released p (emit (.served (f.context.map (·.first))) (if o = .reached then u else setEvent .outcome u)) := by
    split <;> exact counted
  refine bookChanged_keeps_released n p ?_
  split
  · exact removeRecord_keeps_released n p flagged
  · exact flagged

theorem serveOn_keeps_released (day n : Nat) (o : Served) {p : Fin 3} {s : State} (h : Released p s) : Released p (serveOn day n o s) := by
  cases hr : findRecord n s with
  | none => unfold serveOn; rw [hr]; exact h
  | some r =>
    cases hb : r.body with
    | heat q => obtain ⟨k, origin, v, b⟩ := r; obtain rfl : b = .heat q := hb; unfold serveOn; rw [hr]; exact h
    | report q => obtain ⟨k, origin, v, b⟩ := r; obtain rfl : b = .report q := hb; unfold serveOn; rw [hr]; exact h
    | fill f =>
      refine serveOn_released_of day n o hr hb ?_
      unfold runEnded; split
      · exact endRun_keeps_released n f.pump p false none h
      · exact h

/-- The pump of an order served out of a run is stopped and free. -/
theorem serveOn_releases (day n : Nat) (o : Served) {s : State} {r : Record} {f : FillRecord} (hr : findRecord n s = some r)
    (hb : r.body = .fill f) (hrun : inRun f = true) : Released f.pump (serveOn day n o s) := by
  refine serveOn_released_of day n o hr hb ?_
  unfold runEnded; rw [if_pos hrun]; exact endRun_released n f.pump false none s

theorem serveHeatOn_keeps_released (day n : Nat) (q : HeatRecord) {p : Fin 3} {s : State} (h : Released p s) :
    Released p (serveHeatOn day n q s) := by
  unfold serveHeatOn; dsimp only
  refine bookChanged_keeps_released n p ?_
  split
  · exact removeRecord_keeps_released n p (s := putHeat n _ s) h
  · exact h

theorem closeOrder_keeps_released (day : Nat) {p : Fin 3} (s : State) (n : Nat) (h : Released p s) : Released p (closeOrder day s n) := by
  unfold closeOrder; repeat' split
  all_goals first
    | exact h
    | exact serveOn_keeps_released day n _ h
    | exact serveHeatOn_keeps_released day n _ h

/-- A service with an outcome other than REACHED sets OUTCOME (R67). -/
theorem serveOn_sets_outcome (day n : Nat) {o : Served} (ho : o ≠ .reached) {s : State} {r : Record} {f : FillRecord}
    (hr : findRecord n s = some r) (hb : r.body = .fill f) : eventIsSet .outcome (serveOn day n o s) = true := by
  rw [serveOn_eq day n o hr hb]; dsimp only
  rw [if_neg ho]
  refine (bookChanged_grows n _).events _ ?_
  generalize (if r.origin = .system then putFill n (servedFill day o f) (runEnded n f s)
    else countOutcome o (putFill n (servedFill day o f) (runEnded n f s))) = t
  have flagged : eventIsSet .outcome (emit (.served (f.context.map (·.first))) (setEvent .outcome t)) = true :=
    (emit_grows _ _).events _ (eventIsSet_setEvent .outcome t)
  split
  · exact (removeRecord_grows n _).events _ flagged
  · exact flagged

theorem closingOutcome_ne_reached (f : FillRecord) : closingOutcome f ≠ .reached := by
  unfold closingOutcome; repeat' split
  all_goals nofun

/-- What the closing of the day does to an open external FILL order, beyond its record (R27). -/
theorem closeDay_serves {day n : Nat} {s : State} (hs : BookFits s) {r : Record} {f : FillRecord} (hr : findRecord n s = some r)
    (hb : r.body = .fill f) (ho : r.origin ≠ .system) (hopen : f.state = .due ∨ f.state = .suspended ∨ inRun f = true) :
    eventIsSet .outcome (closeDay day s) = true ∧ (inRun f = true → Released f.pump (closeDay day s)) := by
  have closes (t : State) (ht : findRecord n t = some r) : closeOrder day t n = serveOn day n (closingOutcome f) t := by
    obtain ⟨k, o, v, b⟩ := r
    obtain rfl : b = .fill f := hb
    unfold closeOrder; rw [ht]
    exact if_pos ⟨ho, by simpa [inRun] using hopen⟩
  refine ⟨?_, fun hrun => ?_⟩
  · refine (closeOrder_judges day).reached (P := fun t => eventIsSet .outcome t = true) hs hr (fun t ht => ?_)
      (fun t m => (closeOrder_grows day t m).events _)
    rw [closes t ht]; exact serveOn_sets_outcome day n (closingOutcome_ne_reached f) ht hb
  · refine (closeOrder_judges day).reached (P := Released f.pump) hs hr (fun t ht => ?_) (fun t m => closeOrder_keeps_released day t m)
    rw [closes t ht]; exact serveOn_releases day n _ ht hb hrun

/-! ### The rollover -/

theorem findRecord_clearOutcomes (n : Nat) (s : State) : findRecord n (clearOutcomes s) = findRecord n s := rfl

theorem closeDay_finds (day : Nat) {s : State} (hs : BookFits s) (n : Nat) :
    findRecord n (closeDay day s) = (findRecord n s).bind (closedRecord day) := (closeOrder_judges day).book hs n

theorem newDay_finds (old new : Nat) {s : State} (hs : BookFits s) (n : Nat) :
    findRecord n (newDay old new s) = (findRecord n s).bind (readiedRecord old new) := (renewOrder_judges old new).book hs n

theorem judgeAllowance_book (s : State) : (judgeAllowance s).book = s.book := by unfold judgeAllowance; split <;> rfl

theorem judgeAllowance_grows (s : State) : Grows s (judgeAllowance s) := by
  unfold judgeAllowance; split
  · have marked : Grows s { s with clock := { s.clock with reachedToday := true } } := grows_of_eq rfl rfl
    exact marked.trans (setEvent_grows _ _)
  · exact Grows.refl s

theorem judgeAllowance_clock (s : State) :
    (judgeAllowance s).clock = { s.clock with reachedToday := s.clock.reachedToday || decide (s.gs.allowance ≤ s.clock.tally) } := by
  unfold judgeAllowance; split
  · rename_i h
    have spent : decide (s.gs.allowance ≤ s.clock.tally) = true := h.1
    rw [spent, Bool.or_true]; rfl
  · rename_i h
    have stands : (s.clock.reachedToday || decide (s.gs.allowance ≤ s.clock.tally)) = s.clock.reachedToday := by
      cases hr : s.clock.reachedToday with
      | true => rfl
      | false => exact Bool.eq_false_iff.2 fun spent => h ⟨spent, hr⟩
    rw [stands]

/-- The tally cleared and the allowance judged, between the new day's book and the announcements. -/
def tallyCleared (s : State) : State := judgeAllowance { s with clock := { s.clock with tally := 0, reachedToday := false } }

theorem rollover_eq (old new : Nat) (s : State) :
    rollover old new s =
      emit .frostJudge (emit .evalFill (refreshSetpoints (tallyCleared (newDay old new (closeDay old s))))) := rfl

theorem tallyCleared_clock (s : State) :
    (tallyCleared s).clock = { s.clock with tally := 0, reachedToday := decide (s.gs.allowance = 0) } := by
  unfold tallyCleared; rw [judgeAllowance_clock]; simp

theorem tallyCleared_grows (s : State) : Grows s (tallyCleared s) := by
  have cleared : Grows s { s with clock := { s.clock with tally := 0, reachedToday := false } } := grows_of_eq rfl rfl
  exact cleared.trans (judgeAllowance_grows _)

theorem tallyCleared_allowance {s : State} (h : s.gs.allowance = 0) : eventIsSet .allowance (tallyCleared s) = true := by
  unfold tallyCleared judgeAllowance
  rw [if_pos ⟨by simp [allowanceSpent, h], rfl⟩]
  exact eventIsSet_setEvent .allowance _

theorem rollover_book (old new : Nat) (s : State) : (rollover old new s).book = (newDay old new (closeDay old s)).book := by
  rw [rollover_eq, emit_book, emit_book, refreshSetpoints_book]; exact judgeAllowance_book _

theorem refreshSetpoints_clock (s : State) : (refreshSetpoints s).clock = s.clock := calm_clock (refreshSetpoints_calm s)

theorem newDay_outcomes (old new : Nat) (s : State) : (newDay old new s).book.outcomes = ⟨0, 0, 0, 0, 0, 0, 0⟩ := by
  unfold newDay clearOutcomes; rfl

theorem rollover_clock (old new : Nat) (s : State) :
    (rollover old new s).clock = { s.clock with tally := 0, reachedToday := decide (s.gs.allowance = 0) } := by
  have days : calm (newDay old new (closeDay old s)) = calm s := (newDay_calm old new _).trans (closeDay_calm old s)
  have limits : (newDay old new (closeDay old s)).gs = s.gs := congrArg Still.gs (calm_still days)
  rw [rollover_eq, emit_clock, emit_clock, refreshSetpoints_clock, tallyCleared_clock, calm_clock days, limits]

theorem still_lastAssigned (s : State) : (still s).lastAssigned = s.book.lastAssigned := rfl

theorem rollover_lastAssigned (old new : Nat) (s : State) : (rollover old new s).book.lastAssigned = s.book.lastAssigned := by
  rw [← still_lastAssigned, rollover_still, still_lastAssigned]

/-- The rollover is announced last (R33). -/
theorem rollover_agenda (old new : Nat) (s : State) : ∃ xs, (rollover old new s).agenda = s.agenda ++ xs ++ [.evalFill, .frostJudge] := by
  have grown : Grows s (refreshSetpoints (tallyCleared (newDay old new (closeDay old s)))) :=
    (((closeDay_grows old s).trans (newDay_grows old new _)).trans (tallyCleared_grows _)).trans (refreshSetpoints_grows _)
  obtain ⟨xs, hx⟩ := grown.agenda
  refine ⟨xs, ?_⟩
  rw [rollover_eq, emit_agenda, emit_agenda, hx, List.append_assoc _ [Note.evalFill]]; rfl

/-- Settles O12: the closing and the readying are judgements of each order, and the tally and the allowance come after. -/
theorem rolloverClosesAndReadies : Obligations.RolloverClosesAndReadies := by
  intro old new s hs closed u
  have closedFits : BookFits closed := closeDay_kept bookFits_stepLaw old hs
  have days : calm (newDay old new closed) = calm s := (newDay_calm old new closed).trans (closeDay_calm old s)
  have limits : (newDay old new closed).gs = s.gs := congrArg Still.gs (calm_still days)
  have found (n : Nat) : findRecord n u = ((findRecord n s).bind (closedRecord old)).bind (readiedRecord old new) := by
    rw [findRecord_congr (rollover_book old new s), newDay_finds old new closedFits, closeDay_finds old hs]
  refine ⟨fun n r hr => ⟨?_, ?_, ?_, fun f hb ho => ⟨fun hopen => ?_, fun hrun => ?_⟩⟩, fun n hn => ?_, ?_, ?_, ?_, fun h0 => ?_, ?_⟩
  · rw [closeDay_finds old hs, hr]; rfl
  · rw [newDay_finds old new hs, hr]; rfl
  · rw [found, hr]; rfl
  · exact (closeDay_serves hs hr hb ho hopen).1
  · exact (closeDay_serves hs hr hb ho (.inr (.inr hrun))).2 hrun
  · rw [found, hn]; rfl
  · exact (congrArg Book.outcomes (rollover_book old new s)).trans (newDay_outcomes old new _)
  · exact rollover_lastAssigned old new s
  · exact rollover_clock old new s
  · refine (((refreshSetpoints_grows _).trans (emit_grows _ _)).trans (emit_grows _ _)).events .allowance ?_
    exact tallyCleared_allowance (by rw [limits, h0])
  · exact rollover_agenda old new s

end Sys2Proof.Machine

/-! The inlet valve: its drives, its commands, its limits and its travel timer (R92 to R94). -/

namespace Sys2Proof.Machine

open Sys2Proof.Safety

/-! ### The drives -/

@[simp] theorem changeValve_valve (v : Valve) (s : State) : (changeValve v s).valve = v := rfl
@[simp] theorem faultValve_valve (d : Direction) (s : State) :
    (faultValve d s).valve = { s.valve with state := .fault, travel := none, faultDirection := some d } := rfl
@[simp] theorem restValve_valve (st : ValveState) (s : State) : (restValve st s).valve = { s.valve with state := st, travel := none } := rfl

theorem faultValve_event (d : Direction) (s : State) : eventIsSet .valveFault (faultValve d s) = true := eventIsSet_setEvent _ _

/-- Both limits fault a valve that is not in FAULT (R94). -/
theorem judgeLimits_both {s : State} (h : s.inputs.openLimit = true ∧ s.inputs.closedLimit = true) (hv : s.valve.state ≠ .fault) :
    judgeLimits s = faultValve s.valve.lastTravel s := if_pos (by simp [h, hv])

theorem judgeLimits_else {s : State} (h : ¬ (s.inputs.openLimit = true ∧ s.inputs.closedLimit = true)) : judgeLimits s = s :=
  if_neg fun c => h (by simp only [Bool.and_eq_true] at c; exact c.1)

theorem judgeLimits_fault {s : State} (h : s.valve.state = .fault) : judgeLimits s = s := if_neg (by simp [h])

/-- The valve travelling to open and to close, as a drive begins it. -/
def opening (s : State) : Valve := { state := .opening, travel := some s.gs.travelLimit, faultDirection := none, lastTravel := .toOpen }
def closing (s : State) : Valve := { state := .closing, travel := some s.gs.travelLimit, faultDirection := none, lastTravel := .toClose }

theorem driveOpen_else {s : State} (h : ¬ (s.inputs.openLimit = true ∧ s.inputs.closedLimit = true)) :
    (driveOpen s).valve = opening s := by 
  exact congrArg State.valve (judgeLimits_else (s := changeValve (opening s) s) h)

theorem driveOpen_both {s : State} (h : s.inputs.openLimit = true ∧ s.inputs.closedLimit = true) :
    driveOpen s = faultValve .toOpen (changeValve (opening s) s) := judgeLimits_both h (by simp)

theorem driveClose_else {s : State} (h : ¬ (s.inputs.openLimit = true ∧ s.inputs.closedLimit = true)) :
    (driveClose s).valve = closing s := by 
  exact congrArg State.valve (judgeLimits_else (s := changeValve (closing s) s) h)

theorem driveClose_both {s : State} (h : s.inputs.openLimit = true ∧ s.inputs.closedLimit = true) :
    driveClose s = faultValve .toClose (changeValve (closing s) s) := judgeLimits_both h (by simp)

/-! ### The commands -/

theorem closeCommand_drives {s : State} (h : s.valve.state = .isOpen ∨ s.valve.state = .opening ∨ s.valve.state = .fault) :
    closeCommand s = driveClose s := by
  unfold closeCommand; rcases h with h | h | h <;> rw [h]

theorem closeCommand_stands {s : State} (h : s.valve.state = .closed ∨ s.valve.state = .closing) : closeCommand s = s := by
  unfold closeCommand; rcases h with h | h <;> rw [h]

theorem openCommand_drives {s : State} (h : s.valve.state = .closed ∨ s.valve.state = .closing ∨ s.valve.state = .fault) :
    openCommand s = driveOpen s := by
  unfold openCommand; rcases h with h | h | h <;> rw [h]

theorem openCommand_stands {s : State} (h : s.valve.state = .isOpen ∨ s.valve.state = .opening) : openCommand s = s := by
  unfold openCommand; rcases h with h | h <;> rw [h]

/-- Settles O44: each command drives the valve or finds it where it is wanted. -/
theorem valveCommandsTaken : Obligations.ValveCommandsTaken := by
  intro s v bothLimits closing opening faulted
  refine ⟨fun h => ?_, closeCommand_stands, fun h => ?_, openCommand_stands⟩
  · rw [closeCommand_drives h]
    exact ⟨driveClose_else, fun both => by rw [driveClose_both both]; exact ⟨rfl, faultValve_event _ _⟩⟩
  · rw [openCommand_drives h]
    exact ⟨driveOpen_else, fun both => by rw [driveOpen_both both]; exact ⟨rfl, faultValve_event _ _⟩⟩

/-! ### The limits and the travel timer -/

/-- The limit inputs as a change leaves them. -/
def limitsSet (o c : Bool) (s : State) : State := { s with inputs := { s.inputs with openLimit := o, closedLimit := c } }

theorem valveLimits_inputs (o c : Bool) (s : State) :
    (valveLimits o c s).inputs = { s.inputs with openLimit := o, closedLimit := c } :=
  congrArg Still.inputs (valveLimits_still o c s)

theorem valveLimits_both {o c : Bool} (s : State) (ho : o = true) (hc : c = true) :
    valveLimits o c s = judgeLimits (limitsSet o c s) := if_pos (by simp [ho, hc])

/-- Settles O43: the limits by the valve's state, and the travel timer by the travel that fails. -/
theorem valveInputsTaken : Obligations.ValveInputsTaken := by
  intro o c s v u
  refine ⟨⟨conclude_eq (valveLimits o c) s, valveLimits_inputs o c s, fun ho hc hv => ?_, fun hv => ?_, fun hv hc ho hwas => ?_,
    fun hv ho hc hwas => ?_, fun hv hwas ho => ?_, fun hv hwas hc => ?_⟩, fun hsome hv => ?_⟩
  · have gives : u = faultValve s.valve.lastTravel (limitsSet o c s) := by
      show valveLimits o c s = _
      rw [valveLimits_both s ho hc, judgeLimits_both (s := limitsSet o c s) ⟨ho, hc⟩ hv]; rfl
    rw [gives]; exact ⟨rfl, rfl, rfl, faultValve_event _ _⟩
  · have gives : u = limitsSet o c s := by
      show valveLimits o c s = _
      by_cases both : o = true ∧ c = true
      · rw [valveLimits_both s both.1 both.2, judgeLimits_fault (s := limitsSet o c s) hv]
      · unfold valveLimits; rw [if_neg (by simpa using both)]; simp only [show s.valve.state = .fault from hv]; rfl
    rw [gives]; rfl
  · have gives : u = restValve .closed (limitsSet o c s) := by
      show valveLimits o c s = _
      unfold valveLimits; simp [hc, ho, hwas, show s.valve.state = .closing from hv, limitsSet]
    rw [gives]; rfl
  · have gives : u = restValve .isOpen (limitsSet o c s) := by
      show valveLimits o c s = _
      unfold valveLimits; simp [hc, ho, hwas, show s.valve.state = .opening from hv, limitsSet]
    rw [gives]; rfl
  · have gives : u = driveOpen (limitsSet o c s) := by
      show valveLimits o c s = _
      unfold valveLimits; simp [ho, hwas, show s.valve.state = .isOpen from hv, limitsSet]
    rw [gives, driveOpen_else (by simp [limitsSet, ho])]; exact ⟨rfl, rfl⟩
  · have gives : u = driveClose (limitsSet o c s) := by
      show valveLimits o c s = _
      unfold valveLimits; simp [hc, hwas, show s.valve.state = .closed from hv, limitsSet]
    rw [gives, driveClose_else (by simp [limitsSet, hc])]; exact ⟨rfl, rfl⟩
  · have running : ¬ v.travel.isNone = true := by simp [Option.isSome_iff_ne_none] at hsome ⊢; exact hsome
    refine ⟨conclude_eq valveTravelExpiry s, ?_⟩
    unfold valveTravelExpiry; rw [if_neg running]
    rcases hv with hv | hv <;> simp only [show s.valve.state = _ from hv, show v.state = _ from hv]
    · exact ⟨rfl, rfl, rfl, faultValve_event _ _⟩
    · exact ⟨rfl, rfl, rfl, faultValve_event _ _⟩

end Sys2Proof.Machine

/-! The cabinet port's frames as they begin and as a result is formed (R184, R186), and the line of the district link (R154 to R156). -/

namespace Sys2Proof.Machine

open Sys2Proof.Safety

/-! ### The cabinet port -/

/-- The bytes a port gives by its state (R184). -/
theorem sdoBytes_idle {c : Cabinet} (h : c.state = .idle) : sdoBytes c = [0x5A] := by unfold sdoBytes; rw [h]
theorem sdoBytes_working {c : Cabinet} (h : c.state = .working) : sdoBytes c = [0x5B] := by unfold sdoBytes; rw [h]
theorem sdoBytes_held {c : Cabinet} {r : Response} (h : c.state = .held) (hr : c.held = some r) :
    sdoBytes c = 0x5C :: responseBytes r := by unfold sdoBytes; rw [h, hr]

/-- Past what the port has to give every byte is filler (R184). -/
theorem clockedOut_get (c : Clocked) {n i : Nat} (h : i < n) :
    (clockedOut c n)[i]? = some (if i < c.sdo.length then (c.sdo[i]?).getD 0 else 0x00) := by
  unfold clockedOut sdoByte
  rw [List.getElem?_map, List.getElem?_range h, Option.map_some]
  split
  · rfl
  · rename_i hi
    rw [List.getElem?_eq_none (by omega)]; rfl

theorem formResult_formed {s : State} {f : InFlight} {r : Response} (hw : s.cabinet.state = .working) (hf : s.cabinet.inFlight = some f)
    (hr : f.formed = some r) : formResult s = holdResponse r s := by
  unfold formResult; simp only [hw, hf, hr]

theorem formResult_unformed {s : State} {f : InFlight} (hw : s.cabinet.state = .working) (hf : s.cabinet.inFlight = some f)
    (hr : f.formed = none) :
    formResult s = holdResponse (carryOut .cabinet f.request s).2 (takeRequest .cabinet f.request s) := by
  unfold formResult; simp only [hw, hf, hr]

theorem exec_ownerFormsResult (x : Sample) (s : State) :
    exec (.ownerFormsResult x) s = .next (finish (formResult (takeSample x s))) := conclude_eq formResult (takeSample x s)

/-- Settles O27: the port's bytes by its state, and the held response by whether the request is carried out already. -/
theorem cabinetShowsItsResponse : Obligations.CabinetShowsItsResponse := by
  refine ⟨fun s => ⟨sdoBytes s.cabinet, rfl, sdoBytes_idle, sdoBytes_working, fun r h hr => ?_⟩, fun c n i => clockedOut_get c, ?_⟩
  · rw [sdoBytes_held h hr]; rfl
  · intro x f s hw hf s0
    refine ⟨fun r hr => ?_, fun hr => ?_⟩
    · rw [exec_ownerFormsResult, formResult_formed (s := s0) hw hf hr]; rfl
    · intro u
      rw [exec_ownerFormsResult, formResult_unformed (s := s0) hw hf hr]; rfl

/-! ### The line -/

theorem exec_discardedFrame (f : Frame) (s : State) : exec (.discardedFrame f) s = .next (finish (receiveFrame s.crystal f s)) :=
  conclude_eq (receiveFrame s.crystal f) s
theorem exec_ignoredFrame (f : Frame) (s : State) : exec (.ignoredFrame f) s = .next (finish (receiveFrame s.crystal f s)) :=
  conclude_eq (receiveFrame s.crystal f) s

theorem receiveFrame_sending (instant : Nat) (f : Frame) {s : State} (h : s.link.line = .sending) : receiveFrame instant f s = s := if_pos h

/-- A frame with a bad check, of another kind or for another tower has no effect but on the line (R155, R156). -/
theorem receiveFrame_ignored (instant : Nat) {f : Frame} {s : State} (h : s.link.line ≠ .sending)
    (hf : frameCheckOk f = false ∨ (f.kind ≠ 1 ∧ f.kind ≠ 2) ∨ (f.kind = 1 ∧ (f.dest ≠ 255 ∨ f.src ≠ 0)) ∨
      (f.kind = 2 ∧ (f.dest.toNat ≠ s.gs.towerAddress ∨ f.src ≠ 0))) : receiveFrame instant f s = lineQuiet s := by
  have address : (lineQuiet s).gs.towerAddress = s.gs.towerAddress := rfl
  unfold receiveFrame; rw [if_neg h]; dsimp only
  by_cases hc : frameCheckOk f = false
  · rw [if_pos hc]
  · have other : (f.kind ≠ 1 ∧ f.kind ≠ 2) ∨ (f.kind = 1 ∧ (f.dest ≠ 255 ∨ f.src ≠ 0)) ∨
      (f.kind = 2 ∧ (f.dest.toNat ≠ s.gs.towerAddress ∨ f.src ≠ 0)) := hf.resolve_left hc
    rw [if_neg hc, address]
    rcases other with ⟨h1, h2⟩ | ⟨h1, hd⟩ | ⟨h2, hd⟩
    · rw [if_neg fun c => h1 c.1, if_neg fun c => h2 c.1]
    · have no_opener : ¬ (f.kind = 1 ∧ f.dest = 255 ∧ f.src = 0) := fun c => hd.elim (fun x => x c.2.1) (fun x => x c.2.2)
      have no_request : ¬ (f.kind = 2 ∧ f.dest.toNat = s.gs.towerAddress ∧ f.src = 0) := fun c =>
        absurd (h1.symm.trans c.1) (by decide)
      rw [if_neg no_opener, if_neg no_request]
    · have no_opener : ¬ (f.kind = 1 ∧ f.dest = 255 ∧ f.src = 0) := fun c => absurd (h2.symm.trans c.1) (by decide)
      have no_request : ¬ (f.kind = 2 ∧ f.dest.toNat = s.gs.towerAddress ∧ f.src = 0) := fun c =>
        hd.elim (fun x => x c.2.1) (fun x => x c.2.2)
      rw [if_neg no_opener, if_neg no_request]

theorem checkedBytes_eq (dest src kind seq : Byte) (body : List Byte) :
    checkedBytes dest src kind seq body = [dest, src, kind, seq, BitVec.ofNat 8 body.length] ++ body := rfl

/-- Settles O29: each row by the line's state, the check of the nine characters by computation, and a frame built by its own layout. -/
theorem lineHearsAndChecks : Obligations.LineHearsAndChecks := by
  refine ⟨fun f s => ?_, by decide +kernel, fun dest src kind seq body => ⟨rfl, ?_⟩⟩
  · refine ⟨fun h => congrArg Host.Outcome.next (if_pos h), fun h => congrArg Host.Outcome.next (if_neg h),
      fun h => ⟨congrArg Host.Outcome.next (if_pos h), congrArg Host.Outcome.next (if_pos h)⟩,
      fun h => ⟨congrArg Host.Outcome.next (if_neg h), congrArg Host.Outcome.next (if_neg h)⟩, fun h => ?_, fun h hf => ?_⟩
    · rw [exec_discardedFrame, exec_ignoredFrame, receiveFrame_sending _ f h]; exact ⟨rfl, rfl⟩
    · rw [exec_discardedFrame, exec_ignoredFrame, receiveFrame_ignored _ h hf]; exact ⟨rfl, rfl⟩
  · simp only [frameCheckOk, checkedBytes_eq, decide_true]

end Sys2Proof.Machine

/-! READ GUARD, the tariff calendar and the commit (R42 to R45, R177, R194, R196, R197), and the tally and the band (R43, R47, R48). -/

namespace Sys2Proof.Machine

open Sys2Proof.Safety

/-! ### READ GUARD -/

theorem exec_readGuard_result (port : Port) (ids : List Byte) (s : State) :
    exec (.readGuard port ids) s =
      .next (noteFormed port (.readGuard ids) (readGuardNow port ids s) { s with lastResult := some (readGuardNow port ids s) }) :=
  congrArg Host.Outcome.next (takeRequest_refused port (.readGuard ids) (readGuardNow port ids s) s (carryOut_readGuard port ids s) rfl)

theorem readListOk_iff (ids : List Byte) :
    readListOk ids = true ↔ 1 ≤ ids.length ∧ ids.length ≤ 16 ∧ ids.Nodup ∧ ∀ i ∈ ids, (guardFieldOfId i).isSome = true := by
  simp only [readListOk, readFormOk, Bool.and_eq_true, decide_eq_true_eq, List.all_eq_true]; tauto

theorem u32_zero : Wire.u32 0 = [0, 0, 0, 0] := by decide

theorem flag_eq (b : Bool) : Wire.flag b = [if b then 1 else 0] := by cases b <;> rfl

theorem readZero_eq_false {port : Port} {s : State} {f : GuardField} :
    readZero port s f = false ↔ port = .cabinet ∨ (s.remote.unlocked = true ∧ f ≠ .accessCode) := by
  cases port <;> simp [readZero]

theorem readValue_zero (g : GuardSet) (i : Byte) : readValue g (fun _ => true) i = [0, 0, 0, 0] := by
  unfold readValue; split <;> exact u32_zero

/-- Settles O14: the list's checks, then each value by the port and the lock. -/
theorem readGuardReturnsValues : Obligations.ReadGuardReturnsValues := by
  intro port ids s
  have gives := exec_readGuard_result port ids s
  refine ⟨fun bad => ?_, fun h1 h2 h3 h4 => ?_⟩
  · have refused : readGuardNow port ids s = plain .invalid := if_neg (mt (readListOk_iff ids).1 bad)
    rwa [refused] at gives
  · have read : readGuardNow port ids s =
        { code := .done, body := readBody ids (readZero port s) s, masked := readBody ids (fun _ => true) s } :=
      if_pos ((readListOk_iff ids).2 ⟨h1, h2, h3, h4⟩)
    rw [read] at gives
    refine ⟨_, gives, rfl, ?_, ?_⟩
    · show ids.flatMap _ ++ Wire.flag s.store.commit = _
      rw [flag_eq]
      refine congrArg (· ++ _) (congrArg (ids.flatMap ·) (funext fun i => congrArg (i :: ·) ?_))
      unfold readValue
      cases guardFieldOfId i with
      | none => exact u32_zero
      | some f =>
        dsimp only
        by_cases hz : readZero port s f = false
        · rw [if_neg (by simp [hz]), if_pos (readZero_eq_false.1 hz)]
        · rw [if_pos (by simpa using hz), if_neg (mt readZero_eq_false.2 hz), u32_zero]
    · show ids.flatMap _ ++ Wire.flag s.store.commit = _
      simp only [readValue_zero, flag_eq]

/-! ### The calendar -/

theorem startsAscend_iff (l : List Nat) : startsAscend l = true ↔ ascending l := by
  unfold ascending
  rw [← List.isChain_iff_pairwise]
  induction l with
  | nil => simp [startsAscend]
  | cons a rest ih =>
    cases rest with
    | nil => simp [startsAscend]
    | cons b rest => simp [startsAscend, ih]

theorem bandOfCode_isSome (n : Nat) : (bandOfCode n).isSome = true ↔ n ≤ 2 := by
  match n with
  | 0 => decide
  | 1 => decide
  | 2 => decide
  | n + 3 => simp [bandOfCode]

theorem bandCode_bandOfCode {n : Nat} (h : n ≤ 2) : bandCode ((bandOfCode n).getD .night) = n := by
  interval_cases n <;> rfl

/-- A list of entries is a calendar (R42, R44). -/
def CalendarLawful (es : List TariffField) : Prop :=
  1 ≤ es.length ∧ es.length ≤ 8 ∧ (es.map (·.start)).head? = some 0 ∧ ascending (es.map (·.start)) ∧
    ∀ e ∈ es, e.start ≤ 1439 ∧ e.band ≤ 2

theorem calendarOf_eq (es : List TariffField) (h : CalendarLawful es) :
    calendarOf es = some (es.map (fun e => ⟨e.start, (bandOfCode e.band).getD .night⟩)) := by
  obtain ⟨h1, h2, h3, h4, h5⟩ := h
  refine if_pos ?_
  simp only [calendarStarts, Bool.and_eq_true, decide_eq_true_eq, List.length_map, beq_iff_eq, List.all_eq_true, startsAscend_iff,
    bandOfCode_isSome, List.mem_map]
  exact ⟨⟨⟨⟨⟨h1, h2⟩, h3⟩, by rintro _ ⟨e, he, rfl⟩; exact (h5 e he).1⟩, h4⟩, fun e he => (h5 e he).2⟩

theorem calendarOf_none (es : List TariffField) (h : ¬ CalendarLawful es) : calendarOf es = none := by
  refine if_neg fun c => h ?_
  simp only [calendarStarts, Bool.and_eq_true, decide_eq_true_eq, List.length_map, beq_iff_eq, List.all_eq_true, startsAscend_iff,
    bandOfCode_isSome, List.mem_map] at c
  obtain ⟨⟨⟨⟨⟨h1, h2⟩, h3⟩, h4⟩, h5⟩, h6⟩ := c
  exact ⟨h1, h2, h3, h5, fun e he => ⟨h4 _ ⟨e, he, rfl⟩, h6 e he⟩⟩

/-! ### The band -/

theorem rebandNow_eq (s : State) :
    rebandNow s = { s with
      clock := { s.clock with band := bandNow s }, agenda := s.agenda ++ (if bandNow s = s.clock.band then [] else [.evalFill]) } := by
  unfold rebandNow; dsimp only; split
  · rename_i h; rw [h, List.append_nil]
  · rfl

/-- Past the entries of the minute the fold keeps the band it has. -/
theorem calendarFold_later {m : Nat} {es : List TariffEntry} (h : ∀ x ∈ es, m < x.start) (b : Band) :
    es.foldl (fun b e => if e.start ≤ m then e.band else b) b = b := by
  induction es generalizing b with
  | nil => rfl
  | cons x rest ih =>
    rw [List.foldl_cons, if_neg (by have := h x List.mem_cons_self; omega)]
    exact ih (fun y hy => h y (List.mem_cons_of_mem x hy)) b

/-- The last entry at or before the minute gives the band (R43). -/
theorem calendarFold_last {m : Nat} {es : List TariffEntry} (asc : ascending (es.map (·.start))) {e : TariffEntry} (he : e ∈ es)
    (hm : e.start ≤ m) (last : ∀ x ∈ es, x.start ≤ m → x.start ≤ e.start) (b : Band) :
    es.foldl (fun b e => if e.start ≤ m then e.band else b) b = e.band := by
  induction es generalizing b with
  | nil => exact absurd he List.not_mem_nil
  | cons x rest ih =>
    obtain ⟨hx, hrest⟩ := List.pairwise_cons.1 (show List.Pairwise (· < ·) (x.start :: rest.map (·.start)) from asc)
    rw [List.foldl_cons]
    rcases List.mem_cons.1 he with rfl | he
    · rw [if_pos hm]
      refine calendarFold_later (fun y hy => ?_) _
      have later := hx y.start (List.mem_map_of_mem hy)
      by_contra c
      have := last y (List.mem_cons_of_mem _ hy) (by omega)
      omega
    · exact ih hrest he (fun y hy => last y (List.mem_cons_of_mem x hy)) _

/-! ### The tally -/

theorem pumpCharges_sum (s : State) :
    (pumpNumbers.map (pumpCharge s)).sum = pumpCharge s 0 + pumpCharge s 1 + pumpCharge s 2 := by
  simp [pumpNumbers, Nat.add_assoc]

theorem judgeAllowance_eq (s : State) :
    judgeAllowance s = { s with
      clock := { s.clock with reachedToday := s.clock.reachedToday || decide (s.gs.allowance ≤ s.clock.tally) }
      events := if s.gs.allowance ≤ s.clock.tally ∧ s.clock.reachedToday = false then s.events ||| flagMask .allowance else s.events } := by
  have clock := judgeAllowance_clock s
  unfold judgeAllowance allowanceSpent at *
  simp only [decide_eq_true_eq] at clock ⊢
  by_cases h : s.gs.allowance ≤ s.clock.tally ∧ s.clock.reachedToday = false
  · rw [if_pos h] at clock ⊢; rw [if_pos h, ← clock]; rfl
  · rw [if_neg h] at clock ⊢; rw [if_neg h, ← clock]

/-- Settles O21: the charge by whether the tally changes, and the band as the fold of the calendar's entries. -/
theorem tallyAndBand : Obligations.TallyAndBand := by
  intro s c weight charge t reached
  have weights : weight = bandWeight s.gs s.clock.band := by
    show _ = bandWeight s.gs c.band
    unfold bandWeight; cases h : c.band <;> simp only [weight, h]
  have charges (p : Fin 3) : charge p = pumpCharge s p := by simp only [charge, weights]; rfl
  have total : t = min 65535 (s.clock.tally + (pumpNumbers.map (pumpCharge s)).sum) := by
    rw [pumpCharges_sum]; simp only [t, charges]; rfl
  refine ⟨fun h => ?_, fun h => ?_, rebandNow_eq s, fun h => if_pos h, fun h asc e he hm last => ?_⟩
  · show chargeTally s = s
    rw [total] at h; exact if_pos h
  · show chargeTally s = _
    unfold chargeTally; rw [if_neg (by rw [← total]; exact h), ← total, judgeAllowance_eq]
    have changed : reached ↔ s.gs.allowance ≤ t ∧ s.clock.reachedToday = false := and_iff_right h
    simp only [changed]; rfl
  · unfold bandNow; rw [if_neg h]; exact calendarFold_last asc he hm last .night

end Sys2Proof.Machine

/-! SET TARIFF, READ TARIFF and the end of a commit (R42 to R45, R176, R194, R197). -/

namespace Sys2Proof.Machine

open Sys2Proof.Safety

theorem exec_setTariff (port : Port) (es : List TariffField) (s : State) :
    exec (.setTariff port es) s = .next (finish (takeRequest port (.setTariff es) s)) := conclude_eq (takeRequest port (.setTariff es)) s

theorem exec_readTariff_result (port : Port) (s : State) :
    exec (.readTariff port) s =
      .next (noteFormed port .readTariff (readTariffNow s) { s with lastResult := some (readTariffNow s) }) :=
  congrArg Host.Outcome.next (takeRequest_refused port .readTariff (readTariffNow s) s (carryOut_readTariff port s) rfl)

/-- The state in which a new calendar's band is judged. -/
def calendarSet (c : List TariffEntry) (s : State) : State := beginCommit { s with store := { s.store with calendar := c } }

theorem setTariffNow_busy (es : List TariffField) {s : State} (h : s.store.commit = true) : setTariffNow es s = (s, plain .busy) := if_pos h

theorem setTariffNow_invalid {es : List TariffField} {s : State} (h : s.store.commit = false) (hl : ¬ CalendarLawful es) :
    setTariffNow es s = (s, plain .invalid) := by
  unfold setTariffNow; rw [if_neg (by simp [h]), calendarOf_none es hl]

theorem setTariffNow_lawful {es : List TariffField} {s : State} (h : s.store.commit = false) (hl : CalendarLawful es) :
    setTariffNow es s =
      (rebandNow (calendarSet (es.map (fun e => ⟨e.start, (bandOfCode e.band).getD .night⟩)) s), plain .done) := by
  unfold setTariffNow; rw [if_neg (by simp [h]), calendarOf_eq es hl]; rfl

theorem setTariff_refused {port : Port} {es : List TariffField} {s : State} {c : ResultCode} (h : setTariffNow es s = (s, plain c))
    (hc : accepts (plain c) = false) : exec (.setTariff port es) s =
      .next (finish (noteFormed port (.setTariff es) (plain c) { s with lastResult := some (plain c) })) := by
  rw [exec_setTariff, finish_refused ((carryOut_setTariff port es s).trans h) hc]

/-- The codes of a lawful calendar's bands are those given. -/
theorem calendar_codes {es : List TariffField} (h : CalendarLawful es) :
    ((es.map (fun e => (⟨e.start, (bandOfCode e.band).getD .night⟩ : TariffEntry))).map (fun e => (e.start, bandCode e.band))) =
      es.map (fun e => (e.start, e.band)) := by
  obtain ⟨-, -, -, -, bands⟩ := h
  rw [List.map_map]
  exact List.map_congr_left fun e he => congrArg (Prod.mk e.start) (bandCode_bandOfCode (bands e he).2)

/-- What the request's bookkeeping leaves of its owner's clock, agenda and store. -/
theorem takeRequest_clock (port : Port) (q : Request) (s : State) : (takeRequest port q s).clock = (carryOut port q s).1.clock := by
  rw [takeRequest_frame]
theorem takeRequest_agenda (port : Port) (q : Request) (s : State) : (takeRequest port q s).agenda = (carryOut port q s).1.agenda := by
  rw [takeRequest_frame]
theorem takeRequest_store (port : Port) (q : Request) (s : State) : (takeRequest port q s).store = (carryOut port q s).1.store := by
  rw [takeRequest_frame]

theorem finish_store (s : State) : (finish s).store = s.store := congrArg Still.store (finish_still s)

/-- Settles O16: the checks in their order, the calendar and its band, and the commit's end. -/
theorem tariffAndCommit : Obligations.TariffAndCommit := by
  intro port es s refused lawful
  refine ⟨fun h => setTariff_refused (setTariffNow_busy es h) rfl, fun h hl => setTariff_refused (setTariffNow_invalid h hl) rfl,
    fun h hl => ?_, ⟨readTariffNow s, exec_readTariff_result port s, rfl, rfl⟩, ?_⟩
  · intro u t b
    have owner : carryOut port (.setTariff es) s =
        (rebandNow (calendarSet (es.map (fun e => ⟨e.start, (bandOfCode e.band).getD .night⟩)) s), plain .done) :=
      (carryOut_setTariff port es s).trans (setTariffNow_lawful h hl)
    have store : u.store = (calendarSet (es.map (fun e => ⟨e.start, (bandOfCode e.band).getD .night⟩)) s).store := by
      show (takeRequest port (.setTariff es) s).store = _
      rw [takeRequest_store, owner, rebandNow_eq]
    have later : t.store = u.store := finish_store u
    have band : bandNow (calendarSet (es.map (fun e => ⟨e.start, (bandOfCode e.band).getD .night⟩)) s) = b := by
      simp only [b, store]; rfl
    refine ⟨exec_setTariff port es s, ?_, ?_, ?_, ?_, ?_, ?_, fun hp => ?_⟩
    · show (finish (takeRequest port (.setTariff es) s)).lastResult = _
      rw [finish_lastResult, takeRequest_lastResult, owner]
    · rw [later, store]; rfl
    · rw [later, store]; rfl
    · rw [later, store]; exact calendar_codes hl
    · show (takeRequest port (.setTariff es) s).clock = _
      rw [takeRequest_clock, owner, rebandNow_eq, band]; rfl
    · show (takeRequest port (.setTariff es) s).agenda = _
      rw [takeRequest_agenda, owner, rebandNow_eq, band]; rfl
    · subst hp; exact takeRequest_district_remote (by rw [owner]; rfl)
  · show Host.Outcome.next (endCommit s) = _
    unfold endCommit; rfl

end Sys2Proof.Machine

/-! Adopted time (R38 to R40) and SET CLOCK (R34, R41). -/

namespace Sys2Proof.Machine

open Sys2Proof.Safety

/-! ### The size of an adoption -/

/-- The difference of two places is the one representative of its class about zero (R38). -/
theorem placeDifference_eq {new old δ : Int} (h1 : -2831155200 ≤ δ) (h2 : δ ≤ 2831155199) (h : (5662310400 : Int) ∣ new - old - δ) :
    placeDifference new old = δ := by
  unfold placeDifference; dsimp only; split <;> omega

theorem isAdjustment_iff {s : State} {d m x : Nat} {timeSet : Bool} {δ : Int} (h1 : -2831155200 ≤ δ) (h2 : δ ≤ 2831155199)
    (h : (5662310400 : Int) ∣
      ((d : Int) * 86400 + m * 60 + x) - ((s.clock.day : Int) * 86400 + s.clock.minute * 60 + s.clock.second) - δ) :
    isAdjustment s d m x timeSet = true ↔ timeSet = false ∧ -60 ≤ δ ∧ δ ≤ 60 ∧ ¬ (δ < 0 ∧ d ≠ s.clock.day) := by
  unfold isAdjustment timePlace
  rw [placeDifference_eq h1 h2 h]
  simp only [Bool.and_eq_true, Bool.not_eq_true', decide_eq_true_eq, decide_eq_false_iff_not, Bool.and_eq_false_iff, ne_eq]; tauto

/-! ### Minute events, the day's end and the rollover -/

theorem minuteEventNow_clock (s : State) : (minuteEventNow s).clock = { s.clock with lastMinute := s.clock.minute } := rfl

theorem minuteEventNow_agenda (s : State) : ∃ xs : List Note, xs.Perm [.fillWindows s.clock.minute, .heatMinute s.clock.minute] ∧
    (minuteEventNow s).agenda = s.agenda ++ [.charge, .reband] ++ xs ++ [.sample] := by
  obtain ⟨xs, hx, hp⟩ := emitFree_agenda_perm [.fillWindows s.clock.minute, .heatMinute s.clock.minute]
    (emit .reband (emit .charge { s with clock := { s.clock with lastMinute := s.clock.minute } }))
  refine ⟨xs, hp, ?_⟩
  unfold minuteEventNow; dsimp only
  rw [emit_agenda, hx]; simp

theorem minuteEventNow_grows (s : State) : Grows s (minuteEventNow s) := by
  have marked : Grows s { s with clock := { s.clock with lastMinute := s.clock.minute } } := grows_of_eq rfl rfl
  exact (((marked.trans (emit_grows _ _)).trans (emit_grows _ _)).trans (emitFree_grows _ _)).trans (emit_grows _ _)

theorem dayEnd_clock (d x : Nat) (s : State) : (dayEnd d x s).clock = { s.clock with minute := 1440, second := 0, ms := 0 } := rfl

theorem dayEnd_agenda (d x : Nat) (s : State) : ∃ xs : List Note, xs.Perm [.fillWindows 1440, .heatWindows 1440] ∧
    (dayEnd d x s).agenda = s.agenda ++ [.charge] ++ xs ++ [.rollTo d x] := by
  obtain ⟨xs, hx, hp⟩ := emitFree_agenda_perm [.fillWindows 1440, .heatWindows 1440]
    (emit .charge { s with clock := { s.clock with minute := 1440, second := 0, ms := 0 } })
  refine ⟨xs, hp, ?_⟩
  unfold dayEnd; dsimp only
  rw [emit_agenda, hx]; simp

theorem dayEnd_grows (d x : Nat) (s : State) : Grows s (dayEnd d x s) := by
  have marked : Grows s { s with clock := { s.clock with minute := 1440, second := 0, ms := 0 } } := grows_of_eq rfl rfl
  exact ((marked.trans (emit_grows _ _)).trans (emitFree_grows _ _)).trans (emit_grows _ _)

theorem rollover_grows (old new : Nat) (s : State) : Grows s (rollover old new s) := by
  rw [rollover_eq]
  exact (((((closeDay_grows old s).trans (newDay_grows old new _)).trans (tallyCleared_grows _)).trans
    (refreshSetpoints_grows _)).trans (emit_grows _ _)).trans (emit_grows _ _)

/-! ### The two adoptions -/

theorem adoptTime_adjusts {d m x : Nat} {b : Bool} {s : State} (h : isAdjustment s d m x b = true) :
    adoptTime d m x b s = adjustTime d m x s := if_pos h

theorem adoptTime_jumps {d m x : Nat} {b : Bool} {s : State} (h : isAdjustment s d m x b = false) :
    adoptTime d m x b s = discontinuity d m x s := if_neg (by simp [h])

theorem adjustTime_dayEnd {d : Nat} (m x : Nat) {s : State} (h : d ≠ s.clock.day) : adjustTime d m x s = dayEnd d x s := if_pos h

theorem adjustTime_sameMinute {d m : Nat} (x : Nat) {s : State} (hd : d = s.clock.day) (hm : m = s.clock.minute) :
    adjustTime d m x s = setTime d m x s := by unfold adjustTime; dsimp only; rw [if_neg (not_not.2 hd), if_pos hm]

theorem adjustTime_minute {d m : Nat} (x : Nat) {s : State} (hd : d = s.clock.day) (hm : m ≠ s.clock.minute)
    (hl : s.clock.lastMinute < m) : adjustTime d m x s = minuteEventNow (setTime d m x s) := by
  unfold adjustTime; dsimp only; rw [if_neg (not_not.2 hd), if_neg hm, if_pos hl]

theorem adjustTime_served {d m : Nat} (x : Nat) {s : State} (hd : d = s.clock.day) (hm : m ≠ s.clock.minute)
    (hl : m ≤ s.clock.lastMinute) : adjustTime d m x s = emit .reband (setTime d m x s) := by
  unfold adjustTime; dsimp only; rw [if_neg (not_not.2 hd), if_neg hm, if_neg (by omega)]

theorem adjustTime_events (d m x : Nat) (s : State) : (adjustTime d m x s).events = s.events := by
  unfold adjustTime; dsimp only; repeat' split
  all_goals rfl

/-- The state of a discontinuity before the day changes. -/
def jumped (d m x : Nat) (s : State) : State := setEvent .discontinuity (setTime d m x s)

/-- A discontinuity announces itself, takes the minute as served, and has the band judged afresh. -/
def jumpAnnounced (m : Nat) (t : State) : State :=
  emit .reband { emit .discontinuity t with clock := { (emit .discontinuity t).clock with lastMinute := m } }

theorem discontinuity_sameDay {d : Nat} (m x : Nat) {s : State} (h : d = s.clock.day) :
    discontinuity d m x s = jumpAnnounced m (jumped d m x s) := by
  unfold discontinuity jumpAnnounced jumped; dsimp only; rw [if_pos h]

theorem discontinuity_otherDay {d : Nat} (m x : Nat) {s : State} (h : d ≠ s.clock.day) :
    discontinuity d m x s = jumpAnnounced m (rollover s.clock.day d (jumped d m x s)) := by
  unfold discontinuity jumpAnnounced jumped; dsimp only; rw [if_neg h]

theorem jumpAnnounced_clock (m : Nat) (t : State) : (jumpAnnounced m t).clock = { t.clock with lastMinute := m } := rfl
theorem jumpAnnounced_book (m : Nat) (t : State) : (jumpAnnounced m t).book = t.book := rfl
theorem jumpAnnounced_agenda (m : Nat) (t : State) : (jumpAnnounced m t).agenda = t.agenda ++ [.discontinuity, .reband] := by
  simp [jumpAnnounced]

theorem jumpAnnounced_grows (m : Nat) (t : State) : Grows t (jumpAnnounced m t) := by
  have marked : Grows (emit .discontinuity t)
      { emit .discontinuity t with clock := { (emit .discontinuity t).clock with lastMinute := m } } := grows_of_eq rfl rfl
  exact ((emit_grows _ _).trans marked).trans (emit_grows _ _)

theorem setTime_grows (d m x : Nat) (s : State) : Grows s (setTime d m x s) := grows_of_eq rfl rfl

theorem discontinuity_grows_jumped (d m x : Nat) (s : State) : Grows (jumped d m x s) (discontinuity d m x s) := by
  by_cases h : d = s.clock.day
  · rw [discontinuity_sameDay m x h]; exact jumpAnnounced_grows m _
  · rw [discontinuity_otherDay m x h]; exact (rollover_grows _ _ _).trans (jumpAnnounced_grows m _)

theorem adoptTime_grows (d m x : Nat) (b : Bool) (s : State) : Grows s (adoptTime d m x b s) := by
  unfold adoptTime; split
  · unfold adjustTime; dsimp only; repeat' split
    · exact dayEnd_grows d x s
    · exact setTime_grows d m x s
    · exact (setTime_grows d m x s).trans (minuteEventNow_grows _)
    · exact (setTime_grows d m x s).trans (emit_grows _ _)
  · exact ((setTime_grows d m x s).trans (setEvent_grows .discontinuity _)).trans (discontinuity_grows_jumped d m x s)

/-- Settles O18: the difference's representative decides, then an adjustment by day and minute, a discontinuity by day. -/
theorem timeAdopted : Obligations.TimeAdopted := by
  intro d m x timeSet s c u
  refine ⟨fun δ h1 h2 h => isAdjustment_iff h1 h2 h, fun h => ?_, fun h => ?_⟩
  · have gives : u = adjustTime d m x s := adoptTime_adjusts h
    rw [gives]
    refine ⟨adjustTime_events d m x s, fun hd hm => ?_, fun hd hm hl => ?_, fun hd hm hl => ?_, fun hd => ?_⟩
    · rw [adjustTime_sameMinute x hd hm, hd, hm]; rfl
    · rw [adjustTime_served x hd hm hl, hd]; rfl
    · rw [adjustTime_minute x hd hm hl, hd]
      exact ⟨rfl, minuteEventNow_agenda (setTime c.day m x s)⟩
    · rw [adjustTime_dayEnd m x hd]
      exact ⟨rfl, dayEnd_agenda d x s⟩
  · have gives : u = discontinuity d m x s := adoptTime_jumps h
    have flagged : eventIsSet .discontinuity u = true := by
      rw [gives]; exact (discontinuity_grows_jumped d m x s).events _ (eventIsSet_setEvent _ _)
    intro s1
    by_cases hd : d = c.day
    · have state : u = jumpAnnounced m (jumped d m x s) := gives.trans (discontinuity_sameDay m x hd)
      refine ⟨?_, ?_, ?_, ?_, ?_, flagged, fun _ => ⟨?_, ?_⟩, fun hd' => absurd hd hd'⟩
      all_goals rw [state]
      case refine_7 => rw [jumpAnnounced_agenda]; rfl
      all_goals rfl
    · have state : u = jumpAnnounced m (rollover s.clock.day d (jumped d m x s)) := gives.trans (discontinuity_otherDay m x hd)
      have clock : u.clock = { (jumped d m x s).clock with
          tally := 0, reachedToday := decide ((jumped d m x s).gs.allowance = 0), lastMinute := m } := by
        rw [state, jumpAnnounced_clock, rollover_clock]
      refine ⟨congrArg Clock.day clock, congrArg Clock.minute clock, congrArg Clock.second clock, congrArg Clock.ms clock,
        congrArg Clock.lastMinute clock, flagged, fun hd' => absurd hd' hd, fun _ => ⟨?_, congrArg Clock.tally clock, ?_⟩⟩
      · rw [state, jumpAnnounced_book]; rfl
      · rw [state, jumpAnnounced_agenda]; rfl

end Sys2Proof.Machine

/-! SET CLOCK (R34, R38, R41), the crystal's counting (R30 to R32) and the silence of the head (R34 to R36). -/

namespace Sys2Proof.Machine

open Sys2Proof.Safety

/-! ### SET CLOCK -/

/-- Trust goes to LOCAL, from any trust but SYNCED (R34, R43). -/
def trustLocal (s : State) : State :=
  { s with
    clock := { s.clock with trust := .local, band := if s.clock.trust = .free then calendarBand s.clock.minute s.store.calendar else s.clock.band }
    events := if s.clock.trust = .local then s.events else s.events ||| flagMask .time }

theorem takeTrust_local {s : State} (h : s.clock.trust ≠ .synced) : takeTrust .local s = trustLocal s := by
  unfold takeTrust trustLocal
  cases ht : s.clock.trust with
  | synced => exact absurd ht h
  | free => simp [bandNow, setEvent]
  | holdover => simp [setEvent]
  | _ => simp only [reduceCtorEq, if_true, if_false]; rw [← ht]

theorem announceTrust_agenda (x : Trust) (s : State) :
    (announceTrust x s).agenda = s.agenda ++ (if s.clock.trust = x then [] else [.evalFill]) := by
  unfold announceTrust; split
  · rw [List.append_nil]
  · rfl

theorem announceTrust_clock (x : Trust) (s : State) : (announceTrust x s).clock = s.clock := by unfold announceTrust; split <;> rfl
theorem announceTrust_book (x : Trust) (s : State) : (announceTrust x s).book = s.book := by unfold announceTrust; split <;> rfl
theorem announceTrust_events (x : Trust) (s : State) : (announceTrust x s).events = s.events := by unfold announceTrust; split <;> rfl

theorem still_trust (s : State) : (still s).trust = s.clock.trust := rfl

theorem setClockNow_synced (d m x : Nat) {s : State} (h : s.clock.trust = .synced) : setClockNow d m x s = (s, plain .timeSynced) := if_pos h

theorem setClockNow_invalid {d m x : Nat} {s : State} (h : s.clock.trust ≠ .synced) (hr : ¬ (d ≤ 65535 ∧ m ≤ 1439 ∧ x ≤ 59)) :
    setClockNow d m x s = (s, plain .invalid) := by unfold setClockNow; rw [if_neg h, if_neg hr]

theorem setClockNow_taken {d m x : Nat} {s : State} (h : s.clock.trust ≠ .synced) (hr : d ≤ 65535 ∧ m ≤ 1439 ∧ x ≤ 59) :
    setClockNow d m x s = (announceTrust s.clock.trust (adoptTime d m x false (trustLocal s)), plain .done) := by
  unfold setClockNow; rw [if_neg h, if_pos hr, takeTrust_local h]

theorem exec_setClock (port : Port) (d m x : Nat) (s : State) :
    exec (.setClock port d m x) s = .next (finish (takeRequest port (.setClock d m x) s)) :=
  conclude_eq (takeRequest port (.setClock d m x)) s

theorem setClock_refused {port : Port} {d m x : Nat} {s : State} {c : ResultCode}
    (h : carryOut port (.setClock d m x) s = (s, plain c)) :
    exec (.setClock port d m x) s =
      .next (finish (noteFormed port (.setClock d m x) (plain c) { s with lastResult := some (plain c) })) := by
  rw [exec_setClock, finish_refused h rfl]

/-- The flags after a request of the cabinet port are as its owner left them. -/
theorem takeRequest_cabinet_events (q : Request) (s : State) : (takeRequest .cabinet q s).events = (carryOut .cabinet q s).1.events := by
  rw [takeRequest_events]; rfl

theorem still_of_takeRequest_cabinet (q : Request) (s : State) :
    (still (finish (takeRequest .cabinet q s))).trust = (carryOut .cabinet q s).1.clock.trust := by
  rw [finish_still, still_trust, takeRequest_clock]

/-- Settles O17: the refusals in their order, and an accepted one as the adoption of the time in LOCAL. -/
theorem setClockTaken : Obligations.SetClockTaken := by
  intro d m x s refused c inRange u
  refine ⟨setClock_refused rfl, fun h => setClock_refused ?_, fun h hr => setClock_refused ?_, fun h hr => ?_⟩
  · exact (carryOut_setClock .cabinet d m x s).trans (setClockNow_synced d m x h)
  · exact (carryOut_setClock .cabinet d m x s).trans (setClockNow_invalid h hr)
  · have owner : carryOut .cabinet (.setClock d m x) s =
        (announceTrust c.trust (adoptTime d m x false (trustLocal s)), plain .done) :=
      (carryOut_setClock .cabinet d m x s).trans (setClockNow_taken h hr)
    obtain ⟨k, r, e⟩ := takeRequest_still .cabinet (.setClock d m x) s
    rw [owner] at e
    have kept : still (finish u) = { still (trustLocal s) with cabinet := k, lastResult := r } := by
      rw [finish_still]; refine e.trans ?_
      rw [announceTrust_still, adoptTime_still]
    have events : u.events = (adoptTime d m x false (trustLocal s)).events := by
      show (takeRequest .cabinet (.setClock d m x) s).events = _
      rw [takeRequest_cabinet_events, owner, announceTrust_events]
    have trust : (adoptTime d m x false (trustLocal s)).clock.trust = .local := by
      rw [← still_trust, adoptTime_still]; rfl
    refine ⟨exec_setClock .cabinet d m x s, ?_, ?_, ?_, ?_, ?_, ?_, fun hl => ?_, ?_, ?_, events, ?_⟩
    · show (finish (takeRequest .cabinet (.setClock d m x) s)).lastResult = _
      rw [finish_lastResult, takeRequest_lastResult, owner]
    · rw [← still_trust, kept]; rfl
    · exact (congrArg Still.rank kept : (still (finish u)).rank = _)
    · exact (congrArg Still.roundPeriod kept : (still (finish u)).roundPeriod = _)
    · exact (congrArg Still.lastOpener kept : (still (finish u)).lastOpener = _)
    · exact (congrArg Still.holdover kept : (still (finish u)).holdover = _)
    · rw [eventIsSet_congr events]
      refine (adoptTime_grows d m x false (trustLocal s)).events _ ?_
      have flagged : (trustLocal s).events = (setEvent .time s).events := if_neg hl
      rw [eventIsSet_congr flagged]; exact eventIsSet_setEvent _ _
    · show (takeRequest .cabinet (.setClock d m x) s).clock = _
      rw [takeRequest_clock, owner, announceTrust_clock]; rfl
    · show (takeRequest .cabinet (.setClock d m x) s).book = _
      rw [takeRequest_book, owner, announceTrust_book]; rfl
    · show (takeRequest .cabinet (.setClock d m x) s).agenda = _
      rw [takeRequest_agenda, owner, announceTrust_agenda, trust]
      simp only [eq_comm (a := Trust.local)]; rfl

end Sys2Proof.Machine

/-! The crystal's counting (R30 to R32). -/

namespace Sys2Proof.Machine

open Sys2Proof.Safety

/-! ### What a counted minute leaves -/

/-- The blocks whose timers the crystal counts, and the crystal, are the same in both states. -/
structure SameBlocks (s t : State) : Prop where
  pumps : t.pumps = s.pumps
  fill : t.fill = s.fill
  valve : t.valve = s.valve
  level : t.level = s.level
  frost : t.frost = s.frost
  crystal : t.crystal = s.crystal

theorem advanceMinute_sameBlocks (s : State) : SameBlocks s (advanceMinute s) := by
  unfold advanceMinute; dsimp only; repeat' split
  all_goals exact ⟨rfl, rfl, rfl, rfl, rfl, rfl⟩

theorem advanceSecond_sameBlocks (s : State) :
    SameBlocks (tickTimers 1 { s with crystal := s.crystal + (1000 - s.clock.ms) }) (advanceSecond s) := by
  unfold advanceSecond; dsimp only; split
  · exact ⟨rfl, rfl, rfl, rfl, rfl, rfl⟩
  · exact advanceMinute_sameBlocks _

theorem advanceToMinute_sameBlocks (s : State) :
    SameBlocks (tickTimers (60 - s.clock.second) { s with crystal := s.crystal + ((60 - s.clock.second) * 1000 - s.clock.ms) })
      (advanceToMinute s) := advanceMinute_sameBlocks _

/-! ### The minute that follows -/

theorem advanceMinute_next {s : State} (h : s.clock.minute < 1439) :
    (s.clock.lastMinute < s.clock.minute + 1 →
      (advanceMinute s).clock =
        { s.clock with minute := s.clock.minute + 1, second := 0, ms := 0, lastMinute := s.clock.minute + 1 } ∧
      ∃ xs : List Note, xs.Perm [.fillWindows (s.clock.minute + 1), .heatMinute (s.clock.minute + 1)] ∧
        (advanceMinute s).agenda = s.agenda ++ [.charge, .reband] ++ xs ++ [.sample]) ∧
    (s.clock.minute + 1 ≤ s.clock.lastMinute →
      (advanceMinute s).clock = { s.clock with minute := s.clock.minute + 1, second := 0, ms := 0 } ∧
      (advanceMinute s).agenda = s.agenda) := by
  refine ⟨fun hl => ?_, fun hl => ?_⟩
  · have gives : advanceMinute s =
        minuteEventNow { s with clock := { s.clock with minute := s.clock.minute + 1, second := 0, ms := 0 } } := by
      unfold advanceMinute; dsimp only; rw [if_pos h, if_pos hl]
    rw [gives]
    exact ⟨rfl, minuteEventNow_agenda { s with clock := { s.clock with minute := s.clock.minute + 1, second := 0, ms := 0 } }⟩
  · have gives : advanceMinute s = { s with clock := { s.clock with minute := s.clock.minute + 1, second := 0, ms := 0 } } := by
      unfold advanceMinute; dsimp only; rw [if_pos h, if_neg (by omega)]
    rw [gives]; exact ⟨rfl, rfl⟩

theorem advanceMinute_dayEnd {s : State} (h : 1439 ≤ s.clock.minute) :
    (advanceMinute s).clock = { s.clock with minute := 1440, second := 0, ms := 0 } ∧
      ∃ xs : List Note, xs.Perm [.fillWindows 1440, .heatWindows 1440] ∧
        (advanceMinute s).agenda = s.agenda ++ [.charge] ++ xs ++ [.rollTo ((s.clock.day + 1) % 65536) 0] := by
  have gives : advanceMinute s = dayEnd ((s.clock.day + 1) % 65536) 0 s := by unfold advanceMinute; rw [if_neg (by omega)]
  rw [gives]
  exact ⟨rfl, dayEnd_agenda _ 0 s⟩

/-- The new day's book, then the minute event of minute 0 (R32). -/
theorem takeRollTo_agenda (d x : Nat) (s : State) : ∃ xs : List Note, xs.Perm [.fillWindows 0, .heatMinute 0] ∧
    (takeRollTo d x s).agenda = (rollover s.clock.day d
      { s with clock := { s.clock with day := d, minute := 0, second := x, ms := 0, lastMinute := 0 } }).agenda ++ [.reband] ++ xs ++
        [.sample] := by
  unfold takeRollTo; dsimp only
  generalize rollover s.clock.day d { s with clock := { s.clock with day := d, minute := 0, second := x, ms := 0, lastMinute := 0 } } = t
  obtain ⟨xs, hx, hp⟩ := emitFree_agenda_perm [.fillWindows 0, .heatMinute 0] (emit .reband t)
  exact ⟨xs, hp, by rw [emit_agenda, hx]; rfl⟩

theorem takeRollTo_clock (d x : Nat) (s : State) : (takeRollTo d x s).clock =
    { s.clock with day := d, minute := 0, second := x, ms := 0, lastMinute := 0, tally := 0,
                   reachedToday := decide (s.gs.allowance = 0) } := by
  unfold takeRollTo; dsimp only
  rw [emit_clock, emitFree_clock, emit_clock, rollover_clock]

theorem takeRollTo_book (d x : Nat) (s : State) : (takeRollTo d x s).book = (rollover s.clock.day d
    { s with clock := { s.clock with day := d, minute := 0, second := x, ms := 0, lastMinute := 0 } }).book := by
  unfold takeRollTo; dsimp only
  rw [emit_book, emitFree_book, emit_book]

/-- Settles O19: the timers are counted, then the minute is counted on, ended or rolled over. -/
theorem crystalCounts : Obligations.CrystalCounts := by
  intro s c passed
  have passed_of (n k : Nat) {u : State} (h : SameBlocks (tickTimers n { s with crystal := k }) u) : passed n u := by
    refine ⟨fun p => ⟨?_, ?_⟩, h.valve, h.level, ?_, fun k => ⟨?_, ?_⟩⟩
    · rw [h.pumps, tickTimers_pump]; rfl
    · rw [h.fill]; exact trio_get_map _ _ p
    · rw [h.frost]; rfl
    · rw [h.frost]; exact octo_get_map _ _ k
    · rw [h.frost]; exact octo_get_map _ _ k
  have second := advanceSecond_sameBlocks s
  have minute := advanceToMinute_sameBlocks s
  refine ⟨conclude_eq advanceSecond s, conclude_eq advanceToMinute s, passed_of 1 _ second, second.crystal, passed_of _ _ minute,
    minute.crystal, fun h => ?_, fun i u hu => ?_, fun d x => ?_⟩
  · intro u
    have gives : u = { tickTimers 1 { s with crystal := s.crystal + (1000 - s.clock.ms) } with
        clock := { s.clock with second := s.clock.second + 1, ms := 0 } } := if_pos h
    rw [gives]; exact ⟨rfl, rfl⟩
  · obtain ⟨t, rfl, clock, agenda, gives⟩ : ∃ t, u = advanceMinute t ∧ t.clock = c ∧ t.agenda = s.agenda ∧ exec i s = .next (finish u) := by
      rcases hu with ⟨rfl, rfl⟩ | ⟨rfl, h, rfl⟩
      · exact ⟨_, rfl, rfl, rfl, conclude_eq advanceToMinute s⟩
      · exact ⟨_, if_neg (Nat.not_lt.2 h), rfl, rfl, conclude_eq advanceSecond s⟩
    rw [← clock, ← agenda]
    exact ⟨gives, advanceMinute_next, advanceMinute_dayEnd⟩
  · exact ⟨takeRollTo_clock d x s, takeRollTo_book d x s, takeRollTo_agenda d x s⟩

end Sys2Proof.Machine

/-! The silence of the head: SYNCED to HOLDOVER, and HOLDOVER to FREE (R34 to R36, R162, R175, R179). -/

namespace Sys2Proof.Machine

open Sys2Proof.Safety

/-- The state in which the watch has expired, before the change of trust (R35; log entry 9). -/
def watchOver (s : State) : State :=
  { reachInstant (watchEnd s) s with clock := { (reachInstant (watchEnd s) s).clock with holdover := 0 } }

theorem enterHoldover_expires {s : State} (h : s.clock.trust = .synced) (hw : watchExpires s = true) :
    enterHoldover s = changeTrust .holdover (watchOver s) := if_pos ⟨h, hw⟩

theorem enterHoldover_stands {s : State} (h : s.clock.trust ≠ .synced ∨ ¬ watchExpires s = true) : enterHoldover s = s :=
  if_neg fun c => h.elim (fun x => x c.1) (fun x => x c.2)

theorem watchExpires_iff (s : State) : watchExpires s = true ↔ watchEnd s < s.crystal + (1000 - s.clock.ms) := decide_eq_true_iff

/-- Trust leaves SYNCED: TIME is set and the link loses the synchrony (R34, R162, R175, R179). -/
theorem takeTrust_leaves {x : Trust} {s : State} (h : s.clock.trust = .synced) (hx : x ≠ .synced) (hf : x ≠ .free) :
    takeTrust x s = loseSync (setEvent .time { s with clock := { s.clock with trust := x } }) := by
  unfold takeTrust; dsimp only
  rw [if_neg (by rw [h]; exact hx), if_pos h, if_neg (by rw [h]; rintro (c | c); exacts [absurd c nofun, hf c])]

theorem announceTrust_keeps_link (x : Trust) (s : State) : (announceTrust x s).link = s.link := by unfold announceTrust; split <;> rfl

/-- A frame due that is no ANSWER outlives the loss of synchrony (R162). -/
theorem loseSync_frameDue (s : State) (d : FrameDue) :
    (loseSync s).link.frameDue = some d ↔ s.link.frameDue = some d ∧ d.content ≠ .answer := by
  show s.link.frameDue.filter (fun f => decide (f.content ≠ .answer)) = some d ↔ _
  rw [Option.filter_eq_some_iff, decide_eq_true_eq]

theorem countHoldover_holdover {s : State} (h : s.clock.trust = .holdover) :
    countHoldover s = judgeHoldover { s with clock := { s.clock with holdover := min 255 (s.clock.holdover + 1) } } := if_pos h

theorem countHoldover_stands {s : State} (h : s.clock.trust ≠ .holdover) : countHoldover s = s := if_neg h

/-- The state in HOLDOVER, before the link loses the synchrony. -/
def heldOver (s : State) : State := setEvent .time { watchOver s with clock := { (watchOver s).clock with trust := .holdover } }

theorem still_holdover (s : State) : (still s).holdover = s.clock.holdover := rfl
theorem still_crystal (s : State) : (still s).crystal = s.crystal := rfl
theorem still_remote (s : State) : (still s).remote = s.remote := rfl
theorem still_line (s : State) : (still s).line = s.link.line := rfl

/-- A change of trust leaves the trust it names, and the holdover count. -/
theorem changeTrust_trust (x : Trust) (s : State) : (still (changeTrust x s)).trust = x := by
  obtain ⟨r, l, e⟩ := takeTrust_still x s
  unfold changeTrust; rw [announceTrust_still, e]

theorem changeTrust_holdover (x : Trust) (s : State) : (still (changeTrust x s)).holdover = s.clock.holdover := by
  obtain ⟨r, l, e⟩ := takeTrust_still x s
  unfold changeTrust; rw [announceTrust_still, e]; rfl

theorem judgeHoldover_holdover (s : State) : (still (judgeHoldover s)).holdover = s.clock.holdover := by
  unfold judgeHoldover; split
  · exact changeTrust_holdover .free s
  · rfl

/-- Settles O20: the watch's expiry, and a further round by whether the count has reached the limit. -/
theorem holdoverCounts : Obligations.HoldoverCounts := by
  intro s c ended expires
  have watchEnd_eq : watchEnd s = ended := by
    unfold watchEnd; cases h : s.clock.lastOpener <;> simp only [ended, c, h]
  have watch : watchExpires s = true ↔ expires := by rw [watchExpires_iff, watchEnd_eq]
  refine ⟨fun ht hw => ?_, fun h => ?_, fun ht => ?_, fun h => ?_⟩
  · intro u
    have gives : u = announceTrust .synced (loseSync (heldOver s)) := by
      show enterHoldover s = _
      rw [enterHoldover_expires ht (watch.2 hw)]
      have synced : (watchOver s).clock.trust = .synced := ht
      unfold changeTrust; rw [takeTrust_leaves (x := .holdover) synced nofun nofun, synced]; rfl
    have kept : still (finish u) = still (loseSync (heldOver s)) := by rw [finish_still, gives, announceTrust_still]
    have link : u.link = (loseSync (heldOver s)).link := by rw [gives, announceTrust_keeps_link]
    have due (d : FrameDue) : u.link.frameDue = some d ↔ s.link.frameDue = some d ∧ d.content ≠ .answer := by
      rw [link]; exact loseSync_frameDue (heldOver s) d
    refine ⟨conclude_eq enterHoldover s, ?_, ?_, ?_, ?_, fun hl => ⟨?_, by rw [link]; rfl⟩, fun d hd => ((due d).1 hd).2,
      fun d hd hc => (due d).2 ⟨hd, hc⟩, ?_⟩
    · rw [← still_trust, kept]; rfl
    · rw [← still_holdover, kept]; rfl
    · rw [← still_crystal, kept, ← watchEnd_eq]; rfl
    · rw [← still_remote, kept]; rfl
    · rw [← still_line, kept]; exact if_pos hl
    · rw [gives, eventIsSet_congr (announceTrust_events _ _)]; exact eventIsSet_setEvent .time _
  · rw [show exec .holdoverEntry s = .next (finish (enterHoldover s)) from conclude_eq enterHoldover s,
      enterHoldover_stands (h.imp id (mt watch.1))]
  · intro n
    refine ⟨_, conclude_eq countHoldover s, ?_, fun hn => ?_, fun hn => ?_⟩
    · rw [← still_holdover, finish_still, countHoldover_holdover ht, judgeHoldover_holdover]
    · have stands : countHoldover s = { s with clock := { s.clock with holdover := n } } := by
        rw [countHoldover_holdover ht]; exact if_neg fun c => absurd c.2 (Nat.not_le.2 hn)
      rw [← still_trust, finish_still, stands]; exact ht
    · have freed : countHoldover s = changeTrust .free { s with clock := { s.clock with holdover := n } } := by
        rw [countHoldover_holdover ht]; exact if_pos ⟨ht, hn⟩
      rw [← still_trust, finish_still, freed]; exact changeTrust_trust _ _
  · rw [show exec .holdoverRound s = .next (finish (countHoldover s)) from conclude_eq countHoldover s, countHoldover_stands h]

end Sys2Proof.Machine

/-! What the part shows: the REPORT sections (R165 to R168) and the seven parts of the tower status record (R187), against the layouts of
the model. -/

namespace Sys2Proof.Machine

open Sys2Proof.Safety Wire

/-! ### Lengths -/

@[simp] theorem length_flag (b : Bool) : (flag b).length = 1 := rfl
@[simp] theorem length_optU8 (o : Option Nat) : (optU8 o).length = 1 := by cases o <;> rfl
@[simp] theorem length_optU16 (o : Option Nat) : (optU16 o).length = 2 := by cases o <;> rfl
@[simp] theorem length_optS16 (o : Option Int) : (optS16 o).length = 2 := by cases o <;> rfl

/-- Entries of one width. -/
theorem length_flatMap_const {α : Type} {f : α → List Byte} {k : Nat} (h : ∀ a, (f a).length = k) (l : List α) :
    (l.flatMap f).length = k * l.length := by
  induction l with
  | nil => rfl
  | cons a l ih => rw [List.flatMap_cons, List.length_append, h, ih, List.length_cons]; ring

@[simp] theorem length_systemBytes (s : State) (n : Nat) : (systemBytes s n).length = 2 := by
  unfold systemBytes; split <;> simp

@[simp] theorem length_eventBytes (e : BitVec 17) : (eventBytes e).length = 3 := rfl

@[simp] theorem length_ordersSection (s : State) : (ordersSection s).length = 40 := by
  simp [ordersSection, allFillStates, allHolds]

/-! ### The sections of a REPORT -/

theorem countFill_eq (s : State) (p : FillRecord → Bool) :
    countFill s p = s.book.records.countP (fun r => match r.body with
      | .fill f => r.origin ≠ .system && p f
      | _ => false) := by
  unfold countFill; rw [List.countP_eq_length_filter] <;> rfl

/-- Settles O33: each section is the model's, with its counts as counts over the book. -/
theorem reportCarriesSections : Obligations.ReportCarriesSections := by
  intro s byte two code yes count fills holds system counts
  have codes : code = optU8 := funext fun x => by cases x <;> rfl
  have systems (n : Nat) : system n = systemBytes s n := by
    simp only [system, codes]; unfold systemBytes; cases findFill n s <;> rfl
  have counted (st : FillState) (h : Option Hold) :
      count (fills st h) = u8 (countFill s (fun f => f.state = st && (h.isNone || f.hold = h))) := by
    refine congrArg u8 ?_
    rw [countFill_eq]
    refine congrArg (fun p => s.book.records.countP p) (funext fun r => ?_)
    simp only [fills]
    cases r.body with
    | fill f => simp [Bool.and_assoc]
    | _ => rfl
  have countedState (st : FillState) : count (fills st none) = u8 (countFill s (fun f => f.state = st)) := by
    rw [counted]; simp
  have countedHold (st : FillState) (h : Hold) :
      count (fills st (some h)) = u8 (countFill s (fun f => f.state = st && f.hold = some h)) := by
    rw [counted]; simp
  refine ⟨fun n round contents => rfl, ?_, rfl, ?_, rfl, ?_, length_ordersSection s, ?_, rfl⟩
  · show optU16 (filtered s) ++ optS16 s.level.trend = _
    refine congrArg₂ (· ++ ·) ?_ ?_
    · cases filtered s <;> rfl
    · cases s.level.trend <;> rfl
  · rw [codes]; rfl
  · show ordersSection s = _
    simp only [countedState, countedHold, systems]
    simp only [count, List.countP_eq_length_filter]
    unfold ordersSection allFillStates
    simp only [List.flatMap_cons, List.flatMap_nil, List.append_nil, List.append_assoc]
    rfl
  · have allowance : u16 (if s.remote.unlocked then s.gs.allowance else 0) =
        if s.remote.unlocked then two s.gs.allowance else [0, 0] := by
      split
      · rfl
      · decide
    show u16 s.clock.tally ++ u16 (if s.remote.unlocked then s.gs.allowance else 0) ++ flag s.clock.reachedToday ++ _ ++ _ = _
    rw [allowance, flag_eq]; rfl

end Sys2Proof.Machine

/-! READ TOWER: each part's layout and length, and what a locked link carries (R177, R187). -/

namespace Sys2Proof.Machine

open Sys2Proof.Safety Wire

theorem exec_readTower_result (port : Port) (x : Sample) (n : Nat) (s : State) :
    exec (.readTower port x n) s =
      .next (noteFormed port (.readTower n) (towerShown port (takeSample x s) (readTowerNow n (takeSample x s)))
        { takeSample x s with lastResult := some (towerShown port (takeSample x s) (readTowerNow n (takeSample x s))) }) :=
  congrArg Host.Outcome.next (takeRequest_refused port (.readTower n) _ (takeSample x s) (carryOut_readTower port n (takeSample x s)) rfl)

/-! ### Over the link -/

theorem towerShown_code (port : Port) (s : State) (r : Response) : (towerShown port s r).code = r.code := by
  unfold towerShown; repeat' split
  all_goals rfl

theorem towerShown_masked (port : Port) (s : State) (r : Response) : (towerShown port s r).masked = r.masked := by
  unfold towerShown; repeat' split
  all_goals rfl

theorem towerShown_open {port : Port} {s : State} (r : Response) (h : port = .cabinet ∨ s.remote.unlocked = true) :
    towerShown port s r = r := by
  cases port with
  | cabinet => rfl
  | district => exact if_pos (h.resolve_left nofun)

theorem towerShown_locked {s : State} (r : Response) (h : s.remote.unlocked = false) :
    towerShown .district s r = { r with body := r.masked } := if_neg (by simp [h])

/-! ### Lengths -/

theorem length_part1 (s : State) (a : Nat) : (part1 s a).length = 16 := by simp [part1]

theorem length_part2 (s : State) : (part2 s).length = 24 := by
  have pump (p : Fin 3) : (pumpPart s p).length = 7 := by simp [pumpPart]
  simp [part2, pump, pumpNumbers]

@[simp] theorem length_claimBytes (c : Claim) : (claimBytes c).length = 5 := by simp [claimBytes]

theorem length_reclaimBytes (o : Option Reclaim) :
    (reclaimBytes o).length = 4 + o.elim 0 (·.victims.length) := by
  cases o with
  | none => rfl
  | some c => simp [reclaimBytes, length_flatMap_const (f := fun v => u8 (claimantCode v)) (k := 1) (fun _ => rfl)]; omega

theorem length_part3 (s : State) (limit : Nat) :
    (part3 s limit).length = 6 + 5 * s.arbiter.waiting.length + 6 * s.arbiter.granted.length + (reclaimBytes s.arbiter.reclaim).length := by
  simp only [part3, List.length_append, length_u8, length_flatMap_const length_claimBytes,
    length_flatMap_const (f := fun c => claimBytes c ++ u8 (claimStateCode c)) (k := 6) (fun c => by simp)]
  omega

theorem length_part4 (s : State) : (part4 s).length = 14 := by simp [part4]

theorem length_part5 (s : State) : (part5 s).length = 70 := by
  have circuit (c : Fin 8) : (circuitPart s c).length = 5 := by simp [circuitPart]
  have probe (q : Probe) : (u8 (conditionCode q.condition) ++ optS16 q.reading).length = 3 := by simp
  have eight : s.frost.probes.toList.length = 8 := rfl
  simp only [part5, List.length_append, length_flatMap_const probe, length_flatMap_const circuit, eight, length_u8, length_optU8,
    length_u16, length_flag]
  rfl

theorem length_answerStatus (o : Option Answer) : (answerStatus o).length = 6 := by
  have refused (b : Option Byte) : (refusedBytes b).length = 2 := by cases b <;> rfl
  cases o <;> simp [answerStatus, refused]

theorem length_part6 (s : State) : (part6 s).length = 16 + 2 * s.link.plan.length := by
  simp only [part6, List.length_append, length_u8, length_optU8, length_optU16, length_flag, length_answerStatus,
    length_flatMap_const (f := fun e : Nat × Nat => u8 e.1 ++ u8 e.2) (k := 2) (fun _ => rfl)]
  omega

theorem length_part7 (s : State) : (part7 s).length = 48 := by simp [part7]

/-- A part's layout, with the two guard-set values as they are carried. -/
def towerPart (part : Nat) (s : State) (allowance limit : Nat) : List Byte :=
  match part with
  | 1 => part1 s allowance
  | 2 => part2 s
  | 3 => part3 s limit
  | 4 => part4 s
  | 5 => part5 s
  | 6 => part6 s
  | _ => part7 s

theorem readTowerNow_part {part : Nat} (s : State) (h1 : 1 ≤ part) (h7 : part ≤ 7) :
    readTowerNow part s =
      { code := .done, body := towerPart part s s.gs.allowance s.gs.supplyLimit, masked := towerPart part s 0 0 } := by
  interval_cases part <;> rfl

/-- The two values do not change a part's length. -/
theorem length_towerPart (part : Nat) (s : State) (allowance limit : Nat) :
    (towerPart part s allowance limit).length = (towerPart part s 0 0).length := by
  unfold towerPart; split
  · rw [length_part1, length_part1]
  · rfl
  · rw [length_part3, length_part3]
  all_goals rfl

theorem readTowerNow_invalid {part : Nat} (s : State) (h : part = 0 ∨ 8 ≤ part) : readTowerNow part s = plain .invalid := by
  unfold readTowerNow; split <;> first | omega | rfl

/-- The part shown over a port, either whole or with the two values as 0. -/
theorem towerShown_body (port : Port) (s : State) (r : Response) :
    (towerShown port s r).body = r.body ∨ (towerShown port s r).body = r.masked := by
  unfold towerShown; repeat' split
  · exact .inl rfl
  · exact .inl rfl
  · exact .inr rfl

/-- Settles O13: each part is the model's, and the lock chooses between its two bodies. -/
theorem readTowerReturnsPart : Obligations.ReadTowerReturnsPart := by
  refine ⟨?_, rfl, rfl, rfl, rfl, rfl, rfl, rfl, fun _ => rfl, fun _ => rfl, rfl, rfl, rfl, rfl, rfl, rfl, rfl⟩
  intro port x part s gives byte two three yes bit code wide signed
  have codes : code = optU8 := funext fun v => by cases v <;> rfl
  have wides : wide = optU16 := funext fun v => by cases v <;> rfl
  have signeds : signed = optS16 := funext fun v => by cases v <;> rfl
  clear_value code wide signed
  subst codes wides signeds
  intro c a l claim frozen time pumps supply guarding frost linked book bytes
  have gives_part : gives (towerShown port (takeSample x s) (readTowerNow part (takeSample x s))) := exec_readTower_result port x part s
  have supplies (limit : Nat) : supply limit = part3 (takeSample x s) limit := by
    show _ = _ ++ reclaimBytes s.arbiter.reclaim
    simp only [supply, a]
    cases s.arbiter.reclaim <;> rfl
  have links : linked = part6 (takeSample x s) := by
    show _ = _ ++ answerStatus s.remote.answer
    simp only [linked]
    refine congrArg₂ (· ++ ·) rfl ?_
    cases s.remote.answer with
    | none => rfl
    | some r => cases hr : r.refused <;> simp only [answerStatus, refusedBytes, hr] <;> rfl
  refine ⟨fun h => ?_, fun h1 h7 => ⟨_, gives_part, ?_⟩⟩
  · have invalid : towerShown port (takeSample x s) (readTowerNow part (takeSample x s)) = plain .invalid := by
      rw [readTowerNow_invalid _ h]; unfold towerShown; repeat' split
      all_goals rfl
    rwa [invalid] at gives_part
  · have parts (allowance limit : Nat) : towerPart part (takeSample x s) allowance limit = bytes allowance limit := by
      have seven : part = 1 ∨ part = 2 ∨ part = 3 ∨ part = 4 ∨ part = 5 ∨ part = 6 ∨ part = 7 := by omega
      rcases seven with rfl | rfl | rfl | rfl | rfl | rfl | rfl
      · rfl
      · rfl
      · exact (supplies limit).symm
      · rfl
      · rfl
      · exact links.symm
      · rfl
    have read := readTowerNow_part (takeSample x s) h1 h7
    rw [parts, parts] at read
    have masked : (towerShown port (takeSample x s) (readTowerNow part (takeSample x s))).masked = bytes 0 0 := by
      rw [towerShown_masked, read]
    have length (allowance limit : Nat) : (bytes allowance limit).length = (bytes 0 0).length := by
      rw [← parts, ← parts]; exact length_towerPart part _ _ _
    have body : (towerShown port (takeSample x s) (readTowerNow part (takeSample x s))).body.length = (bytes 0 0).length := by
      rcases towerShown_body port (takeSample x s) (readTowerNow part (takeSample x s)) with e | e
      · rw [e, read]; exact length _ _
      · rw [e, read]
    refine ⟨by rw [towerShown_code, read], ?_, by rw [masked, body], masked, fun h => ?_, fun hp hu => ?_⟩
    · rw [body, ← parts]
      clear_value bytes
      have seven : part = 1 ∨ part = 2 ∨ part = 3 ∨ part = 4 ∨ part = 5 ∨ part = 6 ∨ part = 7 := by omega
      rcases seven with rfl | rfl | rfl | rfl | rfl | rfl | rfl
      · exact length_part1 _ _
      · exact length_part2 _
      · show (part3 (takeSample x s) 0).length = _
        rw [length_part3, length_reclaimBytes, ← Nat.add_assoc]
        show _ + s.arbiter.reclaim.elim 0 _ = _
        cases s.arbiter.reclaim <;> rfl
      · exact length_part4 _
      · exact length_part5 _
      · exact length_part6 _
      · exact length_part7 _
    · rw [towerShown_open _ (show port = .cabinet ∨ (takeSample x s).remote.unlocked = true from h), read]; rfl
    · subst hp; rw [towerShown_locked _ (show (takeSample x s).remote.unlocked = false from hu)]

end Sys2Proof.Machine

/-! Slots and sending on the district link (R159 to R164, R175, R177). -/

namespace Sys2Proof.Machine

open Sys2Proof.Safety Wire

theorem exec_slotStart (slot : Nat) (s : State) : exec (.slotStart slot) s = .next (beginSlot slot s) := rfl
theorem exec_instantOfSending (s : State) : exec .instantOfSending s = .next (sendDue s) := rfl
theorem exec_transmissionEnd (s : State) : exec .transmissionEnd s = .next (endSending s) := rfl

/-! ### A slot begins -/

/-- The start of a slot of a round. -/
def slotAt (r : Round) (slot : Nat) : Nat := r.start + slot * r.slotLength

/-- The slot has begun, and the crystal stands at its start. -/
def slotBegun (slot : Nat) (r : Round) (s : State) : State :=
  reachInstant (slotAt r slot) { s with link := { s.link with round := some { r with begun := slot + 1 } } }

/-- A slot that has not begun leaves what it is: at a plan entry the report due, at the answer slot the answer. -/
theorem beginSlot_eq {slot : Nat} {r : Round} {s : State} (hr : s.link.round = some r) (h1 : r.begun ≤ slot) (h2 : slot ≤ 31) :
    beginSlot slot s =
      match s.link.plan.find? (fun e => e.1 = slot) with
      | some e =>
        match reportDue (slotBegun slot r s) e.2 with
        | some q => holdFrame slot (slotAt r slot) (.report (some e.2) r.count) (buildReport (slotBegun slot r s) e.2 r.count q)
            (slotBegun slot r s)
        | none => slotBegun slot r s
      | none =>
        if s.link.answerSlot = some slot then startAnswerSlot slot (slotAt r slot) (slotBegun slot r s) else slotBegun slot r s := by
  unfold beginSlot; rw [hr]; dsimp only; rw [if_pos ⟨h1, h2⟩] <;> rfl

theorem beginSlot_stands {slot : Nat} {s : State}
    (h : s.link.round = none ∨ 31 < slot ∨ ∃ r, s.link.round = some r ∧ slot < r.begun) : beginSlot slot s = s := by
  unfold beginSlot
  cases hr : s.link.round with
  | none => rfl
  | some r =>
    dsimp only
    refine if_neg fun c => ?_
    rcases h with h | h | ⟨r', h, hb⟩
    · rw [hr] at h; exact absurd h nofun
    · omega
    · rw [hr] at h; obtain rfl := Option.some.inj h; omega

theorem reportDue_some {s : State} {n : Nat} {x : Record} {q : ReportRecord} (h : s.clock.trust = .synced ∧ s.link.line = .quiet)
    (hx : findRecord n s = some x) (hb : x.body = .report q) : reportDue s n = some q := by
  obtain ⟨k, o, v, b⟩ := x
  obtain rfl : b = .report q := hb
  unfold reportDue; rw [if_pos h, hx]

theorem reportDue_none {s : State} {n : Nat}
    (h : ¬ (s.clock.trust = .synced ∧ s.link.line = .quiet) ∨ ∀ x q, findRecord n s = some x → x.body ≠ .report q) :
    reportDue s n = none := by
  unfold reportDue
  by_cases free : s.clock.trust = .synced ∧ s.link.line = .quiet
  · rw [if_pos free]
    cases hx : findRecord n s with
    | none => rfl
    | some x =>
      obtain ⟨k, o, v, b⟩ := x
      cases b with
      | report q => exact absurd rfl ((h.resolve_left (not_not.2 free)) _ q hx)
      | _ => rfl
  · rw [if_neg free]

theorem startAnswerSlot_held {slot start : Nat} {s : State} {a : Answer} (ha : s.remote.answer = some a) (hh : a.heldOver = false)
    (h : s.clock.trust = .synced ∧ s.link.line = .quiet) :
    startAnswerSlot slot start s = holdFrame slot start .answer (buildAnswer s a) s := by
  unfold startAnswerSlot; rw [ha]; exact if_pos ⟨hh, h⟩

theorem startAnswerSlot_stands {slot start : Nat} {s : State} (h : s.remote.answer = none ∨
    (∃ a, s.remote.answer = some a ∧ a.heldOver = true) ∨ ¬ (s.clock.trust = .synced ∧ s.link.line = .quiet)) :
    startAnswerSlot slot start s = s := by
  unfold startAnswerSlot
  cases ha : s.remote.answer with
  | none => rfl
  | some a =>
    refine if_neg fun c => ?_
    rcases h with h | ⟨b, hb, ht⟩ | h
    · rw [ha] at h; exact absurd h nofun
    · rw [ha] at hb; obtain rfl := Option.some.inj hb; rw [ht] at c; exact absurd c.1 nofun
    · exact h c.2

/-- The parts that a frame held does not touch. -/
structure SlotParts (s t : State) : Prop where
  round : t.link.round = s.link.round
  book : t.book = s.book
  remote : t.remote = s.remote
  sequence : t.link.sequence = s.link.sequence

theorem beginSlot_parts {slot : Nat} {r : Round} {s : State} (hr : s.link.round = some r) (h1 : r.begun ≤ slot) (h2 : slot ≤ 31) :
    SlotParts (slotBegun slot r s) (beginSlot slot s) := by
  have answer (t : State) : SlotParts t (startAnswerSlot slot (slotAt r slot) t) := by
    unfold startAnswerSlot; repeat' split
    all_goals exact ⟨rfl, rfl, rfl, rfl⟩
  rw [beginSlot_eq hr h1 h2]; repeat' split
  all_goals first
    | exact answer _
    | exact ⟨rfl, rfl, rfl, rfl⟩

/-- What is reported is no matter of the crystal. -/
theorem reportBody_slotBegun (slot : Nat) (r : Round) (s : State) (n round : Nat) (l : List Selector) :
    reportBody (slotBegun slot r s) n round l = reportBody s n round l := by
  have sections : section_ (slotBegun slot r s) = section_ s := funext fun x => by cases x <;> rfl
  unfold reportBody; rw [sections]

theorem answerBody_eq (s : State) (a : Answer) : answerBody s a =
    [a.code, BitVec.ofNat 8 (resultCode a.response.code)] ++ refusedBytes a.refused ++
      (if s.remote.unlocked then a.response.body else a.response.masked) := rfl

/-! ### Sending -/

theorem sendDue_some {s : State} {f : FrameDue} (h : s.link.frameDue = some f) :
    sendDue s =
      let s1 := reachInstant f.due { s with link := { s.link with frameDue := none } }
      if s.clock.trust = .synced ∧ s.link.line = .quiet then
        { s1 with link := { s1.link with line := .sending, sending := some f } }
      else s1 := by
  unfold sendDue; rw [h] <;> rfl

theorem endSending_answer {s : State} {f : FrameDue} (hl : s.link.line = .sending) (hf : s.link.sending = some f)
    (hc : f.content = .answer) :
    endSending s = { s with link := { s.link with line := .quiet, sending := none }, remote := { s.remote with answer := none } } := by
  unfold endSending; simp only [hl, hf, hc]

/-- The state in which a report sent is recorded. -/
def reportSent (s : State) : State := { s with link := { s.link with line := .quiet, sending := none } }

theorem endSending_report {s : State} {f : FrameDue} {n : Option Nat} {round : Nat} (hl : s.link.line = .sending)
    (hf : s.link.sending = some f) (hc : f.content = .report n round) :
    endSending s =
      let s2 := n.elim (reportSent s) (fun k => setLastSent k round (reportSent s))
      { s2 with link := { s2.link with sequence := (s2.link.sequence + 1) % 256 } } := by
  unfold endSending; simp only [hl, hf, hc]; cases n <;> rfl

theorem setLastSent_finds {k round : Nat} {s : State} {r : Record} {q : ReportRecord} (hr : findRecord k s = some r)
    (hb : r.body = .report q) :
    findRecord k (setLastSent k round s) = some { r with body := .report { q with lastSent := some round } } := by
  have kept (x : Record) (hx : x.number = k) : (match x.body with
      | .report q => { x with body := .report { q with lastSent := some round } }
      | _ => x : Record).number = k := by split <;> exact hx
  have found := mapRecord_finds k _ s.book.records r kept hr
  rw [hb] at found
  exact found

/-- Settles O32: a slot by what stands in it, the instant of sending by trust and line, and the end by what was sent. -/
theorem slotsSendFrames : Obligations.SlotsSendFrames := by
  intro s free address
  refine ⟨fun slot r hr h1 h2 => ?_, fun slot h => ?_, fun f hf => ?_, fun f hl hf => ?_⟩
  · have parts := beginSlot_parts hr h1 h2
    refine ⟨beginSlot slot s, rfl, parts.round, fun n hn => ⟨fun x q hx hb hfree => ?_, fun h => ?_⟩,
      fun hn => ⟨fun a hs ha hh hfree => ?_, fun h => ?_⟩, parts.book, parts.remote, parts.sequence⟩
    · have due : reportDue (slotBegun slot r s) n = some q := reportDue_some hfree hx hb
      rw [beginSlot_eq hr h1 h2, hn]; dsimp only; rw [due]
      show some _ = some _
      rw [buildReport, reportBody_slotBegun]; rfl
    · have due : reportDue (slotBegun slot r s) n = none := reportDue_none h
      rw [beginSlot_eq hr h1 h2, hn]; dsimp only; rw [due]; rfl
    · rw [beginSlot_eq hr h1 h2, hn]; dsimp only
      rw [if_pos hs, startAnswerSlot_held (s := slotBegun slot r s) ha hh hfree, buildAnswer, answerBody_eq]
      cases hrefused : a.refused <;> rfl
    · rw [beginSlot_eq hr h1 h2, hn]; dsimp only
      split
      · rename_i hs
        rw [startAnswerSlot_stands (s := slotBegun slot r s) (h.resolve_left (not_not.2 hs))]; rfl
      · rfl
  · rw [exec_slotStart, beginSlot_stands h]
  · refine ⟨sendDue s, rfl, ?_, fun hfree => ?_, fun hfree => ?_⟩ <;> rw [sendDue_some hf] <;> dsimp only
    · split <;> rfl
    · rw [if_pos hfree]; exact ⟨rfl, rfl⟩
    · rw [if_neg hfree]; exact ⟨rfl, rfl⟩
  · refine ⟨endSending s, rfl, ?_⟩
    cases hc : f.content with
    | answer =>
      rw [endSending_answer hl hf hc]
      exact ⟨rfl, rfl, fun _ => ⟨rfl, rfl, rfl⟩, fun n round e => FrameContent.noConfusion e⟩
    | report n round =>
      rw [endSending_report hl hf hc]
      cases n with
      | none =>
        refine ⟨rfl, rfl, fun e => FrameContent.noConfusion e, fun n' round' e => ?_⟩
        obtain ⟨rfl, rfl⟩ := FrameContent.report.inj e
        exact ⟨rfl, rfl, fun _ => rfl, fun k r q e => absurd e.symm (Option.some_ne_none k)⟩
      | some k =>
        refine ⟨rfl, rfl, fun e => FrameContent.noConfusion e, fun n' round' e => ?_⟩
        obtain ⟨rfl, rfl⟩ := FrameContent.report.inj e
        refine ⟨rfl, rfl, fun e => absurd e (Option.some_ne_none k), fun k' r q e hr hb => ?_⟩
        obtain rfl := Option.some.inj e
        exact setLastSent_finds (s := reportSent s) hr hb

end Sys2Proof.Machine

section
/-! PROOF. Claims that come and go, and the granting walk that follows each (chapter 5). -/

namespace Sys2Proof.Machine
open Sys2Proof.Safety

/-! ### Claims that come -/

/-- A claim enters the waiting list behind every claim of its class and of a higher one (R98). -/
theorem enterWaiting_append {c : Claim} {before after : List Claim}
    (hb : ∀ x ∈ before, classRank x.cls ≤ classRank c.cls)
    (ha : ∀ x, after.head? = some x → classRank c.cls < classRank x.cls) :
    enterWaiting c (before ++ after) = before ++ [c] ++ after := by
  induction before with
  | nil =>
    cases after with
    | nil => rfl
    | cons x rest => exact if_pos (ha x rfl)
  | cons x rest ih =>
    have behind : ¬ classRank c.cls < classRank x.cls := Nat.not_lt.2 (hb x List.mem_cons_self)
    refine (if_neg behind).trans (congrArg (List.cons x) ?_)
    exact ih fun y hy => hb y (List.mem_cons_of_mem _ hy)

theorem enterClaim_of_holder {k : Claimant} {s : State} (h : hasClaim k s = true) (units : Nat) (cls : ClaimClass) :
    enterClaim k units cls s = s := if_pos h

theorem enterClaim_of_none {k : Claimant} {s : State} (h : hasClaim k s = false) (units : Nat) (cls : ClaimClass) :
    enterClaim k units cls s =
      { s with arbiter := { s.arbiter with
          waiting := enterWaiting { claimant := k, units := units, cls := cls, seq := s.arbiter.counter, reclaiming := false }
            s.arbiter.waiting
          counter := (s.arbiter.counter + 1) % 65536 } } :=
  if_neg (by rw [h]; exact Bool.false_ne_true)

/-! ### Claims that go -/

/-- The walk does not run while a reclaim is in flight. -/
theorem walk_of_reclaim {s : State} (h : s.arbiter.reclaim.isSome = true) (n : Nat) : walk (n + 1) s = s := by
  unfold walk; exact if_pos h

theorem runWalk_of_reclaim {s : State} (h : s.arbiter.reclaim.isSome = true) : runWalk s = s := walk_of_reclaim h 63

theorem dropWaiting_unserved {k : Claimant} {s : State} (h : ∀ r, s.arbiter.reclaim = some r → r.serves ≠ k) :
    dropWaiting k s =
      { s with arbiter := { s.arbiter with waiting := s.arbiter.waiting.filter (fun x => x.claimant ≠ k) } } := by
  unfold dropWaiting
  cases hr : s.arbiter.reclaim with
  | none => simp only [hr]
  | some r => simp only [hr, if_neg (h r hr)]

theorem dropWaiting_served {k : Claimant} {s : State} {r : Reclaim} (hr : s.arbiter.reclaim = some r) (h : r.serves = k) :
    dropWaiting k s =
      { s with arbiter := { s.arbiter with
          waiting := s.arbiter.waiting.filter (fun x => x.claimant ≠ k)
          granted := s.arbiter.granted.map (fun x => { x with reclaiming := false })
          reclaim := none } } := by
  unfold dropWaiting
  simp only [hr, if_pos h]

theorem withdrawClaim_unserved {k : Claimant} {s : State} {r : Reclaim} (hr : s.arbiter.reclaim = some r) (h : r.serves ≠ k) :
    withdrawClaim k s =
      { s with arbiter := { s.arbiter with waiting := s.arbiter.waiting.filter (fun x => x.claimant ≠ k) } } := by
  unfold withdrawClaim
  rw [dropWaiting_unserved fun r' hr' => by rw [Option.some.inj (hr'.symm.trans hr)]; exact h]
  exact runWalk_of_reclaim (by simp [hr])

theorem dropGranted_idle {k : Claimant} {s : State} (h : s.arbiter.reclaim = none) :
    dropGranted k s =
      { s with arbiter := { s.arbiter with granted := s.arbiter.granted.filter (fun x => x.claimant ≠ k) } } := by
  unfold dropGranted
  simp only [h]

/-- A release counts toward the reclaim in flight, which is complete with its last victim. -/
theorem dropGranted_reclaim {k : Claimant} {s : State} {r : Reclaim} (h : s.arbiter.reclaim = some r) :
    dropGranted k s =
      { s with arbiter := { s.arbiter with
          granted := s.arbiter.granted.filter (fun x => x.claimant ≠ k)
          reclaim := if r.victims.filter (fun x => x ≠ k) = [] then none
            else some { r with victims := r.victims.filter (fun x => x ≠ k) } } } := by
  unfold dropGranted
  simp only [h, List.isEmpty_iff]

/-- Settles O46: each move of a claim is an equation of the arbiter's, and the walk after it stands still in a reclaim. -/
theorem claimsComeAndGo : Obligations.ClaimsComeAndGo := by
  intro k s a others
  refine ⟨fun units cls => ⟨fun h => enterClaim_of_holder h units cls, fun h before after hw hb ha => ?_⟩, fun hr => ?_,
    fun r hr => ⟨fun h => withdrawClaim_unserved hr h, fun h => congrArg runWalk (dropWaiting_served hr h)⟩,
    fun hr => congrArg runWalk (dropGranted_idle hr), ?_, fun _ => rfl⟩
  · unfold placeClaim
    rw [enterClaim_of_none h, show s.arbiter.waiting = before ++ after from hw, enterWaiting_append hb ha]
  · exact congrArg runWalk (dropWaiting_unserved fun r h => absurd (hr.symm.trans h) (by simp))
  · intro r hr left
    unfold releaseClaim
    rw [dropGranted_reclaim hr]
    refine ⟨fun h => ?_, fun h => ?_⟩
    · rw [if_neg h]; exact runWalk_of_reclaim rfl
    · rw [if_pos h]

end Sys2Proof.Machine
end

section
/-! PROOF. The granting walk: what it grants, what it takes back, and the limit it stays within (R99, R103, R104). -/

namespace Sys2Proof.Machine
open Sys2Proof.Safety

/-! ### The limit -/

/-- The units held stay within the supply limit (R99). -/
def WithinLimit (s : State) : Prop := unitSum s.arbiter.granted ≤ s.gs.supplyLimit

theorem withinLimit_of_eq {s t : State} (hg : t.arbiter.granted = s.arbiter.granted) (hl : t.gs = s.gs)
    (h : WithinLimit s) : WithinLimit t := by
  unfold WithinLimit; rw [hg, hl]; exact h

@[simp] theorem unitSum_append (l r : List Claim) : unitSum (l ++ r) = unitSum l + unitSum r := by simp [unitSum]

@[simp] theorem unitSum_cons (c : Claim) (l : List Claim) : unitSum (c :: l) = c.units + unitSum l := by simp [unitSum]

theorem unitSum_map {f : Claim → Claim} (hf : ∀ x, (f x).units = x.units) (l : List Claim) : unitSum (l.map f) = unitSum l := by
  unfold unitSum
  rw [List.map_map]
  exact congrArg List.sum (List.map_congr_left fun x _ => hf x)

theorem unitSum_filter_le (p : Claim → Bool) (l : List Claim) : unitSum (l.filter p) ≤ unitSum l :=
  (List.filter_sublist.map _).sum_le_sum fun _ _ => Nat.zero_le _

theorem takeGrant_arbiter (k : Claimant) (s : State) : (takeGrant k s).arbiter = s.arbiter := by
  unfold takeGrant takePumpGrant takeCircuitGrant confirmRunning
  dsimp only
  repeat' split
  all_goals rfl

theorem takeGrant_gs (k : Claimant) (s : State) : (takeGrant k s).gs = s.gs := by
  unfold takeGrant takePumpGrant takeCircuitGrant confirmRunning
  dsimp only
  repeat' split
  all_goals rfl

/-- A grant that fits stays within the limit. -/
theorem moveToGranted_withinLimit {s : State} {c : Claim} (h : WithinLimit s) (hc : c.units ≤ freeUnits s) :
    WithinLimit (moveToGranted c s) := by
  unfold WithinLimit at *
  unfold freeUnits at hc
  show unitSum (s.arbiter.granted ++ [c]) ≤ s.gs.supplyLimit
  have single : unitSum [c] = c.units := by simp [unitSum]
  rw [unitSum_append, single]
  omega

theorem dropGranted_withinLimit {s : State} (k : Claimant) (h : WithinLimit s) : WithinLimit (dropGranted k s) :=
  (unitSum_filter_le _ _).trans h

theorem markReclaim_withinLimit {s : State} (c : Claim) (vs : List Claimant) (h : WithinLimit s) :
    WithinLimit (markReclaim c vs s) :=
  (unitSum_map (fun x => by split <;> rfl) _).trans_le h

theorem enterClaim_withinLimit {s : State} (k : Claimant) (u : Nat) (c : ClaimClass) (h : WithinLimit s) :
    WithinLimit (enterClaim k u c s) := by
  refine withinLimit_of_eq ?_ ?_ h <;> (unfold enterClaim; split <;> rfl)

theorem reportReclaim_withinLimit {s : State} (k : Claimant) (h : WithinLimit s) : WithinLimit (reportReclaim k s) := by
  refine withinLimit_of_eq ?_ ?_ h <;> (unfold reportReclaim; repeat' split) <;> rfl

theorem shedCircuit_withinLimit {w : State → State} (hw : ∀ t, WithinLimit t → WithinLimit (w t)) (k : Claimant) {s : State}
    (h : WithinLimit s) : WithinLimit (shedCircuit w k s) := by
  unfold shedCircuit; split
  · exact h
  · refine hw _ (enterClaim_withinLimit _ _ _ (hw _ (dropGranted_withinLimit _ ?_)))
    exact withinLimit_of_eq rfl rfl h

theorem walk_withinLimit (n : Nat) {s : State} (h : WithinLimit s) : WithinLimit (walk n s) := by
  induction n generalizing s with
  | zero => exact withinLimit_of_eq rfl rfl h
  | succ n ih =>
    unfold walk; dsimp only
    split
    · exact h
    · split
      · exact h
      · rename_i c rest _
        split
        · rename_i fits
          refine ih (withinLimit_of_eq ?_ (takeGrant_gs _ _) (moveToGranted_withinLimit h fits))
          rw [takeGrant_arbiter]
        · split
          · exact h
          · refine foldl_keeps WithinLimit _ (fun t k ht => shedCircuit_withinLimit (fun _ => ih) k ht) _ _ ?_
            exact foldl_keeps WithinLimit _ (fun t k ht => reportReclaim_withinLimit k ht) _ _ (markReclaim_withinLimit _ _ h)

/-! ### The victims of a reclaim -/

theorem eligible_eq (s : State) (cls : ClaimClass) (c : Claim) :
    eligible s cls c = (!c.reclaiming && classRank cls < classRank c.cls &&
      pumpNumbers.all (fun p => !(c.claimant = .pump p && (s.pumps.get p).state = .faulted))) := by
  unfold eligible
  cases hk : c.claimant with
  | pump p => fin_cases p <;> simp [pumpNumbers]
  | circuit d => simp

theorem victimOrder_eq (s : State) (cls : ClaimClass) : victimOrder s cls =
    [ClaimClass.frost, .fill, .turnover, .critical].flatMap (fun k =>
      s.arbiter.granted.reverse.filter (fun c =>
        c.cls = k && classRank cls < classRank k && !c.reclaiming &&
          pumpNumbers.all (fun p => !(c.claimant = .pump p && (s.pumps.get p).state = .faulted)))) := by
  unfold victimOrder
  refine List.flatMap_congr fun k _ => ?_
  rw [List.filter_filter]
  refine List.filter_congr fun c _ => ?_
  rw [eligible_eq]
  by_cases h : c.cls = k
  · subst h
    generalize pumpNumbers.all _ = x
    simp [Bool.and_comm, Bool.and_left_comm]
  · simp [h]

/-- Victims are taken until the need is met, and no further. -/
theorem takeVictims_append {a need : Nat} {vs : List Claim} (ws : List Claim) (met : need ≤ a + unitSum vs)
    (short : ∀ k, k < vs.length → a + unitSum (vs.take k) < need) : takeVictims a need (vs ++ ws) = vs := by
  induction vs generalizing a with
  | nil =>
    cases ws with
    | nil => rfl
    | cons w ws => exact if_pos met
  | cons v vs ih =>
    have unmet : ¬ need ≤ a := Nat.not_le.2 (short 0 (Nat.zero_lt_succ _))
    refine (if_neg unmet).trans (congrArg (List.cons v) (ih ?_ fun k hk => ?_))
    · rw [unitSum_cons] at met; omega
    · have later := short (k + 1) (Nat.succ_lt_succ hk)
      rw [List.take_succ_cons, unitSum_cons] at later
      omega

/-! ### The branches of the walk -/

theorem walk_of_empty {s : State} (h : s.arbiter.waiting = []) (n : Nat) : walk (n + 1) s = s := by
  unfold walk
  split
  · rfl
  · simp only [h]

section
variable {s : State} {c : Claim} {rest : List Claim}

/-- The head of the waiting list leaves it and stands at the end of the granted list. -/
theorem moveToGranted_head (fit : ClaimsFit s) (hw : s.arbiter.waiting = c :: rest) :
    moveToGranted c s = { s with arbiter := { s.arbiter with waiting := rest, granted := s.arbiter.granted ++ [c] } } := by
  unfold ClaimsFit at fit
  rw [hw, List.cons_append, List.map_cons, List.nodup_cons] at fit
  have left : s.arbiter.waiting.filter (fun x => x.claimant ≠ c.claimant) = rest := by
    rw [hw, List.filter_cons_of_neg (by simp), List.filter_eq_self]
    intro x hx
    have other : x.claimant ≠ c.claimant := fun e =>
      fit.1 (List.mem_map.2 ⟨x, List.mem_append_left _ hx, e⟩)
    simpa using other
  unfold moveToGranted
  rw [left]

variable (idle : s.arbiter.reclaim = none) (hw : s.arbiter.waiting = c :: rest) (n : Nat)
include idle hw

theorem walk_fits (h : c.units ≤ freeUnits s) : walk (n + 1) s = walk n (takeGrant c.claimant (moveToGranted c s)) := by
  conv_lhs => unfold walk
  simp only [idle, hw, if_pos h, Option.isSome_none, if_neg Bool.false_ne_true]

theorem walk_waits (h : freeUnits s < c.units) (short : freeUnits s + unitSum (victimOrder s c.cls) < c.units) :
    walk (n + 1) s = s := by
  unfold walk
  simp only [idle, hw, if_neg (Nat.not_le.2 h), if_pos short, Option.isSome_none, if_neg Bool.false_ne_true]

theorem walk_reclaims (h : freeUnits s < c.units) (enough : ¬ freeUnits s + unitSum (victimOrder s c.cls) < c.units) :
    walk (n + 1) s =
      ((takeVictims (freeUnits s) c.units (victimOrder s c.cls)).map (·.claimant)).foldl (fun t k => shedCircuit (walk n) k t)
        (((takeVictims (freeUnits s) c.units (victimOrder s c.cls)).map (·.claimant)).foldl (fun t k => reportReclaim k t)
          (markReclaim c ((takeVictims (freeUnits s) c.units (victimOrder s c.cls)).map (·.claimant)) s)) := by
  conv_lhs => unfold walk
  simp only [idle, hw, if_neg (Nat.not_le.2 h), if_neg enough, Option.isSome_none, if_neg Bool.false_ne_true]

end

theorem markReclaim_eq (c : Claim) (vs : List Claimant) (s : State) :
    markReclaim c vs s =
      { s with arbiter := { s.arbiter with
          granted := s.arbiter.granted.map (fun x => if x.claimant ∈ vs then { x with reclaiming := true } else x)
          reclaim := some { serves := c.claimant, need := c.units, victims := vs } } } := by
  unfold markReclaim
  simp only [List.contains_iff_mem]

/-- Settles O45: the limit by an induction over the walk's bound, its branches by one equation each. -/
theorem walkGrantsWithinLimit : Obligations.WalkGrantsWithinLimit := by
  refine ⟨fun n s h => walk_withinLimit n h, fun n s h => h.elim (walk_of_reclaim · n) (walk_of_empty · n), fun _ => rfl,
    victimOrder_eq, ?_⟩
  intro n s c rest fit idle hw granted
  have moved : moveToGranted c s = granted := moveToGranted_head fit hw
  refine ⟨fun h => ⟨?_, takeGrant_arbiter _ _⟩, walk_waits idle hw n, ?_⟩
  · rw [← moved]; exact walk_fits idle hw n h
  · intro vs ws h order met short ks begun
    have taken : takeVictims (freeUnits s) c.units (victimOrder s c.cls) = vs := by
      rw [order]; exact takeVictims_append ws met short
    have marked : markReclaim c ks s = begun := markReclaim_eq c ks s
    refine ⟨?_, fun p hp => if_pos hp⟩
    have enough : ¬ freeUnits s + unitSum (victimOrder s c.cls) < c.units := by
      rw [order, unitSum_append]; omega
    rw [walk_reclaims idle hw n h enough, taken, ← marked]

end Sys2Proof.Machine
end

section
/-! PROOF. The timers of a pump channel (R80, R81, R86, R87). -/

namespace Sys2Proof.Machine
open Sys2Proof.Safety

/-! ### The channel after a stop -/

/-- The fault that a stop cause ends in, if it ends in one (R86). -/
def stopFault : StopCause → Option FaultCause
  | .none => none
  | .retry => none
  | .noStart => some .noStart
  | .noFlow => some .noFlow
  | .overload => some .overload

/-- A channel that has failed (R88). -/
def faultedPump (why : FaultCause) (q : Pump) : Pump :=
  { q with state := .faulted, cause := some why, pendingStart := none, stopCause := .none, dwell := none, confirm := none,
           stopTimer := none, lockout := none }

/-- A channel in LOCKOUT with the timer at the lockout time (R87). -/
def lockedPump (time : Nat) (q : Pump) : Pump := { q with state := .lockout, lockout := some time }

/-- A channel whose stop has completed: its stop cause gives the state (R86). -/
def endedPump (time : Nat) (q : Pump) : Pump :=
  let r := { q with stopTimer := none, stopCause := .none }
  match stopFault q.stopCause with
  | none => lockedPump time r
  | some why => faultedPump why r

/-- A channel that enters STOPPING (R86). -/
def stoppingPump (time : Nat) (closed : Bool) (why : StopCause) (q : Pump) : Pump :=
  { q with state := .stopping, stopCause := why, dwell := none, confirm := none, stopTimer := some time, judged := closed }

theorem stopEnds_self (p : Fin 3) (s : State) :
    (stopEnds p s).pumps.get p = endedPump s.gs.lockoutTime (s.pumps.get p) := by
  unfold stopEnds endedPump
  cases (s.pumps.get p).stopCause <;> simp [stopFault, lockedPump, faultedPump, enterLockout_self, enterFaulted_self]

theorem endedPump_state (time : Nat) (q : Pump) : (endedPump time q).state = .lockout ∨ (endedPump time q).state = .faulted := by
  unfold endedPump
  cases stopFault q.stopCause <;> simp [lockedPump, faultedPump]

theorem completeStop_self (p : Fin 3) (s : State) :
    (completeStop p s).pumps.get p = endedPump s.gs.lockoutTime (s.pumps.get p) := by
  have ended : (dropGranted (.pump p) (stopEnds p s)).pumps.get p = endedPump s.gs.lockoutTime (s.pumps.get p) := stopEnds_self p s
  unfold completeStop
  rw [completeStopBy_eq]
  refine (walk_pump 64 _ p ?_).trans ended
  rw [ended]
  rcases endedPump_state s.gs.lockoutTime (s.pumps.get p) with e | e <;> rw [e] <;> decide

theorem enterStopping_closed {p : Fin 3} {s : State} (h : s.inputs.feedback.get p = true) (why : StopCause) :
    (enterStopping p why s).pumps.get p = stoppingPump s.gs.stopConfirmTime true why (s.pumps.get p) := by
  unfold enterStopping enterStoppingBy
  simp [h, stoppingPump]

theorem enterStopping_open {p : Fin 3} {s : State} (h : s.inputs.feedback.get p = false) (why : StopCause) :
    (enterStopping p why s).pumps.get p =
      endedPump s.gs.lockoutTime (stoppingPump s.gs.stopConfirmTime false why (s.pumps.get p)) := by
  have opens : enterStopping p why s =
      completeStop p (emit (.pumpChanged p) (setPump p (stoppingPump s.gs.stopConfirmTime false why (s.pumps.get p)) s)) := by
    unfold enterStopping enterStoppingBy
    simp only [h]
    rfl
  rw [opens, completeStop_self]
  simp

/-! ### A failed attempt -/

/-- What the count of a failed attempt makes the stop cause (R81). -/
def attemptCause (retries n : Nat) : StopCause := if n ≤ retries then .retry else .noStart

/-- The channel as a failed attempt counts it, before its stop. -/
def countedPump (retries : Nat) (keepStart : Bool) (q : Pump) : Pump :=
  { q with attempts := q.attempts + 1
           pendingStart := if keepStart = true ∧ q.attempts + 1 ≤ retries then q.pendingStart else none }

theorem failedAttempt_eq (p : Fin 3) (keepStart : Bool) (s : State) :
    failedAttempt p keepStart s =
      enterStopping p (attemptCause s.gs.retries ((s.pumps.get p).attempts + 1))
        (setPump p (countedPump s.gs.retries keepStart (s.pumps.get p)) s) := by
  unfold failedAttempt attemptCause countedPump
  by_cases h : (s.pumps.get p).attempts + 1 ≤ s.gs.retries
  · simp only [h, if_true, and_true]
  · simp only [h, if_false, and_false]

theorem failedAttempt_closed {p : Fin 3} {s : State} (h : s.inputs.feedback.get p = true) (keepStart : Bool) :
    (failedAttempt p keepStart s).pumps.get p =
      stoppingPump s.gs.stopConfirmTime true (attemptCause s.gs.retries ((s.pumps.get p).attempts + 1))
        (countedPump s.gs.retries keepStart (s.pumps.get p)) := by
  rw [failedAttempt_eq, enterStopping_closed (s := setPump p _ s) h]
  simp

theorem failedAttempt_open {p : Fin 3} {s : State} (h : s.inputs.feedback.get p = false) (keepStart : Bool) :
    (failedAttempt p keepStart s).pumps.get p =
      endedPump s.gs.lockoutTime
        (stoppingPump s.gs.stopConfirmTime false (attemptCause s.gs.retries ((s.pumps.get p).attempts + 1))
          (countedPump s.gs.retries keepStart (s.pumps.get p))) := by
  rw [failedAttempt_eq, enterStopping_open (s := setPump p _ s) h]
  simp

/-! ### The claim of a channel that starts -/

/-- The walk keeps what every grant keeps of the pumps. -/
theorem walk_keeps_pumps {P : Trio Pump → Prop} (h : ∀ k t, P t.pumps → P (takeGrant k t).pumps) (n : Nat) (s : State)
    (hs : P s.pumps) : P (walk n s).pumps := by
  induction n generalizing s with
  | zero => exact hs
  | succ n ih =>
    unfold walk; dsimp only; repeat' split
    · exact hs
    · exact hs
    · exact ih _ (h _ (moveToGranted _ s) hs)
    · exact hs
    · refine foldl_keeps (fun t : State => P t.pumps) _ (fun t k ht => ?_) _ _ ?_
      · unfold shedCircuit; split
        · exact ht
        · refine ih _ ?_
          rw [enterClaim_pumps]
          exact ih _ ht
      · exact foldl_keeps (fun t : State => P t.pumps) _ (fun t k ht => by rw [reportReclaim_pumps]; exact ht) _ _ hs

/-- A channel out of its lockout that claims, starts or runs. -/
def Climbs (q : Pump) : Prop := pumpsFluid q.state = true ∧ q.lockout = none

/-- A grant moves no channel but one in CLAIMING, which starts or runs. -/
theorem takeGrant_entry (k : Claimant) (s : State) (p : Fin 3) :
    (takeGrant k s).pumps.get p = s.pumps.get p ∨
      (((takeGrant k s).pumps.get p).state = .starting ∧
            ((takeGrant k s).pumps.get p).pendingStart = (s.pumps.get p).pendingStart ∨
          ((takeGrant k s).pumps.get p).state = .running) ∧
        ((takeGrant k s).pumps.get p).lockout = (s.pumps.get p).lockout := by
  cases k with
  | circuit c => exact .inl (congrArg (fun t : Trio Pump => t.get p) (takeCircuitGrant_pumps c s))
  | pump q =>
    rw [show takeGrant (.pump q) s = takePumpGrant q s from rfl]
    unfold takePumpGrant confirmRunning; dsimp only
    split
    · exact .inl rfl
    · by_cases hq : p = q
      · subst hq
        split <;> simp
      · refine .inl ?_
        split
        · exact (trio_get_set_other _ _ _ _ hq).trans (trio_get_set_other _ _ _ _ hq)
        · exact trio_get_set_other _ _ _ _ hq

theorem takeGrant_climbs (p : Fin 3) (k : Claimant) (s : State) (h : Climbs (s.pumps.get p)) :
    Climbs ((takeGrant k s).pumps.get p) := by
  rcases takeGrant_entry k s p with e | ⟨⟨hr, -⟩ | hr, hl⟩
  · rw [e]; exact h
  · exact ⟨by rw [hr]; rfl, hl.trans h.2⟩
  · exact ⟨by rw [hr]; rfl, hl.trans h.2⟩

theorem claimPump_climbs (p : Fin 3) (cls : ClaimClass) {s : State} (h : Climbs (s.pumps.get p)) :
    Climbs ((claimPump p cls s).pumps.get p) :=
  walk_keeps_pumps (P := fun t => Climbs (t.get p)) (takeGrant_climbs p) 64 _ (by rw [enterClaim_pumps]; exact h)

/-! ### The timers -/

theorem pumpDwellExpiry_self {p : Fin 3} {s : State} (hq : (s.pumps.get p).state = .starting)
    (hd : (s.pumps.get p).dwell.isSome = true) :
    (pumpDwellExpiry p s).pumps.get p =
      if (s.pumps.get p).judged then
        { s.pumps.get p with state := .running, dwell := none, confirm := none, attempts := 0, pendingStart := none }
      else { s.pumps.get p with dwell := none } := by
  unfold pumpDwellExpiry confirmRunning
  dsimp only
  rw [if_pos ⟨hq, hd⟩]
  split <;> simp

theorem enterFaulted_event (p : Fin 3) (why : FaultCause) (s : State) : eventIsSet .pumpFault (enterFaulted p why s) = true := by
  unfold enterFaulted; dsimp only
  split <;> exact eventIsSet_setEvent _ _

theorem pumpLockoutExpiry_frees {p : Fin 3} {s : State} (hq : (s.pumps.get p).state = .lockout)
    (hl : (s.pumps.get p).lockout.isSome = true) (hp : (s.pumps.get p).pendingStart = none) :
    pumpLockoutExpiry p s = emit (.pumpChanged p) (setPump p { s.pumps.get p with state := .stopped, lockout := none } s) := by
  unfold pumpLockoutExpiry
  simp only [if_pos (And.intro hq hl), hp]

theorem pumpLockoutExpiry_claims {p : Fin 3} {s : State} (hq : (s.pumps.get p).state = .lockout)
    (hl : (s.pumps.get p).lockout.isSome = true) {cls : ClaimClass} (hp : (s.pumps.get p).pendingStart = some cls) :
    pumpLockoutExpiry p s =
      claimPump p cls (emit (.pumpChanged p) (setPump p { s.pumps.get p with state := .claiming, lockout := none } s)) := by
  unfold pumpLockoutExpiry
  simp only [if_pos (And.intro hq hl), hp]

/-- Settles O41: the channel's entry after each timer, which no walk that follows moves again except to grant the new claim. -/
theorem pumpTimersExpire : Obligations.PumpTimersExpire := by
  intro p s q
  refine ⟨fun hq hd => ⟨rfl, pumpDwellExpiry_self hq hd⟩, fun hq hc => ?_, fun hq ht => ?_, fun hq hl => ⟨rfl, fun hp => ?_, fun hp => ?_⟩⟩
  · intro u b
    have failed : u = failedAttempt p true s := if_pos ⟨hq, hc⟩
    refine ⟨rfl, ?_⟩
    by_cases h : s.inputs.feedback.get p = true
    · have hb : b = _ := (congrArg (fun t : State => t.pumps.get p) failed).trans (failedAttempt_closed h true)
      rw [hb, h]
      refine ⟨rfl, fun few => ?_, fun many => ?_⟩
      · simp [stoppingPump, countedPump, attemptCause, q, few]
      · have few : ¬ (s.pumps.get p).attempts + 1 ≤ s.gs.retries := Nat.not_le.2 many
        simp [stoppingPump, countedPump, attemptCause, few]
    · have h : s.inputs.feedback.get p = false := by simpa using h
      have hb : b = _ := (congrArg (fun t : State => t.pumps.get p) failed).trans (failedAttempt_open h true)
      rw [hb, h]
      by_cases few : q.attempts + 1 ≤ s.gs.retries
      · refine ⟨?_, fun _ => ?_, fun many => absurd few (Nat.not_le.2 many)⟩ <;>
          simp [endedPump, stopFault, lockedPump, stoppingPump, countedPump, attemptCause, q, few]
      · refine ⟨?_, fun few' => absurd few' few, fun _ => ?_⟩ <;>
          simp [endedPump, stopFault, faultedPump, stoppingPump, countedPump, attemptCause, q, few]
  · intro u
    have welds : u = keepWeldedClaim p (enterFaulted p .welded s) := if_pos ⟨hq, ht⟩
    have hb : u.pumps.get p = _ := (congrArg (fun t : State => t.pumps.get p) welds).trans (enterFaulted_self p .welded s)
    refine ⟨rfl, ?_⟩
    rw [hb, welds]
    exact ⟨rfl, rfl, rfl, rfl, enterFaulted_event p .welded s⟩
  · exact (congrArg (fun t : State => t.pumps.get p) (pumpLockoutExpiry_frees hq hl hp)).trans (trio_get_set_same _ _ _)
  · obtain ⟨cls, hp⟩ := Option.isSome_iff_exists.1 hp
    rw [pumpLockoutExpiry_claims hq hl hp]
    exact claimPump_climbs p cls (by simp [Climbs, pumpsFluid])

end Sys2Proof.Machine
end

section
/-! PROOF. What a pump channel takes in: its feedback, its overload relay, its commands and its grant (R77 to R89). -/

namespace Sys2Proof.Machine
open Sys2Proof.Safety

/-! ### Writing an entry twice -/

theorem trio_set_set {α : Type} (t : Trio α) (p : Fin 3) (v w : α) : (t.set p v).set p w = t.set p w := by
  fin_cases p <;> rfl

theorem setPump_setPump (p : Fin 3) (q r : Pump) (s : State) : setPump p r (setPump p q s) = setPump p r s := by
  unfold setPump
  simp only [trio_set_set]

theorem setPump_emit (p : Fin 3) (q : Pump) (n : Note) (s : State) : setPump p q (emit n s) = emit n (setPump p q s) := rfl

/-- A channel moved, with the announcements that follow. -/
def told (p : Fin 3) (b : Pump) (notes : List Note) (s : State) : State := { setPump p b s with agenda := s.agenda ++ notes }

theorem emit_setPump (p : Fin 3) (b : Pump) (n : Note) (s : State) : emit n (setPump p b s) = told p b [n] s := rfl

theorem setPump_told (p : Fin 3) (b c : Pump) (notes : List Note) (s : State) :
    setPump p c (told p b notes s) = told p c notes s := by
  unfold told setPump
  simp only [trio_set_set]

theorem emit_told (p : Fin 3) (b : Pump) (notes : List Note) (n : Note) (s : State) :
    emit n (told p b notes s) = told p b (notes ++ [n]) s := by
  unfold told emit
  simp only [List.append_assoc]

@[simp] theorem told_self (p : Fin 3) (b : Pump) (notes : List Note) (s : State) : (told p b notes s).pumps.get p = b :=
  trio_get_set_same _ _ _

/-! ### The feedback -/

section
variable (p : Fin 3) (s : State)

theorem pumpFeedbackCloses_confirms (hq : (s.pumps.get p).state = .starting) (hd : (s.pumps.get p).dwell = none) :
    (pumpFeedbackCloses p s).pumps.get p =
      { s.pumps.get p with
          judged := true, state := .running, dwell := none, confirm := none, attempts := 0, pendingStart := none } := by
  unfold pumpFeedbackCloses confirmRunning
  simp [hq, hd]

theorem pumpFeedbackCloses_waits (hq : (s.pumps.get p).state = .starting) (hd : (s.pumps.get p).dwell.isSome = true) :
    (pumpFeedbackCloses p s).pumps.get p = { s.pumps.get p with judged := true } := by
  unfold pumpFeedbackCloses
  obtain ⟨d, hd⟩ := Option.isSome_iff_exists.1 hd
  simp [hq, hd]

theorem pumpFeedbackCloses_stands (h1 : (s.pumps.get p).state ≠ .starting) (h2 : (s.pumps.get p).state ≠ .running)
    (h3 : (s.pumps.get p).state ≠ .stopping) : (pumpFeedbackCloses p s).pumps = s.pumps := by
  unfold pumpFeedbackCloses
  cases hq : (s.pumps.get p).state <;> simp_all

theorem pumpFeedbackOpens_stops (hq : (s.pumps.get p).state = .stopping) :
    (pumpFeedbackOpens p s).pumps.get p = endedPump s.gs.lockoutTime { s.pumps.get p with judged := false } := by
  have opens : pumpFeedbackOpens p s =
      completeStop p (setPump p { s.pumps.get p with judged := false } (setFeedback p false s)) := by
    unfold pumpFeedbackOpens
    simp only [hq]
    rfl
  rw [opens, completeStop_self]
  simp [setFeedback]

theorem pumpFeedbackOpens_runs (hq : (s.pumps.get p).state = .running) :
    pumpFeedbackOpens p s = runningFeedbackOpens p (setFeedback p false s) := by
  unfold pumpFeedbackOpens
  simp only [hq]
  rfl

theorem runningFeedbackOpens_trips (h : s.inputs.overload.get p = true) :
    (runningFeedbackOpens p s).pumps.get p =
      faultedPump .overload { s.pumps.get p with judged := false, overload := true } := by
  have faults : (enterFaulted p .overload (setPump p { s.pumps.get p with judged := false, overload := true } s)).pumps.get p =
      faultedPump .overload { s.pumps.get p with judged := false, overload := true } := by
    rw [enterFaulted_self]; simp [faultedPump]
  unfold runningFeedbackOpens
  simp only [h, if_true]
  rw [releaseClaim_pump _ _ _ (by rw [faults]; exact nofun), faults]

theorem runningFeedbackOpens_drops (h : s.inputs.overload.get p = false) (hf : s.inputs.feedback.get p = false) :
    (runningFeedbackOpens p s).pumps.get p =
      endedPump s.gs.lockoutTime
        (stoppingPump s.gs.stopConfirmTime false (attemptCause s.gs.retries ((s.pumps.get p).attempts + 1))
          (countedPump s.gs.retries false { s.pumps.get p with judged := false, overload := false })) := by
  unfold runningFeedbackOpens
  simp only [h, if_neg Bool.false_ne_true]
  rw [failedAttempt_open (s := emit _ (setPump p _ s)) hf]
  simp

/-- A welded channel first taken open gives its claim up, and the guard lets the pump go (R89, R121). -/
theorem pumpFeedbackOpens_weld (hq : (s.pumps.get p).state = .faulted) (hc : (s.pumps.get p).cause = some .welded)
    (hj : (s.pumps.get p).judged = true) : pumpFeedbackOpens p s = weldOpens p (setFeedback p false s) := by
  unfold pumpFeedbackOpens
  simp only [hq, hc, hj, and_self, if_true]
  rfl

theorem weldOpens_self (hq : (s.pumps.get p).state = .faulted) :
    (weldOpens p s).pumps.get p = { s.pumps.get p with judged := false } := by
  unfold weldOpens
  dsimp only
  rw [releaseClaim_pump _ _ _ (by simp [hq])]
  simp

theorem weldOpens_held : (weldOpens p s).guard.held.get p = false := by
  unfold weldOpens
  rw [calm_guard (releaseClaim_calm _ _)]
  simp

end

/-! ### The overload relay -/

section
variable (p : Fin 3) (s : State)

/-- The channel with its overload relay found tripped. -/
def tripped (p : Fin 3) (s : State) : State :=
  setPump p { s.pumps.get p with overload := true } { s with inputs := { s.inputs with overload := s.inputs.overload.set p true } }

theorem tripped_self : (tripped p s).pumps.get p = { s.pumps.get p with overload := true } := trio_get_set_same _ _ _

theorem pumpOverloadTrip_rests
    (hq : (s.pumps.get p).state = .stopped ∨ (s.pumps.get p).state = .lockout ∨ (s.pumps.get p).state = .claiming) :
    (pumpOverloadTrip p s).pumps.get p = faultedPump .overload { s.pumps.get p with overload := true } := by
  have faults : (enterFaulted p .overload (tripped p s)).pumps.get p =
      faultedPump .overload { s.pumps.get p with overload := true } := by
    rw [enterFaulted_self, tripped_self]; rfl
  have unclaimed : ((enterFaulted p .overload (tripped p s)).pumps.get p).state ≠ .claiming := by rw [faults]; exact nofun
  unfold pumpOverloadTrip
  dsimp only
  split
  case h_1 => exact faults
  case h_2 => exact faults
  case h_3 => exact (withdrawClaim_pump _ _ _ unclaimed).trans faults
  all_goals simp_all

theorem pumpOverloadTrip_drives (hq : (s.pumps.get p).state = .starting ∨ (s.pumps.get p).state = .running) :
    pumpOverloadTrip p s =
      enterStopping p .overload (setPump p { s.pumps.get p with overload := true, pendingStart := none } (tripped p s)) := by
  have drives : pumpOverloadTrip p s =
      enterStopping p .overload (setPump p { s.pumps.get p with overload := true, pendingStart := none } (tripped p s)) ∨
      ((s.pumps.get p).state ≠ .starting ∧ (s.pumps.get p).state ≠ .running) := by
    unfold pumpOverloadTrip
    dsimp only
    split
    case h_4 => exact .inl rfl
    case h_5 => exact .inl rfl
    all_goals simp_all
  exact drives.resolve_right fun h => hq.elim h.1 h.2

theorem pumpOverloadTrip_stopping (hq : (s.pumps.get p).state = .stopping) :
    (pumpOverloadTrip p s).pumps.get p =
      { s.pumps.get p with overload := true, stopCause := .overload, pendingStart := none } := by
  unfold pumpOverloadTrip
  simp [hq]

theorem pumpOverloadTrip_out (hq : (s.pumps.get p).state = .faulted ∨ (s.pumps.get p).state = .outOfService) :
    (pumpOverloadTrip p s).pumps.get p = { s.pumps.get p with overload := true } := by
  unfold pumpOverloadTrip
  rcases hq with hq | hq <;> simp [hq]

end

end Sys2Proof.Machine
end

section
/-! PROOF. The commands of a pump channel and the grant of its claim, state by state (R79, R80, R85, R86), and what the channel takes in. -/

namespace Sys2Proof.Machine
open Sys2Proof.Safety

section
variable (p : Fin 3) (s : State)

/-! ### The stop command -/

/-- The channel told to stop while it starts or runs, with its feedback closed. -/
def stopsClosed (noFlow : Bool) : Pump :=
  { s.pumps.get p with
      state := .stopping, pendingStart := none, stopCause := if noFlow then .noFlow else .none, dwell := none, confirm := none,
      stopTimer := some s.gs.stopConfirmTime, judged := true }

/-- The same with the feedback open: the stop has completed. -/
def stopsOpen (noFlow : Bool) : Pump :=
  { stopsClosed p s noFlow with stopCause := .none, stopTimer := none, judged := false }

theorem stopCommand_claiming (hq : (s.pumps.get p).state = .claiming) (noFlow : Bool) :
    stopCommand p noFlow s =
      withdrawClaim (.pump p) (told p { s.pumps.get p with state := .stopped, pendingStart := none } [.pumpChanged p] s) := by
  unfold stopCommand stopBy
  simp only [hq]
  rfl

/-- A channel that starts or runs goes through STOPPING. -/
theorem stopCommand_driven (hq : (s.pumps.get p).state = .starting ∨ (s.pumps.get p).state = .running) (noFlow : Bool) :
    stopCommand p noFlow s =
      enterStopping p (if noFlow then .noFlow else .none) (setPump p { s.pumps.get p with pendingStart := none } s) := by
  have drives : stopCommand p noFlow s =
      enterStopping p (if noFlow then .noFlow else .none) (setPump p { s.pumps.get p with pendingStart := none } s) ∨
      ((s.pumps.get p).state ≠ .starting ∧ (s.pumps.get p).state ≠ .running) := by
    unfold stopCommand stopBy
    dsimp only
    split
    case h_2 => exact .inl rfl
    case h_3 => exact .inl rfl
    all_goals simp_all
  exact drives.resolve_right fun h => hq.elim h.1 h.2

theorem enterStopping_told (why : StopCause) (q : Pump) (hf : s.inputs.feedback.get p = true) :
    enterStopping p why (setPump p q s) = told p (stoppingPump s.gs.stopConfirmTime true why q) [.pumpChanged p] s := by
  have stops : enterStopping p why (setPump p q s) = emit (.pumpChanged p)
      (setPump p (stoppingPump s.gs.stopConfirmTime true why ((setPump p q s).pumps.get p)) (setPump p q s)) := by
    unfold enterStopping enterStoppingBy
    simp only [hf, if_true, show (setPump p q s).inputs = s.inputs from rfl]
    rfl
  rw [stops, setPump_setPump, emit_setPump, setPump_pumps, trio_get_set_same]

theorem enterStopping_ends (why : StopCause) (q : Pump) (hf : s.inputs.feedback.get p = false) :
    enterStopping p why (setPump p q s) =
      releaseClaim (.pump p)
        (stopEnds p (told p (stoppingPump s.gs.stopConfirmTime false why q) [.pumpChanged p] s)) := by
  have stops : enterStopping p why (setPump p q s) = completeStopBy runWalk p (emit (.pumpChanged p)
      (setPump p (stoppingPump s.gs.stopConfirmTime false why ((setPump p q s).pumps.get p)) (setPump p q s))) := by
    unfold enterStopping enterStoppingBy
    simp only [hf, if_neg Bool.false_ne_true, show (setPump p q s).inputs = s.inputs from rfl]
    rfl
  rw [stops, setPump_setPump, emit_setPump, setPump_pumps, trio_get_set_same, completeStopBy_eq]
  rfl

theorem stopEnds_told_none (b : Pump) (notes : List Note) (h : b.stopCause = .none) :
    stopEnds p (told p b notes s) =
      told p (lockedPump s.gs.lockoutTime { b with stopTimer := none, stopCause := .none }) (notes ++ [.pumpChanged p]) s := by
  have ends : stopEnds p (told p b notes s) =
      enterLockout p (setPump p { b with stopTimer := none, stopCause := .none } (told p b notes s)) := by
    unfold stopEnds
    simp only [told_self, h]
  rw [ends, setPump_told]
  unfold enterLockout
  dsimp only
  rw [told_self, setPump_told, emit_told]
  rfl

theorem stopEnds_told_noFlow (b : Pump) (notes : List Note) (h : b.stopCause = .noFlow) :
    stopEnds p (told p b notes s) =
      setEvent .pumpFault
        (told p (faultedPump .noFlow { b with stopTimer := none, stopCause := .none }) (notes ++ [.pumpChanged p]) s) := by
  have ends : stopEnds p (told p b notes s) =
      enterFaulted p .noFlow (setPump p { b with stopTimer := none, stopCause := .none } (told p b notes s)) := by
    unfold stopEnds
    simp only [told_self, h]
  have faults (t : State) : enterFaulted p .noFlow t =
      setEvent .pumpFault (emit (.pumpChanged p) (setPump p (faultedPump .noFlow (t.pumps.get p)) t)) := by
    unfold enterFaulted
    dsimp only
    rw [if_neg (by decide)]
    rfl
  rw [ends, setPump_told, faults, told_self, setPump_told, emit_told]

theorem stopCommand_closed (hq : (s.pumps.get p).state = .starting ∨ (s.pumps.get p).state = .running)
    (hf : s.inputs.feedback.get p = true) (noFlow : Bool) :
    stopCommand p noFlow s = told p (stopsClosed p s noFlow) [.pumpChanged p] s := by
  rw [stopCommand_driven p s hq, enterStopping_told p s _ _ hf]
  rfl

theorem stopCommand_locks (hq : (s.pumps.get p).state = .starting ∨ (s.pumps.get p).state = .running)
    (hf : s.inputs.feedback.get p = false) :
    stopCommand p false s =
      releaseClaim (.pump p)
        (told p { stopsOpen p s false with state := .lockout, lockout := some s.gs.lockoutTime }
          [.pumpChanged p, .pumpChanged p] s) := by
  rw [stopCommand_driven p s hq, enterStopping_ends p s _ _ hf, stopEnds_told_none p s _ _ rfl]
  rfl

theorem stopCommand_faults (hq : (s.pumps.get p).state = .starting ∨ (s.pumps.get p).state = .running)
    (hf : s.inputs.feedback.get p = false) :
    stopCommand p true s =
      releaseClaim (.pump p)
        (setEvent .pumpFault
          (told p { stopsOpen p s true with state := .faulted, cause := some .noFlow, lockout := none }
            [.pumpChanged p, .pumpChanged p] s)) := by
  rw [stopCommand_driven p s hq, enterStopping_ends p s _ _ hf, stopEnds_told_noFlow p s _ _ rfl]
  rfl

theorem stopCommand_stopping (hq : (s.pumps.get p).state = .stopping) (noFlow : Bool) :
    stopCommand p noFlow s = setPump p
      { s.pumps.get p with
          pendingStart := none
          stopCause := if (s.pumps.get p).stopCause = .retry then .none else (s.pumps.get p).stopCause } s := by
  unfold stopCommand stopBy
  simp only [hq]

theorem stopCommand_locked (hq : (s.pumps.get p).state = .lockout) (noFlow : Bool) :
    stopCommand p noFlow s = setPump p { s.pumps.get p with pendingStart := none } s := by
  unfold stopCommand stopBy
  simp only [hq]

theorem stopCommand_stands
    (hq : (s.pumps.get p).state = .stopped ∨ (s.pumps.get p).state = .faulted ∨ (s.pumps.get p).state = .outOfService)
    (noFlow : Bool) : stopCommand p noFlow s = s := by
  unfold stopCommand stopBy
  rcases hq with hq | hq | hq <;> simp only [hq]

/-! ### The start command -/

theorem startCommand_stopped (hq : (s.pumps.get p).state = .stopped) (cls : ClaimClass) :
    startCommand p cls s =
      placeClaim (.pump p) (s.gs.rating.get p) cls
        (told p { s.pumps.get p with state := .claiming, pendingStart := some cls } [.pumpChanged p] s) := by
  unfold startCommand
  simp only [hq]
  rfl

theorem startCommand_locked (hq : (s.pumps.get p).state = .lockout) (cls : ClaimClass) :
    startCommand p cls s = setPump p { s.pumps.get p with pendingStart := some cls } s := by
  unfold startCommand
  simp only [hq]

theorem startCommand_stands (h1 : (s.pumps.get p).state ≠ .stopped) (h2 : (s.pumps.get p).state ≠ .lockout) (cls : ClaimClass) :
    startCommand p cls s = s := by
  unfold startCommand
  cases hq : (s.pumps.get p).state <;> simp_all

/-! ### The grant -/

/-- The channel as its grant starts it. -/
def startsPump : Pump :=
  { s.pumps.get p with
      state := .starting, judged := s.inputs.feedback.get p,
      dwell := if s.gs.dwell.get p = 0 then none else some (s.gs.dwell.get p),
      confirm := some (s.gs.dwell.get p + s.gs.confirmTime) }

theorem takeGrant_starts (hq : (s.pumps.get p).state = .claiming)
    (h : s.gs.dwell.get p ≠ 0 ∨ s.inputs.feedback.get p = false) :
    takeGrant (.pump p) s = told p (startsPump p s) [.pumpChanged p] s := by
  have waits : ¬ (decide (s.gs.dwell.get p = 0) && s.inputs.feedback.get p) = true := by
    rcases h with h | h <;> simp [h]
  unfold takeGrant takePumpGrant
  dsimp only
  rw [if_neg (not_not.2 hq), if_neg waits]
  rfl

theorem takeGrant_runs (hq : (s.pumps.get p).state = .claiming) (hd : s.gs.dwell.get p = 0)
    (hf : s.inputs.feedback.get p = true) :
    takeGrant (.pump p) s =
      told p { startsPump p s with state := .running, confirm := none, attempts := 0, pendingStart := none }
        [.pumpChanged p, .runningConfirmed p, .pumpChanged p] s := by
  have runs : takeGrant (.pump p) s = confirmRunning p (told p (startsPump p s) [.pumpChanged p] s) := by
    unfold takeGrant takePumpGrant
    dsimp only
    rw [if_neg (not_not.2 hq), if_pos (by simp [hd, hf])]
    rfl
  have undwelled : (startsPump p s).dwell = none := if_pos hd
  rw [runs]
  unfold confirmRunning
  dsimp only
  rw [told_self, setPump_told, emit_told, emit_told, ← undwelled]
  rfl

theorem takeGrant_stands (hq : (s.pumps.get p).state ≠ .claiming) : takeGrant (.pump p) s = s := if_pos hq

end

/-! ### The obligation -/

theorem still_inputs (s : State) : (still s).inputs = s.inputs := rfl

theorem endedPump_timers (time : Nat) (q : Pump) : (endedPump time q).stopTimer = none ∧ (endedPump time q).stopCause = .none := by
  unfold endedPump
  cases stopFault q.stopCause <;> exact ⟨rfl, rfl⟩

theorem endedPump_locks (time : Nat) {q : Pump} (h : stopFault q.stopCause = none) :
    (endedPump time q).state = .lockout ∧ (endedPump time q).lockout = some time := by
  unfold endedPump
  simp only [h]
  exact ⟨rfl, rfl⟩

theorem endedPump_faults (time : Nat) {q : Pump} {why : FaultCause} (h : stopFault q.stopCause = some why) :
    (endedPump time q).state = .faulted ∧ (endedPump time q).cause = some why := by
  unfold endedPump
  simp only [h]
  exact ⟨rfl, rfl⟩

theorem attemptCause_few {retries n : Nat} (h : n ≤ retries) : attemptCause retries n = .retry := if_pos h

theorem attemptCause_many {retries n : Nat} (h : ¬ n ≤ retries) : attemptCause retries n = .noStart := if_neg h

/-- A failed attempt that has stopped keeps no pending start when it is not told to (R83). -/
theorem endedAttempt (time limit retries : Nat) (q : Pump) :
    let r := endedPump limit (stoppingPump time false (attemptCause retries (q.attempts + 1)) (countedPump retries false q))
    r.attempts = q.attempts + 1 ∧ r.pendingStart = none ∧
      r.state = (if q.attempts + 1 ≤ retries then .lockout else .faulted) := by
  by_cases few : q.attempts + 1 ≤ retries
  · rw [attemptCause_few few, if_pos few]; exact ⟨rfl, rfl, rfl⟩
  · rw [attemptCause_many few, if_neg few]; exact ⟨rfl, rfl, rfl⟩

/-- A channel driven to stop by its relay: STOPPING with its feedback closed, FAULTED at once with it open. -/
theorem pumpOverloadTrip_closed (p : Fin 3) (s : State) (hq : (s.pumps.get p).state = .starting ∨ (s.pumps.get p).state = .running)
    (hf : s.inputs.feedback.get p = true) :
    (pumpOverloadTrip p s).pumps.get p =
      stoppingPump s.gs.stopConfirmTime true .overload { s.pumps.get p with overload := true, pendingStart := none } := by
  rw [pumpOverloadTrip_drives p s hq, enterStopping_closed (s := setPump p _ (tripped p s)) hf, setPump_pumps, trio_get_set_same]
  rfl

theorem pumpOverloadTrip_open (p : Fin 3) (s : State) (hq : (s.pumps.get p).state = .starting ∨ (s.pumps.get p).state = .running)
    (hf : s.inputs.feedback.get p = false) :
    (pumpOverloadTrip p s).pumps.get p =
      faultedPump .overload { s.pumps.get p with overload := true, pendingStart := none, judged := false } := by
  rw [pumpOverloadTrip_drives p s hq, enterStopping_open (s := setPump p _ (tripped p s)) hf, setPump_pumps, trio_get_set_same]
  rfl

theorem pumpOverloadTrip_overload (p : Fin 3) (s : State) : ((pumpOverloadTrip p s).pumps.get p).overload = true := by
  have drives (hq : (s.pumps.get p).state = .starting ∨ (s.pumps.get p).state = .running) :
      ((pumpOverloadTrip p s).pumps.get p).overload = true := by
    cases hf : s.inputs.feedback.get p with
    | true => rw [pumpOverloadTrip_closed p s hq hf]; rfl
    | false => rw [pumpOverloadTrip_open p s hq hf]; rfl
  cases hq : (s.pumps.get p).state with
  | stopped => rw [pumpOverloadTrip_rests p s (.inl hq)]; rfl
  | lockout => rw [pumpOverloadTrip_rests p s (.inr (.inl hq))]; rfl
  | claiming => rw [pumpOverloadTrip_rests p s (.inr (.inr hq))]; rfl
  | starting => exact drives (.inl hq)
  | running => exact drives (.inr hq)
  | stopping => rw [pumpOverloadTrip_stopping p s hq]
  | faulted => rw [pumpOverloadTrip_out p s (.inl hq)]
  | outOfService => rw [pumpOverloadTrip_out p s (.inr hq)]

/-- Settles O42: the channel's entry after each input and after each command, by the state it was in. -/
theorem pumpInputsTaken : Obligations.PumpInputsTaken := by
  refine ⟨fun p x s => ?_, fun p s => ?_⟩
  · intro q uc uo ut b d
    refine ⟨⟨rfl, ?_, fun hq hd => ?_, pumpFeedbackCloses_waits p s, pumpFeedbackCloses_stands p s⟩,
      ⟨rfl, ?_, fun hq => ?_, fun hq ho => ?_, fun hq ho => ?_, fun hq hc hj => ?_⟩,
      ⟨rfl, ?_, fun hq => ?_, fun hq => ?_, fun hq => ?_, pumpOverloadTrip_out p s⟩⟩
    · rw [← still_inputs, finish_still, pumpFeedbackCloses_still]
      exact trio_get_set_same _ _ _
    · rw [show uc.pumps.get p = _ from pumpFeedbackCloses_confirms p s hq hd]
      exact ⟨rfl, rfl, rfl, rfl⟩
    · rw [← still_inputs, finish_still, pumpFeedbackOpens_still]
      exact trio_get_set_same _ _ _
    · rw [show b = _ from pumpFeedbackOpens_stops p (takeSample x s) hq]
      obtain ⟨timer, cause⟩ := endedPump_timers s.gs.lockoutTime { q with judged := false }
      refine ⟨timer, cause, fun hc => endedPump_locks _ ?_, fun hc => endedPump_faults _ ?_, fun hc => endedPump_faults _ ?_,
        fun hc => endedPump_faults _ ?_⟩
      · show stopFault q.stopCause = none
        rcases hc with hc | hc <;> rw [hc] <;> rfl
      all_goals exact congrArg stopFault hc
    · have trips := runningFeedbackOpens_trips p (setFeedback p false (takeSample x s)) ho
      rw [← pumpFeedbackOpens_runs p (takeSample x s) hq] at trips
      rw [show b = _ from trips]
      exact ⟨rfl, rfl⟩
    · have drops := runningFeedbackOpens_drops p (setFeedback p false (takeSample x s)) ho (setFeedback_get p false _)
      rw [← pumpFeedbackOpens_runs p (takeSample x s) hq] at drops
      rw [show b = _ from drops]
      exact endedAttempt _ _ _ { q with judged := false, overload := false }
    · have opens : uo = weldOpens p (setFeedback p false (takeSample x s)) :=
        pumpFeedbackOpens_weld p (takeSample x s) hq hc hj
      have self := weldOpens_self p (setFeedback p false (takeSample x s)) hq
      rw [← opens] at self
      exact ⟨self, by rw [opens]; exact weldOpens_held p _⟩
    · exact pumpOverloadTrip_overload p s
    · rw [show d = _ from pumpOverloadTrip_rests p s hq]
      exact ⟨rfl, rfl, rfl, rfl⟩
    · cases hf : s.inputs.feedback.get p with
      | true => rw [show d = _ from pumpOverloadTrip_closed p s hq hf]; exact ⟨rfl, fun _ => ⟨rfl, rfl⟩, nofun⟩
      | false => rw [show d = _ from pumpOverloadTrip_open p s hq hf]; exact ⟨rfl, nofun, fun _ => ⟨rfl, rfl⟩⟩
    · rw [show d = _ from pumpOverloadTrip_stopping p s hq]
      exact ⟨hq, rfl, rfl⟩
  · intro q closed told'
    refine ⟨fun noFlow => ?_, fun cls => ?_, ?_⟩
    · intro u stopping stopped
      refine ⟨fun hq => stopCommand_claiming p s hq noFlow, fun hq => ⟨fun hf => stopCommand_closed p s hq hf noFlow, ?_, ?_⟩,
        fun hq => stopCommand_stopping p s hq noFlow, fun hq => stopCommand_locked p s hq noFlow,
        fun hq => stopCommand_stands p s hq noFlow⟩
      · intro hf hn
        subst hn
        exact stopCommand_locks p s hq hf
      · intro hf hn
        subst hn
        exact stopCommand_faults p s hq hf
    · exact ⟨fun hq => startCommand_stopped p s hq cls, fun hq => startCommand_locked p s hq cls,
        fun h1 h2 => startCommand_stands p s h1 h2 cls⟩
    · exact ⟨fun hq => ⟨takeGrant_starts p s hq, takeGrant_runs p s hq⟩, takeGrant_stands p s⟩

end Sys2Proof.Machine
end

section
/-! PROOF. The system orders: their placement, withdrawal and move (R13, R69 to R72). -/

namespace Sys2Proof.Machine
open Sys2Proof.Safety

/-! ### The first pump that answers -/

/-- The lowest-numbered pump of a kind, or the lack of one. -/
theorem find_pumpNumbers_some {g : Fin 3 → Bool} {p : Fin 3} (hp : g p = true) (hlow : ∀ x, x < p → g x = false) :
    pumpNumbers.find? g = some p := by
  unfold pumpNumbers
  fin_cases p
  · simp_all
  · have first := hlow 0 (by decide)
    simp_all
  · have first := hlow 0 (by decide)
    have second := hlow 1 (by decide)
    simp_all

theorem find_pumpNumbers_none {g : Fin 3 → Bool} (h : ∀ x, g x = false) : pumpNumbers.find? g = none := by
  simp [h]

/-- A pump that no system order may be given (R71). -/
def Away (s : State) (p : Fin 3) : Prop := (s.pumps.get p).state = .faulted ∨ (s.pumps.get p).state = .outOfService

theorem pumpAvailable_false {s : State} {p : Fin 3} : pumpAvailable s p = false ↔ Away s p := by
  unfold pumpAvailable Away
  cases (s.pumps.get p).state <;> decide

theorem pumpAvailable_true {s : State} {p : Fin 3} : pumpAvailable s p = true ↔ ¬ Away s p := by
  rw [← pumpAvailable_false, Bool.not_eq_false]

theorem choosePump_some {s : State} {p : Fin 3} (hp : ¬ Away s p) (hlow : ∀ x, x < p → Away s x) : choosePump s = some p :=
  find_pumpNumbers_some (pumpAvailable_true.2 hp) fun x hx => pumpAvailable_false.2 (hlow x hx)

theorem choosePump_none {s : State} (h : ∀ x, Away s x) : choosePump s = none :=
  find_pumpNumbers_none fun x => pumpAvailable_false.2 (h x)

theorem chooseOther_some {s : State} {k p : Fin 3} (hk : p ≠ k) (hp : ¬ Away s p) (hlow : ∀ x, x < p → x ≠ k → Away s x) :
    chooseOther s k = some p := by
  refine find_pumpNumbers_some (by simp [hk, pumpAvailable_true.2 hp]) fun x hx => ?_
  by_cases h : x = k
  · simp [h]
  · simp [pumpAvailable_false.2 (hlow x hx h)]

theorem chooseOther_none {s : State} {k : Fin 3} (h : ∀ x, x ≠ k → Away s x) : chooseOther s k = none := by
  refine find_pumpNumbers_none fun x => ?_
  by_cases hx : x = k
  · simp [hx]
  · simp [pumpAvailable_false.2 (h x hx)]

/-! ### What a stop leaves of the other pumps -/

/-- A grant takes a channel from CLAIMING to STARTING or RUNNING, so none comes to or from FAULTED or OUT_OF_SERVICE. -/
theorem takeGrant_away (k : Claimant) (s : State) (p : Fin 3) : Away (takeGrant k s) p ↔ Away s p := by
  by_cases hq : (s.pumps.get p).state = .claiming
  · have before : ¬ Away s p := by unfold Away; rw [hq]; decide
    have after : ¬ Away (takeGrant k s) p := by
      rcases takeGrant_entry k s p with e | ⟨⟨hr, -⟩ | hr, -⟩ <;> unfold Away
      · rw [e]; exact before
      · rw [hr]; decide
      · rw [hr]; decide
    exact iff_of_false after before
  · unfold Away; rw [takeGrant_pump k s p hq]

theorem walk_away (n : Nat) (s : State) (p : Fin 3) : Away (walk n s) p ↔ Away s p :=
  walk_keeps_pumps (P := fun t => ((t.get p).state = .faulted ∨ (t.get p).state = .outOfService) ↔ Away s p)
    (fun k t ht => (takeGrant_away k t p).trans ht) n s Iff.rfl

theorem stopCommand_away {k p : Fin 3} (hp : p ≠ k) (noFlow : Bool) (s : State) : Away (stopCommand k noFlow s) p ↔ Away s p := by
  have before : Away (stopBy id k noFlow s) p ↔ Away s p := by unfold Away; rw [stopBy_id_other k p noFlow s hp]
  rcases stopBy_walk runWalk k noFlow s with e | e <;> unfold stopCommand <;> rw [e]
  · exact before
  · exact (walk_away 64 _ p).trans before

/-! ### The end of a run -/

/-- What the assignment of a pump becomes when its run ends, by the state its channel is left in (R49, R54). -/
def restedAssignment (n : Nat) (cause : Option Hold) (q : PumpState) : Assignment :=
  if q = .stopping ∨ q = .lockout then { holder := none, lastHolder := some n, lastCause := cause, noFlow := none }
  else { holder := none, lastHolder := none, lastCause := none, noFlow := none }

theorem endRun_eq (n : Nat) (p : Fin 3) (noFlow : Bool) (cause : Option Hold) (s : State) :
    endRun n p noFlow cause s =
      setAssign p (restedAssignment n cause ((stopCommand p noFlow s).pumps.get p).state) (stopCommand p noFlow s) := by
  unfold endRun restedAssignment
  by_cases h : ((stopCommand p noFlow s).pumps.get p).state = .stopping ∨ ((stopCommand p noFlow s).pumps.get p).state = .lockout <;>
    simp [h]

theorem endRun_assignment (n : Nat) (p : Fin 3) (noFlow : Bool) (cause : Option Hold) (s : State) :
    (endRun n p noFlow cause s).fill.get p = restedAssignment n cause ((stopCommand p noFlow s).pumps.get p).state := by
  rw [endRun_eq]; exact trio_get_set_same _ _ _

theorem endRun_pumps (n : Nat) (p : Fin 3) (noFlow : Bool) (cause : Option Hold) (s : State) :
    (endRun n p noFlow cause s).pumps = (stopCommand p noFlow s).pumps := rfl

/-! ### Placement -/

theorem insertRecord_other {r : Record} {n : Nat} (hn : n ≠ r.number) (rs : List Record) :
    (insertRecord r rs).find? (fun x => x.number = n) = rs.find? (fun x => x.number = n) := by
  have skips (l : List Record) : (r :: l).find? (fun x => x.number = n) = l.find? (fun x => x.number = n) :=
    List.find?_cons_of_neg (by simpa using hn.symm)
  induction rs with
  | nil => exact skips []
  | cons x rest ih =>
    unfold insertRecord; split
    · exact skips _
    · rw [List.find?_cons, List.find?_cons, ih]

theorem placeSystem_live {n : Nat} {s : State} (h : isLive n s = true) (t : Nat) : placeSystem n t s = s := if_pos h

section
variable {n : Nat} {s : State} (h : isLive n s = false) (t : Nat)
include h

theorem placeSystem_eq :
    placeSystem n t s =
      bookChanged n (setRecords (insertRecord (systemRecord n t ((choosePump s).getD 0)) s.book.records) s) :=
  if_neg (by rw [h]; exact Bool.false_ne_true)

theorem placeSystem_other {k : Nat} (hk : k ≠ n) : findRecord k (placeSystem n t s) = findRecord k s := by
  rw [placeSystem_eq h, findRecord_bookChanged]
  exact insertRecord_other hk _

theorem placeSystem_finds : findRecord n (placeSystem n t s) = some (systemRecord n t ((choosePump s).getD 0)) := by
  rw [placeSystem_eq h, findRecord_bookChanged]
  exact insertRecord_finds (systemRecord n t _) s.book.records (isLive_eq_false.1 h)

theorem placeSystem_agenda :
    (placeSystem n t s).agenda = s.agenda ++ (if n = 241 then [.evalFill, .frostJudge] else [.evalFill]) := by
  rw [placeSystem_eq h]
  unfold bookChanged; dsimp only
  split
  · exact List.append_assoc _ _ _
  · rfl

end

/-- The pump R71 chooses for a new system order. -/
theorem choosePump_getD {s : State} {p : Fin 3} (h : (¬ Away s p ∧ ∀ x, x < p → Away s x) ∨ ((∀ x, Away s x) ∧ p = 0)) :
    (choosePump s).getD 0 = p := by
  rcases h with ⟨hp, hlow⟩ | ⟨hall, rfl⟩
  · rw [choosePump_some hp hlow]; rfl
  · rw [choosePump_none hall]; rfl

/-! ### Withdrawal and move -/

theorem judgeTurned_book (first : Option Nat) (s : State) : (judgeTurned first s).book = s.book := low_book (judgeTurned_low first s)

theorem newPump_eq {n : Nat} {s : State} {f : FillRecord} (hf : findFill n s = some f) (noFlow : Bool) :
    newPump n noFlow s =
      bookChanged n (putFill n
        { f with state := if f.context.isSome then .suspended else .due, hold := some .pump,
                 pump := (chooseOther (endRun n f.pump noFlow (some .pump) s) f.pump).getD f.pump }
        (endRun n f.pump noFlow (some .pump) s)) := by
  unfold newPump; rw [hf]

/-- The pump a system order is moved to: the lowest-numbered other one that it may be given, or the same (R72). -/
theorem chooseOther_endRun {s : State} {k p : Fin 3}
    (h : (p ≠ k ∧ ¬ Away s p ∧ ∀ x, x < p → x ≠ k → Away s x) ∨ ((∀ x, x ≠ k → Away s x) ∧ p = k))
    (n : Nat) (noFlow : Bool) (cause : Option Hold) :
    (chooseOther (endRun n k noFlow cause s) k).getD k = p := by
  have same {x : Fin 3} (hx : x ≠ k) : Away (endRun n k noFlow cause s) x ↔ Away s x := stopCommand_away hx noFlow s
  rcases h with ⟨hk, hp, hlow⟩ | ⟨hall, rfl⟩
  · rw [chooseOther_some hk (fun e => hp ((same hk).1 e)) fun x hx hxk => (same hxk).2 (hlow x hx hxk)]; rfl
  · rw [chooseOther_none fun x hx => (same hx).2 (hall x hx)]; rfl

theorem restedAssignment_holder (n : Nat) (c : Option Hold) (q : PumpState) :
    (restedAssignment n c q).holder = none ∧ (restedAssignment n c q).noFlow = none := by
  unfold restedAssignment; split <;> exact ⟨rfl, rfl⟩

theorem restedAssignment_lastHolder (n : Nat) (c : Option Hold) (q : PumpState) :
    (restedAssignment n c q).lastHolder = if q = .stopping ∨ q = .lockout then some n else none := by
  unfold restedAssignment; split <;> rfl

/-- Settles O39: the pump each order is put on is the first that answers, which no stop of another pump changes. -/
theorem systemOrders : Obligations.SystemOrders := by
  intro s away places
  have placed (note : Note) (n t : Nat) (hn : handle note s = placeSystem n t s) :
      places note n t (if n = 241 then [.evalFill, .frostJudge] else [.evalFill]) := by
    refine ⟨fun h => hn.trans (placeSystem_live h t), fun h => ?_⟩
    intro v
    rw [show v = placeSystem n t s from hn]
    refine ⟨fun k hk => placeSystem_other h t hk, placeSystem_agenda h t, fun p hp => ?_⟩
    rw [placeSystem_finds h, choosePump_getD hp]
    rfl
  refine ⟨placed _ 240 _ rfl, fun t => placed _ 241 t rfl, ⟨fun h => ?_, fun f hf => ⟨fun hw => ?_, fun h1 h2 => ?_⟩⟩, ?_⟩
  · show takeWithdrawal s = s
    unfold takeWithdrawal; rw [h]
  · have withdrawn : takeWithdrawal s =
        bookChanged 241 (judgeTurned (f.context.map (·.first)) (removeRecord 241 s)) := by
      unfold takeWithdrawal; rw [hf]; exact if_pos hw
    have found (k : Nat) : findRecord k (takeWithdrawal s) = findRecord k (removeRecord 241 s) := by
      rw [withdrawn, findRecord_bookChanged]
      exact findRecord_congr (judgeTurned_book _ _) k
    exact ⟨(found 241).trans (removeRecord_finds 241 s), fun k hk => (found k).trans (removeRecord_other 241 k s hk)⟩
  · show takeWithdrawal s = s
    unfold takeWithdrawal; rw [hf]; exact if_neg (by tauto)
  · intro n r f hr hb
    have hf := findFill_of_record hr hb
    refine ⟨fun p => ?_, fun noFlow => ?_⟩
    · have moves : actOn r (.movePump p) s = bookChanged n (putFill n { f with pump := p } s) := by
        unfold actOn
        simp only [findRecord_number hr, hf]
      rw [moves, findRecord_bookChanged]
      exact putFill_finds n _ s r hr
    · intro u q
      have ends : u = _ := newPump_eq hf noFlow
      have fill : u.fill.get f.pump = restedAssignment n (some .pump) q.state := by
        have pumps : u.pumps = (endRun n f.pump noFlow (some .pump) s).pumps := by rw [ends, bookChanged_pumps]; rfl
        rw [show q = u.pumps.get f.pump from rfl, pumps, endRun_pumps, ← endRun_assignment, ends, bookChanged_fill]
        rfl
      refine ⟨fun p hp => ?_, ?_, ?_, ?_, ?_, ?_⟩
      · rw [ends, findRecord_bookChanged, putFill_finds n _ _ r ((findRecord_endRun n n _ _ _ s).trans hr),
          chooseOther_endRun hp]
      · rw [ends, bookChanged_book]
        show (endRun n f.pump noFlow (some .pump) s).book.outcomes = _
        rw [endRun_book]
      · show pumpsFluid (u.pumps.get f.pump).state = false
        rw [ends, bookChanged_pumps]
        exact stopCommand_not_fluid f.pump noFlow s
      · rw [fill]; exact (restedAssignment_holder _ _ _).1
      · rw [fill]; exact (restedAssignment_holder _ _ _).2
      · rw [fill]; exact restedAssignment_lastHolder _ _ _

end Sys2Proof.Machine
end

section
/-! PROOF. Flow and the lack of it at the pump of a run (R59, R60). -/

namespace Sys2Proof.Machine
open Sys2Proof.Safety

/-! ### The pumps of a service -/

/-- A service stops the pump of a run, and moves no channel otherwise. -/
theorem serveOn_pumps (day n : Nat) (o : Served) {s : State} {r : Record} {f : FillRecord} (hr : findRecord n s = some r)
    (hb : r.body = .fill f) : (serveOn day n o s).pumps = (runEnded n f s).pumps := by
  rw [serveOn_eq day n o hr hb]; dsimp only
  rw [bookChanged_pumps]
  have written : (putFill n (servedFill day o f) (runEnded n f s)).pumps = (runEnded n f s).pumps := rfl
  generalize putFill n (servedFill day o f) (runEnded n f s) = t at written
  repeat' split
  all_goals exact written

theorem runEnded_run {n : Nat} {f : FillRecord} (h : inRun f = true) (s : State) : runEnded n f s = endRun n f.pump false none s :=
  if_pos h

theorem inRun_of_running {f : FillRecord} (h : f.state = .running) : inRun f = true := by simp [inRun, h]

theorem inRun_of_starting {f : FillRecord} (h : f.state = .starting) : inRun f = true := by simp [inRun, h]

/-! ### A flow pulse -/

section
variable {p : Fin 3} {n : Nat} {f : FillRecord} {s : State}

theorem takeFlowPulse_unheld (h : (s.fill.get p).holder = none) : takeFlowPulse p s = s := by
  unfold takeFlowPulse; simp only [h]

variable (hh : (s.fill.get p).holder = some n)
include hh

theorem takeFlowPulse_waiting (hf : findFill n s = some f) (hq : f.state ≠ .running) : takeFlowPulse p s = s := by
  unfold takeFlowPulse; simp only [hh, hf, if_pos hq]

theorem takeFlowPulse_running (hf : findFill n s = some f) (hq : f.state = .running) {c : Context} (hc : f.context = some c) :
    takeFlowPulse p s =
      setAssign p { s.fill.get p with noFlow := some s.gs.noFlowTime }
        (putFill n { f with context := some { c with litres := min 16777215 (c.litres + s.gs.litres.get p) } } s) := by
  unfold takeFlowPulse
  simp only [hh, hf, if_neg (not_not.2 hq), hc, Option.map_some]

/-! ### A no-flow expiry -/

variable {o : Origin} {k : Nat} (hr : findRecord n s = some { number := n, origin := o, revision := k, body := .fill f })
include hr

/-- A timer restarted in this second does not expire. -/
theorem takeNoFlow_fresh (h : mayExpire s.gs.noFlowTime (s.fill.get p).noFlow = false) : takeNoFlow p s = s := by
  unfold takeNoFlow
  simp [hh, hr, h]

theorem takeNoFlow_expires (hq : f.state = .running) (h : mayExpire s.gs.noFlowTime (s.fill.get p).noFlow = true) :
    takeNoFlow p s = if o = .system then newPump n true s else serveFill n .noFlow (stopCommand p true s) := by
  unfold takeNoFlow
  simp only [hh, hr, hq, h, and_self, if_true]

end

theorem mayExpire_eq_true {time : Nat} {t : Option Nat} : mayExpire time t = true ↔ ∃ x, t = some x ∧ x < time := by
  cases t <;> simp [mayExpire]

/-! ### The stop of a pump that gave no flow -/

theorem stopCommand_noFlow {p : Fin 3} {s : State} (hq : (s.pumps.get p).state = .running) (hf : s.inputs.feedback.get p = true) :
    ((stopCommand p true s).pumps.get p).state = .stopping ∧ ((stopCommand p true s).pumps.get p).stopCause = .noFlow := by
  rw [stopCommand_closed p s (.inr hq) hf, told_self]
  exact ⟨rfl, rfl⟩

/-- A second stop leaves the first and its cause standing. -/
theorem stopCommand_again {p : Fin 3} {s : State} (hq : (s.pumps.get p).state = .stopping)
    (hc : (s.pumps.get p).stopCause = .noFlow) (b : Bool) :
    ((stopCommand p b s).pumps.get p).state = .stopping ∧ ((stopCommand p b s).pumps.get p).stopCause = .noFlow := by
  rw [stopCommand_stopping p s hq, setPump_pumps, trio_get_set_same]
  exact ⟨hq, by simp [hc]⟩

theorem stopCommand_book_find (p : Fin 3) (b : Bool) (s : State) (n : Nat) :
    findRecord n (stopCommand p b s) = findRecord n s := findRecord_congr (stopCommand_book p b s) n

theorem stopCommand_clock (p : Fin 3) (b : Bool) (s : State) : (stopCommand p b s).clock = s.clock :=
  calm_clock (stopCommand_calm p b s)

/-- Settles O40: the expiry stops the pump, and the order is served or, a system order, moved. -/
theorem flowAndNoFlow : Obligations.FlowAndNoFlow := by
  refine ⟨fun p s => ⟨fun h => congrArg _ (takeFlowPulse_unheld h), fun n f hh hf =>
    ⟨fun hq => congrArg _ (takeFlowPulse_waiting hh hf hq), fun c hq hc => ?_⟩⟩, ?_⟩
  · obtain ⟨r, hr, hb⟩ := findFill_eq_some.1 hf
    refine ⟨_, congrArg Host.Outcome.next (takeFlowPulse_running hh hf hq hc), findFill_eq_some.2 ⟨_, putFill_finds n _ s r hr, rfl⟩, ?_, ?_,
      fun m hm => putFill_other n m _ s hm, rfl⟩
    · rw [setAssign_fill, trio_get_set_same]
    · rw [setAssign_fill, trio_get_set_same]; exact hh
  · intro p n o k f s hh hq hp hr
    subst hp
    intro u
    refine ⟨rfl, fun h => takeNoFlow_fresh hh hr ?_, fun x hx hlt => ?_⟩
    · refine Bool.eq_false_of_not_eq_true fun e => ?_
      obtain ⟨x, hx, hlt⟩ := mayExpire_eq_true.1 e
      exact absurd (h x hx) (Nat.not_le.2 hlt)
    · have expires := takeNoFlow_expires hh hr hq (mayExpire_eq_true.2 ⟨x, hx, hlt⟩)
      have hrun := inRun_of_running hq
      by_cases ho : o = .system
      · have hf : findFill n s = some f := findFill_eq_some.2 ⟨_, hr, rfl⟩
        have moved : u = newPump n true s := expires.trans (if_pos ho)
        have ends := newPump_eq hf true
        have fill : u.fill.get f.pump =
            restedAssignment n (some .pump) ((stopCommand f.pump true s).pumps.get f.pump).state := by
          rw [moved, ends, bookChanged_fill]
          exact endRun_assignment n f.pump true (some .pump) s
        refine ⟨?_, ?_, fun hs hfb => ?_, fun hn => absurd ho hn, fun _ => ?_⟩
        · rw [fill]; exact (restedAssignment_holder _ _ _).1
        · rw [fill]; exact (restedAssignment_holder _ _ _).2
        · rw [moved, ends, bookChanged_pumps]
          exact stopCommand_noFlow hs hfb
        · have moves := putFill_finds n
            { f with state := if f.context.isSome then .suspended else .due, hold := some .pump,
                     pump := (chooseOther (endRun n f.pump true (some .pump) s) f.pump).getD f.pump }
            _ _ ((findRecord_endRun n n f.pump true (some .pump) s).trans hr)
          rw [← findRecord_bookChanged n n, ← ends, ← moved] at moves
          have found := findFill_of_record moves rfl
          exact ⟨_, found, rfl, rfl, rfl⟩
      · have served : u = serveOn (stopCommand f.pump true s).clock.day n .noFlow (stopCommand f.pump true s) :=
          expires.trans (if_neg ho)
        have found : findRecord n (stopCommand f.pump true s) = _ := (stopCommand_book_find f.pump true s n).trans hr
        have released : Released f.pump u := by rw [served]; exact serveOn_releases _ n .noFlow found rfl hrun
        refine ⟨released.2.1, released.2.2, fun hs hfb => ?_, fun _ => ⟨?_, ?_⟩, fun h => absurd h ho⟩
        · obtain ⟨state, cause⟩ := stopCommand_noFlow hs hfb
          rw [served, serveOn_pumps _ n .noFlow found rfl, runEnded_run hrun]
          exact stopCommand_again state cause false
        · rw [served, serveOn_finds _ n .noFlow found rfl, if_pos hrun, stopCommand_clock]
        · rw [served]; exact serveOn_sets_outcome _ n (by decide) found rfl

end Sys2Proof.Machine
end

section
/-! PROOF. What a service and a suspension leave of the record, of the pumps and of the assignments (R20, R49, R54, R62, R67). -/

namespace Sys2Proof.Machine
open Sys2Proof.Safety

/-! ### The assignments -/

/-- The assignments stand, or the order has left the book and is forgotten by every pump (R49). -/
def Forgets (n : Nat) (s u : State) : Prop :=
  u.fill = s.fill ∨ findRecord n u = none ∧ u.fill = s.fill.map (forgetAssignment n)

theorem forgets_of_fill (n : Nat) {s u : State} (h : u.fill = s.fill) : Forgets n s u := .inl h

theorem Forgets.bookChanged {n : Nat} {s u : State} (h : Forgets n s u) (k : Nat) : Forgets n s (bookChanged k u) := by
  unfold Forgets
  rw [bookChanged_fill, findRecord_bookChanged]
  exact h

theorem Forgets.from {n : Nat} {s t u : State} (h : Forgets n t u) (e : t.fill = s.fill) : Forgets n s u := by
  unfold Forgets at *
  rwa [e] at h

/-- A service forgets an order that leaves the book with it. -/
theorem serveOn_forgets (day n : Nat) (o : Served) {s : State} {r : Record} {f : FillRecord} (hr : findRecord n s = some r)
    (hb : r.body = .fill f) : Forgets n (runEnded n f s) (serveOn day n o s) := by
  rw [serveOn_eq day n o hr hb]; dsimp only
  refine Forgets.bookChanged ?_ n
  have written : (putFill n (servedFill day o f) (runEnded n f s)).fill = (runEnded n f s).fill := rfl
  generalize putFill n (servedFill day o f) (runEnded n f s) = t at written
  have counted : (if r.origin = .system then t else countOutcome o t).fill = (runEnded n f s).fill := by split <;> exact written
  generalize (if r.origin = .system then t else countOutcome o t) = u at counted
  have flagged : (emit (.served (f.context.map (·.first))) (if o = .reached then u else setEvent .outcome u)).fill =
      (runEnded n f s).fill := by split <;> exact counted
  split
  · exact .inr ⟨removeRecord_finds n _, congrArg (Trio.map (forgetAssignment n)) flagged⟩
  · exact .inl flagged

theorem runEnded_waiting {n : Nat} {f : FillRecord} (h : inRun f = false) (s : State) : runEnded n f s = s :=
  if_neg (by rw [h]; exact Bool.false_ne_true)

theorem serveOn_waiting_pumps (day n : Nat) (o : Served) {s : State} {f : FillRecord} (hf : findFill n s = some f)
    (hrun : inRun f = false) : (serveOn day n o s).pumps = s.pumps := by
  obtain ⟨r, hr, hb⟩ := findFill_eq_some.1 hf
  rw [serveOn_pumps day n o hr hb, runEnded_waiting hrun]

theorem serveOn_waiting_forgets (day n : Nat) (o : Served) {s : State} {f : FillRecord} (hf : findFill n s = some f)
    (hrun : inRun f = false) : Forgets n s (serveOn day n o s) := by
  obtain ⟨r, hr, hb⟩ := findFill_eq_some.1 hf
  have forgets := serveOn_forgets day n o hr hb
  rwa [runEnded_waiting hrun] at forgets

/-! ### A judgement by the table of R16 -/

/-- What the judgement of R16 does to the state: nothing, a change of the record alone, or a service of a waiting order. -/
theorem judgeChangedFill_cases (n : Nat) (s : State) :
    judgeChangedFill n s = s ∨ (∃ g, judgeChangedFill n s = putFill n g s) ∨
      ∃ o f, findFill n s = some f ∧ inRun f = false ∧ judgeChangedFill n s = serveFill n o s := by
  unfold judgeChangedFill
  cases hf : findFill n s with
  | none => exact .inl rfl
  | some f =>
    dsimp only
    cases f.window with
    | none => exact .inl rfl
    | some w =>
      have waiting (o : Served) (h : f.state = .due ∨ f.state = .suspended) :
          ∃ o' f', some f = some f' ∧ inRun f' = false ∧ serveFill n o s = serveFill n o' s :=
        ⟨o, f, rfl, by rcases h with h | h <;> simp [inRun, h], rfl⟩
      dsimp only
      cases hq : f.state with
      | pending =>
        dsimp only; split
        · exact .inr (.inl ⟨_, rfl⟩)
        · exact .inl rfl
      | due =>
        dsimp only; split
        · exact .inr (.inr (waiting _ (.inl hq)))
        · split
          · exact .inl rfl
          · exact .inr (.inl ⟨_, rfl⟩)
      | suspended =>
        dsimp only; split
        · exact .inr (.inr (waiting _ (.inr hq)))
        · split
          · exact .inl rfl
          · exact .inr (.inl ⟨_, rfl⟩)
      | _ => exact .inl rfl

theorem judgeChangedFill_pumps (n : Nat) (s : State) : (judgeChangedFill n s).pumps = s.pumps := by
  rcases judgeChangedFill_cases n s with e | ⟨g, e⟩ | ⟨o, f, hf, hrun, e⟩ <;> rw [e]
  · rfl
  · exact serveOn_waiting_pumps _ n o hf hrun

theorem judgeChangedFill_forgets (n : Nat) (s : State) : Forgets n s (judgeChangedFill n s) := by
  rcases judgeChangedFill_cases n s with e | ⟨g, e⟩ | ⟨o, f, hf, hrun, e⟩ <;> rw [e]
  · exact .inl rfl
  · exact .inl rfl
  · exact serveOn_waiting_forgets _ n o hf hrun

theorem judgeApplied_pumps (n : Nat) (f : FillRecord) (s : State) : (judgeApplied n f s).pumps = s.pumps := by
  unfold judgeApplied; split
  · exact judgeChangedFill_pumps n s
  · rfl

theorem judgeApplied_forgets (n : Nat) (f : FillRecord) (s : State) : Forgets n s (judgeApplied n f s) := by
  unfold judgeApplied; split
  · exact judgeChangedFill_forgets n s
  · exact .inl rfl

theorem judgeApplied_other (n m : Nat) (f : FillRecord) (s : State) (hm : m ≠ n) :
    findRecord m (judgeApplied n f s) = findRecord m s := by
  unfold judgeApplied; split
  · exact judgeChangedFill_other n m s hm
  · rfl

/-- The body of the record judged is the one the judgement is of. -/
theorem rejudged_body (day m : Nat) (r : Record) (b : Body) (g : FillRecord) :
    rejudged day m { r with body := b } g = rejudged day m r g := rfl

/-- A record written at a boundary is judged when it had a staged amendment (R20). -/
theorem judgeApplied_writes (n : Nat) (f g : FillRecord) {s : State} {r : Record} (hr : findRecord n s = some r) :
    findRecord n (judgeApplied n f (putFill n g s)) =
      if f.staged.isSome then rejudged s.clock.day s.clock.minute r g else some { r with body := .fill g } := by
  have put := putFill_finds n g s r hr
  unfold judgeApplied
  split
  · exact (judgeChangedFill_finds put rfl).trans (rejudged_body _ _ r _ g)
  · exact put

/-! ### A suspension -/

theorem applyStaged_context (f : FillRecord) (c : Option Context) :
    applyStaged { f with context := c } = { applyStaged f with context := c } := by
  obtain ⟨_, _, _, _, _, _, _, _, _, _, staged⟩ := f
  cases staged <;> rfl

theorem endRun_clock (n : Nat) (p : Fin 3) (b : Bool) (c : Option Hold) (s : State) : (endRun n p b c s).clock = s.clock :=
  stopCommand_clock p b s

/-- A run judged after its end with its record written. -/
theorem endedRun_finds {n : Nat} {s : State} {r : Record} (hr : findRecord n s = some r) (f : FillRecord) (c : Option Hold) (g : FillRecord) :
    findRecord n (bookChanged n (judgeApplied n f (putFill n g (endRun n f.pump false c s)))) =
      if f.staged.isSome then rejudged s.clock.day s.clock.minute r g else some { r with body := .fill g } := by
  rw [findRecord_bookChanged, judgeApplied_writes n f g ((findRecord_endRun n n f.pump false c s).trans hr), endRun_clock]

section
variable {n : Nat} {s : State} {r : Record} {f : FillRecord} (hr : findRecord n s = some r) (hb : r.body = .fill f)
include hr hb

/-- The eighth interruption serves the order (R62). -/
theorem suspendFill_interrupts (h : Hold) (back : Bool) {c : Context} (hc : f.context = some c) (h8 : 8 ≤ c.interruptions + 1) :
    suspendFill n h back s =
      serveFill n .interrupted
        (putFill n { f with context := some { c with interruptions := c.interruptions + 1 } } s) := by
  unfold suspendFill
  rw [findFill_of_record hr hb]
  simp only [hc, if_pos h8]

theorem suspendFill_suspends (h : Hold) (back : Bool) {c : Context} (hc : f.context = some c) (h8 : ¬ 8 ≤ c.interruptions + 1) :
    suspendFill n h back s =
      bookChanged n (judgeApplied n f
        (putFill n
          { applyStaged f with
              state := .suspended, hold := some h, context := some { c with interruptions := c.interruptions + 1 } }
          (endRun n f.pump false (some h) s))) := by
  unfold suspendFill
  rw [findFill_of_record hr hb]
  simp only [hc, if_neg h8]

theorem suspendFill_returns (h : Hold) (back : Bool) (hc : f.context = none) :
    suspendFill n h back s =
      bookChanged n (judgeApplied n f
        (putFill n
          (if back then { applyStaged f with state := .pending, hold := none }
           else { applyStaged f with state := .due, hold := some h })
          (endRun n f.pump false (if back then none else some h) s))) := by
  unfold suspendFill
  rw [findFill_of_record hr hb]
  simp only [hc]

variable (hrun : inRun f = true)
include hrun

/-- A run suspended: its record is as R62 gives it. -/
theorem suspendFill_finds (h : Hold) (back : Bool) :
    findRecord n (suspendFill n h back s) = suspendedRecord s.clock.day s.clock.minute h back r f := by
  unfold suspendedRecord
  dsimp only
  cases hc : f.context with
  | none =>
    rw [suspendFill_returns hr hb h back hc, endedRun_finds hr]
    cases back <;> rfl
  | some c =>
    dsimp only
    by_cases h8 : 8 ≤ c.interruptions + 1
    · rw [suspendFill_interrupts hr hb h back hc h8, if_pos h8]
      have put := putFill_finds n { f with context := some { c with interruptions := c.interruptions + 1 } } s r hr
      have running : inRun { f with context := some { c with interruptions := c.interruptions + 1 } } = true := hrun
      unfold serveFill
      rw [serveOn_finds _ n .interrupted put rfl, if_pos running, applyStaged_context]
      rfl
    · rw [suspendFill_suspends hr hb h back hc h8, if_neg h8, endedRun_finds hr]

end

theorem suspendFill_other (n m : Nat) (h : Hold) (back : Bool) (s : State) (hm : m ≠ n) :
    findRecord m (suspendFill n h back s) = findRecord m s := by
  have ended (p : Fin 3) (c : Option Hold) (g f : FillRecord) :
      findRecord m (bookChanged n (judgeApplied n f (putFill n g (endRun n p false c s)))) = findRecord m s := by
    rw [findRecord_bookChanged, judgeApplied_other n m f _ hm, putFill_other n m g _ hm, findRecord_endRun]
  unfold suspendFill
  cases findFill n s with
  | none => rfl
  | some f =>
    dsimp only
    cases f.context with
    | none => exact ended _ _ _ _
    | some c =>
      dsimp only
      split
      · exact (serveOn_other _ n m _ _ hm).trans (putFill_other n m _ s hm)
      · exact ended _ _ _ _

end Sys2Proof.Machine
end

section
/-! PROOF. The ends of a run: a service, a suspension and a start that ends; and what the channels report of it (R57, R58, R61 to R67). -/

namespace Sys2Proof.Machine
open Sys2Proof.Safety

/-! ### The assignment a run leaves -/

/-- The pump's assignment is what the end of the run left, forgotten again if the order has left the book since. -/
def RunOver (n : Nat) (cause : Option Hold) (p : Fin 3) (u : State) : Prop :=
  u.fill.get p = restedAssignment n cause (u.pumps.get p).state ∨
    findRecord n u = none ∧ u.fill.get p = forgetAssignment n (restedAssignment n cause (u.pumps.get p).state)

theorem runOver_of_forgets {n : Nat} {cause : Option Hold} {p : Fin 3} {b : Bool} {s u : State}
    (hf : Forgets n (endRun n p b cause s) u) (hp : u.pumps = (stopCommand p b s).pumps) : RunOver n cause p u := by
  unfold RunOver
  rw [hp, ← endRun_assignment]
  rcases hf with e | ⟨gone, e⟩ <;> rw [e]
  · exact .inl rfl
  · exact .inr ⟨gone, trio_get_map _ _ _⟩

/-- What the obligation asks of the pump of a run that is over. -/
def LetGo (n : Nat) (p : Fin 3) (u : State) : Prop :=
  pumpsFluid (u.pumps.get p).state = false ∧ (u.fill.get p).holder = none ∧ (u.fill.get p).noFlow = none ∧
    (findRecord n u ≠ none →
      ((u.pumps.get p).state = .stopping ∨ (u.pumps.get p).state = .lockout → (u.fill.get p).lastHolder = some n) ∧
      ((u.pumps.get p).state ≠ .stopping → (u.pumps.get p).state ≠ .lockout → (u.fill.get p).lastHolder = none))

theorem RunOver.letGo {n : Nat} {cause : Option Hold} {p : Fin 3} {u : State} (h : RunOver n cause p u)
    (hp : pumpsFluid (u.pumps.get p).state = false) : LetGo n p u := by
  obtain ⟨holder, noFlow⟩ := restedAssignment_holder n cause (u.pumps.get p).state
  refine ⟨hp, ?_⟩
  rcases h with e | ⟨gone, e⟩ <;> rw [e]
  · refine ⟨holder, noFlow, fun _ => ?_⟩
    rw [restedAssignment_lastHolder]
    exact ⟨fun rests => if_pos rests, fun h1 h2 => if_neg (by tauto)⟩
  · refine ⟨?_, ?_, fun stands => absurd gone stands⟩ <;> simp [forgetAssignment, holder, noFlow]

/-- The last holder keeps the cause its run ended with (R54). -/
theorem RunOver.lastCause {n : Nat} {cause : Option Hold} {p : Fin 3} {u : State} (h : RunOver n cause p u)
    (hl : (u.fill.get p).lastHolder = some n) : (u.fill.get p).lastCause = cause := by
  rcases h with e | ⟨-, e⟩ <;> rw [e] at hl ⊢
  · unfold restedAssignment at hl ⊢
    split at hl
    · rename_i rests; rw [if_pos rests]
    · exact absurd hl nofun
  · unfold forgetAssignment at hl
    dsimp only at hl
    split at hl
    · exact absurd hl nofun
    · rename_i other; exact absurd hl other

section
variable {n : Nat} {s : State} {r : Record} {f : FillRecord} (hr : findRecord n s = some r) (hb : r.body = .fill f)
include hr hb

/-! ### A service -/

theorem serveOn_run_pumps (day : Nat) (o : Served) :
    (serveOn day n o s).pumps = (if inRun f then stopCommand f.pump false s else s).pumps := by
  rw [serveOn_pumps day n o hr hb]
  unfold runEnded; split <;> rfl

theorem serveOn_letGo (day : Nat) (o : Served) (hrun : inRun f = true) : LetGo n f.pump (serveOn day n o s) := by
  have forgets := serveOn_forgets day n o hr hb
  have pumps := serveOn_pumps day n o hr hb
  rw [runEnded_run hrun] at forgets pumps
  exact (runOver_of_forgets forgets pumps).letGo (serveOn_releases day n o hr hb hrun).1

theorem serveOn_outcomes (day : Nat) (o : Served) :
    (serveOn day n o s).book.outcomes = if r.origin = .system then s.book.outcomes else addOutcome o s.book.outcomes := by
  have ended : (runEnded n f s).book = s.book := by
    unfold runEnded; split
    · exact endRun_book n f.pump false none s
    · rfl
  rw [serveOn_eq day n o hr hb]; dsimp only
  rw [bookChanged_book]
  have written : (putFill n (servedFill day o f) (runEnded n f s)).book.outcomes = s.book.outcomes :=
    show (runEnded n f s).book.outcomes = _ by rw [ended]
  generalize putFill n (servedFill day o f) (runEnded n f s) = t at written
  have counted : (if r.origin = .system then t else countOutcome o t).book.outcomes =
      if r.origin = .system then s.book.outcomes else addOutcome o s.book.outcomes := by
    rw [← written]; split <;> rfl
  rw [← counted]
  generalize (if r.origin = .system then t else countOutcome o t) = u
  repeat' split
  all_goals rfl

theorem serveOn_announces (day : Nat) (o : Served) : .served (f.context.map (·.first)) ∈ (serveOn day n o s).agenda := by
  rw [serveOn_eq day n o hr hb]; dsimp only
  refine (bookChanged_grows n _).mem ?_
  generalize (if o = .reached then _ else _ : State) = u
  have said : .served (f.context.map (·.first)) ∈ (emit (.served (f.context.map (·.first))) u).agenda :=
    List.mem_append_right _ List.mem_cons_self
  split
  · exact (removeRecord_grows n _).mem said
  · exact said

/-! ### A suspension -/

/-- Until the eighth interruption a suspension ends the run with a cause and goes on to judge the order. -/
theorem suspendFill_over (h : Hold) (back : Bool) (few : ∀ c, f.context = some c → c.interruptions < 7) :
    (suspendFill n h back s).pumps = (stopCommand f.pump false s).pumps ∧
      RunOver n (if f.context = none ∧ back = true then none else some h) f.pump (suspendFill n h back s) := by
  have ends (c : Option Hold) (g : FillRecord) :
      (bookChanged n (judgeApplied n f (putFill n g (endRun n f.pump false c s)))).pumps = (stopCommand f.pump false s).pumps ∧
        RunOver n c f.pump (bookChanged n (judgeApplied n f (putFill n g (endRun n f.pump false c s)))) := by
    have pumps : (bookChanged n (judgeApplied n f (putFill n g (endRun n f.pump false c s)))).pumps =
        (stopCommand f.pump false s).pumps := by rw [bookChanged_pumps, judgeApplied_pumps]; rfl
    have forgets : Forgets n (endRun n f.pump false c s) (judgeApplied n f (putFill n g (endRun n f.pump false c s))) :=
      (judgeApplied_forgets n f (putFill n g (endRun n f.pump false c s))).from rfl
    exact ⟨pumps, runOver_of_forgets (forgets.bookChanged n) pumps⟩
  cases hc : f.context with
  | none =>
    rw [suspendFill_returns hr hb h back hc]
    have cause : (if none = (none : Option Context) ∧ back = true then none else some h) = if back then none else some h := by
      cases back <;> rfl
    rw [cause]
    exact ends _ _
  | some c =>
    have h8 : ¬ 8 ≤ c.interruptions + 1 := by have := few c hc; omega
    rw [suspendFill_suspends hr hb h back hc h8]
    exact ends _ _

theorem suspendFill_letGo (h : Hold) (back : Bool) (hrun : inRun f = true) : LetGo n f.pump (suspendFill n h back s) := by
  by_cases few : ∀ c, f.context = some c → c.interruptions < 7
  · obtain ⟨pumps, ended⟩ := suspendFill_over hr hb h back few
    exact ended.letGo (by rw [pumps]; exact stopCommand_not_fluid f.pump false s)
  · push Not at few
    obtain ⟨c, hc, h7⟩ := few
    rw [suspendFill_interrupts hr hb h back hc (by omega)]
    exact serveOn_letGo (putFill_finds n _ s r hr) rfl _ _ hrun

/-! ### A start that ends -/

theorem endStart_eq :
    endStart n s =
      bookChanged n (judgeApplied n f
        (putFill n { applyStaged f with state := if f.context.isSome then .suspended else .due, hold := some .pump }
          (setAssign f.pump { holder := none, lastHolder := none, lastCause := none, noFlow := none } s))) := by
  unfold endStart
  rw [findFill_of_record hr hb]

theorem endStart_finds :
    findRecord n (endStart n s) =
      if f.staged.isSome then
        rejudged s.clock.day s.clock.minute r
          { applyStaged f with state := if f.context.isSome then .suspended else .due, hold := some .pump }
      else
        some { r with
          body := .fill { applyStaged f with state := if f.context.isSome then .suspended else .due, hold := some .pump } } := by
  rw [endStart_eq hr hb, findRecord_bookChanged]
  exact judgeApplied_writes n f _ hr

theorem endStart_pumps : (endStart n s).pumps = s.pumps := by
  rw [endStart_eq hr hb, bookChanged_pumps, judgeApplied_pumps]
  rfl

theorem endStart_holder : ((endStart n s).fill.get f.pump).holder = none := by
  rw [endStart_eq hr hb, bookChanged_fill]
  rcases judgeApplied_forgets n f (putFill n
    { applyStaged f with state := if f.context.isSome then .suspended else .due, hold := some .pump }
    (setAssign f.pump { holder := none, lastHolder := none, lastCause := none, noFlow := none } s)) with e | ⟨-, e⟩ <;>
    rw [e] <;> simp [forgetAssignment, putFill]

/-! ### What a channel reports of its holder -/

variable {p : Fin 3} (hh : (s.fill.get p).holder = some n)
include hh

theorem takeRunningConfirmed_starts (hq : f.state = .starting) :
    takeRunningConfirmed p s =
      bookChanged n (setAssign p { s.fill.get p with noFlow := some s.gs.noFlowTime }
        (putFill n
          { f with state := .running, hold := none,
                   context := f.context.or ((filtered s).map (fun l => { litres := 0, first := l, interruptions := 0 })) } s)) := by
  unfold takeRunningConfirmed
  simp only [hh, findFill_of_record hr hb]
  rw [if_neg (not_not.2 hq)]
  cases hc : f.context <;> simp [hh, putFill]

theorem takeFeedbackDrop_eq : takeFeedbackDrop p s = if f.state = .running then suspendFill n .pump false s else s := by
  unfold takeFeedbackDrop
  simp only [hh, findFill_of_record hr hb]

theorem takeReclaimReport_eq :
    takeReclaimReport p s = if claimReclaiming p s && inRun f then suspendFill n .supply false s else s := by
  unfold takeReclaimReport
  simp only [hh, findFill_of_record hr hb]

/-- A channel at rest, or in LOCKOUT, lets its RETIRING holder leave the book (R22). -/
theorem takePumpChanged_retires (hq : f.state = .retiring)
    (hp : (s.pumps.get p).state = .stopped ∨ (s.pumps.get p).state = .lockout ∨ (s.pumps.get p).state = .faulted ∨
      (s.pumps.get p).state = .outOfService) : findRecord n (takePumpChanged p s) = none := by
  have rests : forgetsLast (s.pumps.get p).state = true ∨ (s.pumps.get p).state = .lockout := by
    rcases hp with e | e | e | e <;> simp [e, forgetsLast]
  unfold takePumpChanged
  dsimp only
  have same (t : State) (ht : t.book = s.book) : findFill n t = some f := by
    rw [findFill_congr (congrArg Book.records ht)]; exact findFill_of_record hr hb
  have found : findFill n (if forgetsLast (s.pumps.get p).state = true then
      setAssign p { s.fill.get p with lastHolder := none, lastCause := none } s else s) = some f := by
    split
    · exact same _ rfl
    · exact same _ rfl
  generalize (if forgetsLast (s.pumps.get p).state = true then
      setAssign p { s.fill.get p with lastHolder := none, lastCause := none } s else s) = t at found
  simp only [hh, found]
  rw [if_pos ⟨hq, rests⟩]
  exact removeRecord_finds n t

end

/-- Settles O37: each end of a run is an equation of the order's record, of its pump and of the assignment it leaves. -/
theorem runsEnd : Obligations.RunsEnd := by
  refine ⟨fun s n r f hr hb => ?_, fun c => ⟨rfl, rfl, rfl, rfl, rfl, rfl, rfl⟩⟩
  intro d m released
  refine ⟨fun o => ?_, fun h back hrun => ?_, fun hrun => ?_, fun hst => ?_, fun c w hst hw => ?_, ?_, ?_, ?_, fun p hh => ?_⟩
  · exact ⟨serveOn_finds d n o hr hb, fun k hk => serveOn_other d n k o s hk, serveOn_letGo hr hb d o,
      serveOn_run_pumps hr hb d o, serveOn_outcomes hr hb d o, fun ho => serveOn_sets_outcome d n ho hr hb,
      serveOn_announces hr hb d o⟩
  · refine ⟨suspendFill_finds hr hb hrun h back, fun k hk => suspendFill_other n k h back s hk,
      fun _ => suspendFill_letGo hr hb h back hrun, fun few => ?_⟩
    obtain ⟨pumps, ended⟩ := suspendFill_over hr hb h back few
    exact ⟨pumps, ended.lastCause⟩
  · exact ⟨endStart_finds hr hb, endStart_holder hr hb, endStart_pumps hr hb⟩
  · unfold applyStaged; simp only [hst]
  · unfold applyStaged applyChange changed; simp only [hst, hw]; rfl
  · rintro ⟨c, hc, pos⟩
    unfold closingOutcome; simp only [hc]; exact if_pos pos
  · intro h
    unfold closingOutcome
    cases hc : f.context with
    | none => rfl
    | some c => exact if_neg (by rw [h c hc]; decide)
  · unfold actOn pumpFailed; rfl
  · refine ⟨fun hq => ?_, fun hq => ?_, fun hq => ?_, fun hc hrun => ?_, fun hc => ?_, takePumpChanged_retires hr hb hh⟩
    · have starts := takeRunningConfirmed_starts hr hb hh hq
      refine ⟨fun l hl => ?_, ?_, ?_⟩
      · have put := putFill_finds n
          { f with state := .running, hold := none,
                   context := f.context.or ((filtered s).map (fun l => { litres := 0, first := l, interruptions := 0 })) } s r hr
        have found := (congrArg (findRecord n) starts).trans ((findRecord_bookChanged n n _).trans put)
        refine (findFill_of_record found rfl).trans ?_
        rw [hl]
        cases f.context <;> rfl
      · show ((takeRunningConfirmed p s).fill.get p).noFlow = _
        rw [starts, bookChanged_fill]; simp
      · show ((takeRunningConfirmed p s).fill.get p).holder = _
        rw [starts, bookChanged_fill]; simp [hh]
    · exact (takeFeedbackDrop_eq hr hb hh).trans (if_pos hq)
    · exact (takeFeedbackDrop_eq hr hb hh).trans (if_neg hq)
    · exact (takeReclaimReport_eq hr hb hh).trans (if_pos (by rw [hc, hrun]; rfl))
    · refine (takeReclaimReport_eq hr hb hh).trans (if_neg ?_)
      rcases hc with hc | hc <;> simp [hc]

end Sys2Proof.Machine
end

section
/-! PROOF. What the arbiter, the pumps and the fill controller leave of the frost controller: everything but the states and timers of the
circuits (chapter 7). -/

namespace Sys2Proof.Machine
open Sys2Proof.Safety

/-- The frost controller less the states and timers of its circuits. -/
def settings (s : State) : Frost :=
  { s.frost with circuits := s.frost.circuits.map (fun q => { q with state := .off, timer := none }) }

theorem settings_of_frost {s t : State} (h : t.frost = s.frost) : settings t = settings s := by unfold settings; rw [h]

/-! ### What equal settings share -/

section
variable {s t : State} (h : settings t = settings s)
include h

theorem settings_probes : t.frost.probes = s.frost.probes := (Frost.mk.inj h).1
theorem settings_pipe : t.frost.pipe = s.frost.pipe := (Frost.mk.inj h).2.2.1
theorem settings_stagnation : t.frost.stagnation = s.frost.stagnation := (Frost.mk.inj h).2.2.2.1
theorem settings_fallback : t.frost.fallback = s.frost.fallback := (Frost.mk.inj h).2.2.2.2

theorem settings_setpoint (c : Fin 8) : (t.frost.circuits.get c).setpoint = (s.frost.circuits.get c).setpoint := by
  have circuits := congrArg (fun o : Octo Circuit => (o.get c).setpoint) (Frost.mk.inj h).2.1
  simpa using circuits

end

/-- A fold keeps the settings when each of its steps does. -/
theorem foldl_settings {α : Type} (f : State → α → State) (h : ∀ s a, settings (f s a) = settings s) (l : List α) (s : State) :
    settings (l.foldl f s) = settings s :=
  foldl_keeps (fun t => settings t = settings s) f (fun t a ht => (h t a).trans ht) l s rfl

theorem octo_ext {α : Type} {a b : Octo α} (h : ∀ c, a.get c = b.get c) : a = b := by
  obtain ⟨a0, a1, a2, a3, a4, a5, a6, a7⟩ := a
  obtain ⟨b0, b1, b2, b3, b4, b5, b6, b7⟩ := b
  have all : a0 = b0 ∧ a1 = b1 ∧ a2 = b2 ∧ a3 = b3 ∧ a4 = b4 ∧ a5 = b5 ∧ a6 = b6 ∧ a7 = b7 :=
    ⟨h 0, h 1, h 2, h 3, h 4, h 5, h 6, h 7⟩
  obtain ⟨rfl, rfl, rfl, rfl, rfl, rfl, rfl, rfl⟩ := all
  rfl

/-- A circuit written with its setpoint as it stands. -/
theorem setCircuit_settings {c : Fin 8} {q : Circuit} {s : State} (h : q.setpoint = (s.frost.circuits.get c).setpoint) :
    settings (setCircuit c q s) = settings s := by
  have circuits : (s.frost.circuits.set c q).map (fun q => { q with state := .off, timer := none }) =
      s.frost.circuits.map (fun q => { q with state := .off, timer := none }) := by
    refine octo_ext fun d => ?_
    rw [octo_get_map, octo_get_map]
    by_cases hd : d = c
    · subst hd; rw [octo_get_set_same, h]
    · rw [octo_get_set_other _ _ _ _ hd]
  unfold settings
  rw [show (setCircuit c q s).frost = { s.frost with circuits := s.frost.circuits.set c q } from rfl]
  dsimp only
  rw [circuits]

/-! ### The arbiter -/

theorem takeGrant_settings (k : Claimant) (s : State) : settings (takeGrant k s) = settings s := by
  cases k with
  | pump p => exact settings_of_frost (takePumpGrant_frost p s)
  | circuit c =>
    show settings (takeCircuitGrant c s) = _
    unfold takeCircuitGrant; dsimp only; split
    · exact setCircuit_settings rfl
    · rfl

theorem shedCircuit_settings {w : State → State} (hw : ∀ t, settings (w t) = settings t) (k : Claimant) (s : State) :
    settings (shedCircuit w k s) = settings s := by
  cases k with
  | pump p => rfl
  | circuit c =>
    unfold shedCircuit; dsimp only
    rw [hw, settings_of_frost (enterClaim_frost _ _ _ _), hw]
    exact setCircuit_settings (s := s) rfl

theorem walk_settings (n : Nat) (s : State) : settings (walk n s) = settings s := by
  induction n generalizing s with
  | zero => rfl
  | succ n ih =>
    unfold walk; dsimp only; repeat' split
    · rfl
    · rfl
    · rw [ih, takeGrant_settings]; rfl
    · rfl
    · rw [foldl_settings _ fun t k => shedCircuit_settings ih k t,
        foldl_settings _ fun t k => settings_of_frost (reportReclaim_frost k t)]
      rfl

theorem runWalk_settings (s : State) : settings (runWalk s) = settings s := walk_settings 64 s

theorem placeClaim_settings (k : Claimant) (u : Nat) (c : ClaimClass) (s : State) : settings (placeClaim k u c s) = settings s :=
  (runWalk_settings _).trans (settings_of_frost (enterClaim_frost k u c s))

theorem releaseClaim_settings (k : Claimant) (s : State) : settings (releaseClaim k s) = settings s := runWalk_settings _

theorem withdrawClaim_settings (k : Claimant) (s : State) : settings (withdrawClaim k s) = settings s :=
  (runWalk_settings _).trans (settings_of_frost (dropWaiting_frost k s))

/-! ### The pumps -/

theorem enterFaulted_settings (p : Fin 3) (why : FaultCause) (s : State) : settings (enterFaulted p why s) = settings s := by
  unfold enterFaulted; dsimp only; split <;> rfl

theorem stopEnds_settings (p : Fin 3) (s : State) : settings (stopEnds p s) = settings s := by
  unfold stopEnds; dsimp only
  cases (s.pumps.get p).stopCause with
  | none => rfl
  | retry => rfl
  | noStart => exact enterFaulted_settings p _ _
  | noFlow => exact enterFaulted_settings p _ _
  | overload => exact enterFaulted_settings p _ _

theorem completeStopBy_settings {w : State → State} (hw : ∀ t, settings (w t) = settings t) (p : Fin 3) (s : State) :
    settings (completeStopBy w p s) = settings s := by
  rw [completeStopBy_eq, hw]
  exact stopEnds_settings p s

theorem enterStoppingBy_settings {w : State → State} (hw : ∀ t, settings (w t) = settings t) (p : Fin 3) (why : StopCause)
    (s : State) : settings (enterStoppingBy w p why s) = settings s := by
  unfold enterStoppingBy; dsimp only; split
  · rfl
  · rw [completeStopBy_settings hw]; rfl

theorem stopBy_settings {w : State → State} (hw : ∀ t, settings (w t) = settings t) (p : Fin 3) (b : Bool) (s : State) :
    settings (stopBy w p b s) = settings s := by
  unfold stopBy; dsimp only; split
  · rw [hw]; exact settings_of_frost (dropWaiting_frost _ _)
  · exact enterStoppingBy_settings hw p _ _
  · exact enterStoppingBy_settings hw p _ _
  all_goals rfl

theorem stopCommand_settings (p : Fin 3) (b : Bool) (s : State) : settings (stopCommand p b s) = settings s :=
  stopBy_settings runWalk_settings p b s

/-! ### The fill controller -/

theorem bookChanged_settings (n : Nat) (s : State) : settings (bookChanged n s) = settings s := by
  unfold bookChanged; dsimp only; split <;> rfl

theorem endRun_settings (n : Nat) (p : Fin 3) (b : Bool) (c : Option Hold) (s : State) : settings (endRun n p b c s) = settings s :=
  stopCommand_settings p b s

theorem serveOn_settings (day n : Nat) (o : Served) (s : State) : settings (serveOn day n o s) = settings s := by
  cases hf : findFill n s with
  | none =>
    unfold serveOn; split
    · rename_i k origin v f hr
      rw [findFill_of_record hr rfl] at hf
      exact absurd hf nofun
    · rfl
  | some f =>
    obtain ⟨r, hr, hb⟩ := findFill_eq_some.1 hf
    rw [serveOn_eq day n o hr hb]; dsimp only
    rw [bookChanged_settings]
    have written : settings (putFill n (servedFill day o f) (runEnded n f s)) = settings s := by
      show settings (runEnded n f s) = settings s
      unfold runEnded; split
      · exact endRun_settings n _ _ _ s
      · rfl
    generalize putFill n (servedFill day o f) (runEnded n f s) = t at written
    repeat' split
    all_goals exact written

theorem judgeChangedFill_settings (n : Nat) (s : State) : settings (judgeChangedFill n s) = settings s := by
  rcases judgeChangedFill_cases n s with e | ⟨g, e⟩ | ⟨o, f, -, -, e⟩ <;> rw [e]
  · rfl
  · exact serveOn_settings _ n o s

theorem judgeApplied_settings (n : Nat) (f : FillRecord) (s : State) : settings (judgeApplied n f s) = settings s := by
  unfold judgeApplied; split
  · exact judgeChangedFill_settings n s
  · rfl

theorem suspendFill_settings (n : Nat) (h : Hold) (back : Bool) (s : State) : settings (suspendFill n h back s) = settings s := by
  have ended (p : Fin 3) (c : Option Hold) (g f : FillRecord) :
      settings (bookChanged n (judgeApplied n f (putFill n g (endRun n p false c s)))) = settings s := by
    rw [bookChanged_settings, judgeApplied_settings]
    exact endRun_settings n p false c s
  unfold suspendFill; dsimp only; repeat' split
  all_goals first
    | rfl
    | exact ended _ _ _ _
    | exact serveOn_settings _ n _ _

theorem judgeWindow_settings (m : Nat) (jump : Bool) (s : State) (n : Nat) : settings (judgeWindow m jump s n) = settings s := by
  have run (f : FillRecord) (w : Window) : settings (judgeRunAtJump m n f w s) = settings s := by
    unfold judgeRunAtJump; repeat' split
    · exact serveOn_settings _ n _ s
    · exact suspendFill_settings n _ _ s
    · rfl
  have put (g : FillRecord) : settings (bookChanged n (putFill n g s)) = settings s := bookChanged_settings n _
  unfold judgeWindow; repeat' split
  all_goals first
    | rfl
    | exact serveOn_settings _ n _ s
    | exact run _ _
    | exact put _

theorem judgeHeatWindow_settings (m : Nat) (jump : Bool) (s : State) (n : Nat) :
    settings (judgeHeatWindow m jump s n) = settings s := by
  have put (g : HeatRecord) : settings (bookChanged n (putHeat n g s)) = settings s := bookChanged_settings n _
  unfold judgeHeatWindow; repeat' split
  all_goals first
    | rfl
    | exact put _
    | (unfold serveHeatOn; dsimp only; rw [bookChanged_settings]; split <;> rfl)

/-! ### The circuits -/

theorem judgeCircuit_settings (c : Fin 8) (s : State) : settings (judgeCircuit c s) = settings s := by
  have calls : settings (circuitCalls c s) = settings s := (placeClaim_settings _ _ _ _).trans (setCircuit_settings rfl)
  have gives : settings (circuitGivesUp c s) = settings s := (withdrawClaim_settings _ _).trans (setCircuit_settings rfl)
  have stops (x : CircuitState) : settings (circuitStops c x s) = settings s :=
    (releaseClaim_settings _ _).trans (setCircuit_settings rfl)
  unfold judgeCircuit; dsimp only; repeat' split
  all_goals first
    | rfl
    | exact calls
    | exact gives
    | exact stops _

/-! ### The setpoints -/

/-- What a setpoint is worked out from. -/
theorem setpointOf_congr {s t : State} (hg : t.gs = s.gs) (hf : t.frost.fallback = s.frost.fallback)
    (hb : t.book.records = s.book.records) (c : Fin 8) : setpointOf t c = setpointOf s c := by
  unfold setpointOf
  rw [hg, hf, hb]

/-- A circuit with the setpoint worked out for it. -/
def reset (s : State) (c : Fin 8) : State := setCircuit c { s.frost.circuits.get c with setpoint := setpointOf s c } s

theorem refreshSetpoint_settings (s : State) (c : Fin 8) : settings (refreshSetpoint s c) = settings (reset s c) := by
  unfold refreshSetpoint
  dsimp only
  split
  · rename_i same
    exact (setCircuit_settings same).symm
  · exact judgeCircuit_settings c (reset s c)

theorem refreshSetpoint_self (s : State) (c : Fin 8) :
    ((refreshSetpoint s c).frost.circuits.get c).setpoint = setpointOf s c := by
  rw [settings_setpoint (refreshSetpoint_settings s c)]
  unfold reset
  rw [setCircuit_circuits, octo_get_set_same]

theorem refreshSetpoint_other (s : State) {c d : Fin 8} (hd : d ≠ c) :
    ((refreshSetpoint s c).frost.circuits.get d).setpoint = (s.frost.circuits.get d).setpoint := by
  rw [settings_setpoint (refreshSetpoint_settings s c)]
  unfold reset
  rw [setCircuit_circuits, octo_get_set_other _ _ _ _ hd]

theorem refreshSetpoint_setpointOf (s : State) (c d : Fin 8) : setpointOf (refreshSetpoint s c) d = setpointOf s d :=
  setpointOf_congr (congrArg Still.gs (refreshSetpoint_still s c)) ((settings_fallback (refreshSetpoint_settings s c)).trans rfl)
    (congrArg Book.records (low_book (refreshSetpoint_low s c))) d

/-- Every circuit judged so far stands at its setpoint, which no later judgement changes. -/
theorem foldl_refreshSetpoint (l : List (Fin 8)) (s : State) (c : Fin 8)
    (h : c ∈ l ∨ (s.frost.circuits.get c).setpoint = setpointOf s c) :
    ((l.foldl refreshSetpoint s).frost.circuits.get c).setpoint = setpointOf s c := by
  induction l generalizing s with
  | nil => exact h.resolve_left List.not_mem_nil
  | cons d l ih =>
    rw [List.foldl_cons, ← refreshSetpoint_setpointOf s d c]
    refine ih _ ?_
    rw [refreshSetpoint_setpointOf]
    by_cases hd : c = d
    · subst hd; exact .inr (refreshSetpoint_self s c)
    · rw [refreshSetpoint_other s hd]
      exact h.imp_left fun hc => (List.mem_cons.1 hc).resolve_left hd

theorem refreshSetpoints_setpoint (s : State) (c : Fin 8) :
    ((refreshSetpoints s).frost.circuits.get c).setpoint = setpointOf s c := by
  have every : c ∈ eightNumbers := by fin_cases c <;> decide
  unfold refreshSetpoints
  generalize eightNumbers = l at every
  exact foldl_refreshSetpoint l s c (.inl every)

/-- The frost controller less its circuits. -/
def besidesCircuits (s : State) : Octo Probe × Option PipeReason × Nat × Bool :=
  (s.frost.probes, s.frost.pipe, s.frost.stagnation, s.frost.fallback)

theorem besidesCircuits_of_settings {s t : State} (h : settings t = settings s) : besidesCircuits t = besidesCircuits s := by
  unfold besidesCircuits
  rw [settings_probes h, settings_pipe h, settings_stagnation h, settings_fallback h]

theorem refreshSetpoint_besides (s : State) (c : Fin 8) : besidesCircuits (refreshSetpoint s c) = besidesCircuits s :=
  (besidesCircuits_of_settings (refreshSetpoint_settings s c)).trans rfl

/-- A judgement of the setpoints changes nothing of the frost controller but its circuits. -/
theorem refreshSetpoints_besides (s : State) : besidesCircuits (refreshSetpoints s) = besidesCircuits s := by
  unfold refreshSetpoints
  generalize eightNumbers = l
  exact foldl_keeps (fun t => besidesCircuits t = besidesCircuits s) refreshSetpoint
    (fun t c ht => (refreshSetpoint_besides t c).trans ht) l s rfl

theorem refreshSetpoints_fallback (s : State) : (refreshSetpoints s).frost.fallback = s.frost.fallback := by
  have besides := refreshSetpoints_besides s
  generalize refreshSetpoints s = t at besides
  exact congrArg (fun x => x.2.2.2) besides

theorem refreshSetpoints_stagnation (s : State) : (refreshSetpoints s).frost.stagnation = s.frost.stagnation := by
  have besides := refreshSetpoints_besides s
  generalize refreshSetpoints s = t at besides
  exact congrArg (fun x => x.2.2.1) besides

theorem refreshSetpoints_setpointOf (s : State) (c : Fin 8) : setpointOf (refreshSetpoints s) c = setpointOf s c := by
  have unmoved := refreshSetpoints_still s
  have fallback := refreshSetpoints_fallback s
  have book := refreshSetpoints_book s
  generalize refreshSetpoints s = t at unmoved fallback book
  exact setpointOf_congr (congrArg Still.gs unmoved) fallback (congrArg Book.records book) c

/-- After the judgement every setpoint is the greatest value that applies (R135). -/
theorem refreshSetpoints_is (s : State) (c : Fin 8) :
    SetpointIs (refreshSetpoints s) c ((refreshSetpoints s).frost.circuits.get c).setpoint := by
  have stands : ((refreshSetpoints s).frost.circuits.get c).setpoint = setpointOf (refreshSetpoints s) c :=
    (refreshSetpoints_setpoint s c).trans (refreshSetpoints_setpointOf s c).symm
  generalize refreshSetpoints s = t at stands
  rw [stands]
  exact setpointOf_is t c

end Sys2Proof.Machine
end

section
/-! PROOF. The windows of FILL and HEAT orders at a minute, at the day's end and at a discontinuity (R51, R68, R136, R137). -/

namespace Sys2Proof.Machine
open Sys2Proof.Safety

/-! ### The judgement of a FILL order -/

/-- A run meets the new minute of a discontinuity (R68). -/
def runJumped (m : Nat) (c : Clock) (r : Record) (f : FillRecord) : Option Record :=
  match f.window with
  | none => some r
  | some w =>
    if w.stop ≤ m then servedRecord c.day (closingOutcome f) r (applyStaged f)
    else if m < w.start then suspendedRecord c.day c.minute .time true r f
    else some r

/-- What the judgement of the windows of FILL orders makes of a record. -/
def fillWindowed (m : Nat) (jump : Bool) (c : Clock) (r : Record) : Option Record :=
  match r.body with
  | .fill f => if inRun f = true ∧ jump = true then runJumped m c r f else windowJudged jump c.day m r f
  | _ => some r

/-- What the judgement of the windows of HEAT orders makes of a record. -/
def heatWindowed (m : Nat) (jump : Bool) (c : Clock) (r : Record) : Option Record :=
  match r.body with
  | .heat h => heatJudged jump c.day m r h
  | _ => some r

theorem findFill_of_other {n : Nat} {s : State} {r : Record} (hr : findRecord n s = some r) (hb : ∀ f, r.body ≠ .fill f) :
    findFill n s = none := by
  rw [Option.eq_none_iff_forall_ne_some]
  intro f hf
  obtain ⟨x, hx, hxb⟩ := findFill_eq_some.1 hf
  rw [hr] at hx
  rw [← Option.some.inj hx] at hxb
  exact hb f hxb

theorem findHeat_of_other {n : Nat} {s : State} {r : Record} (hr : findRecord n s = some r) (hb : ∀ h, r.body ≠ .heat h) :
    findHeat n s = none := by
  rw [Option.eq_none_iff_forall_ne_some]
  intro h hh
  obtain ⟨x, hx, hxb⟩ := findHeat_eq_some.1 hh
  rw [hr] at hx
  rw [← Option.some.inj hx] at hxb
  exact hb h hxb

theorem judgeRunAtJump_finds (m : Nat) {n : Nat} {s : State} {r : Record} {f : FillRecord} {w : Window}
    (hr : findRecord n s = some r) (hb : r.body = .fill f) (hw : f.window = some w) (hrun : inRun f = true) :
    findRecord n (judgeRunAtJump m n f w s) = runJumped m s.clock r f := by
  unfold judgeRunAtJump runJumped
  simp only [hw]
  split
  · have served := serveOn_finds s.clock.day n (closingOutcome f) hr hb
    rwa [if_pos hrun] at served
  · split
    · exact suspendFill_finds hr hb hrun .time true
    · exact hr

theorem judgeWindow_finds (m : Nat) (jump : Bool) {n : Nat} {s : State} {r : Record} (hr : findRecord n s = some r) :
    findRecord n (judgeWindow m jump s n) = fillWindowed m jump s.clock r := by
  unfold fillWindowed
  cases hb : r.body with
  | heat h => unfold judgeWindow; rw [findFill_of_other hr (by simp [hb])]; exact hr
  | report q => unfold judgeWindow; rw [findFill_of_other hr (by simp [hb])]; exact hr
  | fill f =>
    have put (g : FillRecord) : findRecord n (bookChanged n (putFill n g s)) = some { r with body := .fill g } := by
      rw [findRecord_bookChanged]; exact putFill_finds n g s r hr
    have served (o : Served) (hrun : inRun f = false) := serveFill_finds o hr hb hrun
    unfold judgeWindow
    rw [findFill_of_record hr hb]; dsimp only
    cases hw : f.window with
    | none =>
      have same : runJumped m s.clock r f = windowJudged jump s.clock.day m r f := by
        unfold runJumped windowJudged; simp only [hw]
      rw [same, ite_self]
      unfold windowJudged; simp only [hw]; exact hr
    | some w =>
      dsimp only
      have run (hrun : inRun f = true) (hj : windowJudged jump s.clock.day m r f = some r) :
          findRecord n (if jump = true then judgeRunAtJump m n f w s else s) =
            if inRun f = true ∧ jump = true then runJumped m s.clock r f else windowJudged jump s.clock.day m r f := by
        cases jump with
        | false => simpa [hj] using hr
        | true => simpa [hrun] using judgeRunAtJump_finds m hr hb hw hrun
      cases hq : f.state with
      | starting => exact run (inRun_of_starting hq) (by unfold windowJudged; simp only [hw, hq])
      | running => exact run (inRun_of_running hq) (by unfold windowJudged; simp only [hw, hq])
      | pending =>
        have waits : inRun f = false := by simp [inRun, hq]
        simp only [waits, Bool.false_eq_true, false_and, if_false, windowJudged, hw, hq, dueToday_iff, windowHolds_iff]
        split
        · exact put _
        · exact hr
      | due =>
        have waits : inRun f = false := by simp [inRun, hq]
        simp only [waits, Bool.false_eq_true, false_and, if_false, windowJudged, hw, hq]
        split
        · exact served _ waits
        · split
          · exact put _
          · exact hr
      | suspended =>
        have waits : inRun f = false := by simp [inRun, hq]
        simp only [waits, Bool.false_eq_true, false_and, if_false, windowJudged, hw, hq]
        split
        · exact served _ waits
        · split
          · exact put _
          · exact hr
      | _ =>
        simp only [inRun, hq, windowJudged, hw]
        exact hr

theorem judgeWindow_judges (m : Nat) (jump : Bool) : Judges (judgeWindow m jump) (fillWindowed m jump) where
  finds s n r hr := judgeWindow_finds m jump hr
  other s n k hk := by
    unfold judgeWindow; repeat' split
    all_goals first
      | rfl
      | exact serveOn_other _ n k _ s hk
      | exact (findRecord_bookChanged k n _).trans (putFill_other n k _ s hk)
      | (unfold judgeRunAtJump; repeat' split
         · exact serveOn_other _ n k _ s hk
         · exact suspendFill_other n k _ _ s hk
         · rfl)
  clock s n := calm_clock (judgeWindow_calm m jump s n)

theorem judgeHeatWindow_judges (m : Nat) (jump : Bool) : Judges (judgeHeatWindow m jump) (heatWindowed m jump) where
  finds s n r hr := by
    unfold heatWindowed
    cases hb : r.body with
    | heat h => exact judgeHeatWindow_finds m jump hr hb
    | fill f => unfold judgeHeatWindow; rw [findHeat_of_other hr (by simp [hb])]; exact hr
    | report q => unfold judgeHeatWindow; rw [findHeat_of_other hr (by simp [hb])]; exact hr
  other s n k hk := judgeHeatWindow_other m jump n k s hk
  clock s n := calm_clock (judgeHeatWindow_calm m jump s n)

/-! ### The kind of an order -/

/-- A record keeps the kind of its order. -/
def OfFill (o : Option Record) : Prop := ∀ r, o = some r → ∃ f, r.body = .fill f

theorem ofFill_some (r : Record) (f : FillRecord) : OfFill (some { r with body := .fill f }) := by
  rintro _ ⟨⟩
  exact ⟨f, rfl⟩

theorem ofFill_body {r : Record} {f : FillRecord} (hb : r.body = .fill f) : OfFill (some r) := by
  rintro _ ⟨⟩
  exact ⟨f, hb⟩

theorem ofFill_none : OfFill none := fun r h => absurd h (Option.some_ne_none r).symm

theorem servedRecord_ofFill (day : Nat) (o : Served) (r : Record) (f : FillRecord) : OfFill (servedRecord day o r f) := by
  unfold servedRecord
  split
  · exact ofFill_none
  · exact ofFill_some r _

theorem rejudged_ofFill (day m : Nat) (r : Record) (f : FillRecord) : OfFill (rejudged day m r f) := by
  unfold rejudged
  dsimp only
  repeat' split
  all_goals first
    | exact ofFill_some r _
    | exact servedRecord_ofFill day _ r f

theorem suspendedRecord_ofFill (day m : Nat) (h : Hold) (back : Bool) (r : Record) (f : FillRecord) :
    OfFill (suspendedRecord day m h back r f) := by
  unfold suspendedRecord
  dsimp only
  repeat' split
  all_goals first
    | exact ofFill_some r _
    | exact rejudged_ofFill day m r _
    | exact servedRecord_ofFill day _ r _

theorem windowJudged_ofFill (jump : Bool) (day m : Nat) {r : Record} {f : FillRecord} (hb : r.body = .fill f) :
    OfFill (windowJudged jump day m r f) := by
  unfold windowJudged
  repeat' split
  all_goals first
    | exact ofFill_body hb
    | exact ofFill_some r _
    | exact servedRecord_ofFill day _ r _

theorem fillWindowed_ofFill (m : Nat) (jump : Bool) (c : Clock) {r : Record} {f : FillRecord} (hb : r.body = .fill f) :
    OfFill (fillWindowed m jump c r) := by
  unfold fillWindowed runJumped
  simp only [hb]
  repeat' split
  all_goals first
    | exact ofFill_body hb
    | exact windowJudged_ofFill jump c.day m hb
    | exact suspendedRecord_ofFill _ _ _ _ r _
    | exact servedRecord_ofFill _ _ r _

theorem fillWindowed_else (m : Nat) (jump : Bool) (c : Clock) {r : Record} (hb : ∀ f, r.body ≠ .fill f) :
    fillWindowed m jump c r = some r := by
  unfold fillWindowed
  cases h : r.body with
  | fill f => exact absurd h (hb f)
  | _ => rfl

theorem heatWindowed_else (m : Nat) (jump : Bool) (c : Clock) {r : Record} (hb : ∀ h, r.body ≠ .heat h) :
    heatWindowed m jump c r = some r := by
  unfold heatWindowed
  cases h : r.body with
  | heat x => exact absurd h (hb x)
  | _ => rfl

theorem heatWindowed_heat (m : Nat) (jump : Bool) (c : Clock) {r : Record} {h : HeatRecord} (hb : r.body = .heat h) :
    heatWindowed m jump c r = heatJudged jump c.day m r h := by
  unfold heatWindowed
  simp only [hb]

/-- The same for a HEAT order. -/
def OfHeat (o : Option Record) : Prop := ∀ r, o = some r → ∃ h, r.body = .heat h

theorem ofHeat_none : OfHeat none := fun r h => absurd h (Option.some_ne_none r).symm

theorem ofHeat_some (r : Record) (h : HeatRecord) : OfHeat (some { r with body := .heat h }) := by
  rintro _ ⟨⟩
  exact ⟨h, rfl⟩

theorem heatJudged_ofHeat (jump : Bool) (day m : Nat) (r : Record) (h : HeatRecord) : OfHeat (heatJudged jump day m r h) := by
  unfold heatJudged
  dsimp only
  repeat' split
  all_goals first
    | exact ofHeat_some r _
    | exact ofHeat_none

/-- The two judgements look at different orders, so that their order does not matter. -/
theorem windowed_fill (m : Nat) (jump : Bool) (c : Clock) {r : Record} {f : FillRecord} (hb : r.body = .fill f) :
    (fillWindowed m jump c r).bind (heatWindowed m jump c) = fillWindowed m jump c r ∧
      (heatWindowed m jump c r).bind (fillWindowed m jump c) = fillWindowed m jump c r := by
  refine ⟨?_, ?_⟩
  · cases hx : fillWindowed m jump c r with
    | none => rfl
    | some x =>
      obtain ⟨g, hg⟩ := fillWindowed_ofFill m jump c hb x hx
      exact heatWindowed_else m jump c (by simp [hg])
  · rw [heatWindowed_else m jump c (by simp [hb])]; rfl

theorem windowed_else (m : Nat) (jump : Bool) (c : Clock) {r : Record} (hb : ∀ f, r.body ≠ .fill f) :
    (fillWindowed m jump c r).bind (heatWindowed m jump c) = heatWindowed m jump c r ∧
      (heatWindowed m jump c r).bind (fillWindowed m jump c) = heatWindowed m jump c r := by
  rw [fillWindowed_else m jump c hb]
  refine ⟨rfl, ?_⟩
  cases hk : r.body with
  | fill f => exact absurd hk (hb f)
  | heat h =>
    rw [heatWindowed_heat m jump c hk]
    cases hx : heatJudged jump c.day m r h with
    | none => rfl
    | some x =>
      obtain ⟨g, hg⟩ := heatJudged_ofHeat jump c.day m r h x hx
      exact fillWindowed_else m jump c (by simp [hg])
  | report q =>
    rw [heatWindowed_else m jump c (by simp [hk])]
    exact fillWindowed_else m jump c hb

/-! ### The judgements of the whole book -/

theorem judgeWindows_book (m : Nat) (jump : Bool) {s : State} (hs : BookFits s) (n : Nat) :
    findRecord n (judgeWindows m jump s) = (findRecord n s).bind (fillWindowed m jump s.clock) :=
  (judgeWindow_judges m jump).book hs n

theorem judgeHeatWindows_book (m : Nat) (jump : Bool) {s : State} (hs : BookFits s) (n : Nat) :
    findRecord n (judgeHeatWindows m jump s) = (findRecord n s).bind (heatWindowed m jump s.clock) :=
  (findRecord_congr (refreshSetpoints_book _) n).trans ((judgeHeatWindow_judges m jump).book hs n)

theorem judgeWindows_clock (m : Nat) (jump : Bool) (s : State) : (judgeWindows m jump s).clock = s.clock :=
  (judgeWindow_judges m jump).foldl_clock _ s

theorem judgeHeatWindows_clock (m : Nat) (jump : Bool) (s : State) : (judgeHeatWindows m jump s).clock = s.clock :=
  (refreshSetpoints_clock _).trans ((judgeHeatWindow_judges m jump).foldl_clock _ s)

theorem judgeWindows_grows (m : Nat) (jump : Bool) (s : State) : Grows s (judgeWindows m jump s) :=
  (foldl_grows (judgeWindow_grows m jump) _ s).trans (emit_grows _ _)

theorem judgeHeatWindows_grows (m : Nat) (jump : Bool) (s : State) : Grows s (judgeHeatWindows m jump s) :=
  (foldl_grows (judgeHeatWindow_grows m jump) _ s).trans (refreshSetpoints_grows _)

theorem judgeWindows_settings (m : Nat) (jump : Bool) (s : State) : settings (judgeWindows m jump s) = settings s :=
  foldl_settings _ (judgeWindow_settings m jump) _ s

theorem judgeWindows_evaluates (m : Nat) (jump : Bool) (s : State) : .evalFill ∈ (judgeWindows m jump s).agenda :=
  List.mem_append_right _ List.mem_cons_self

/-! ### The setpoints after the judgements -/

/-- The ACTIVE HEAT orders, the guard set and the fallback flag are all that a setpoint looks at. -/
theorem setpointIs_congr {s t : State} {c : Fin 8} {sp : Option Int} (hg : t.gs = s.gs)
    (hf : t.frost.fallback = s.frost.fallback)
    (hb : ∀ r h, r.body = .heat h → (r ∈ t.book.records ↔ r ∈ s.book.records)) (hs : SetpointIs s c sp) : SetpointIs t c sp := by
  have parts (v : Int) : SetpointPart t c v ↔ SetpointPart s c v := by
    unfold SetpointPart
    rw [hg, hf]
    have heat : (∃ r ∈ t.book.records, ∃ h, r.body = .heat h ∧ h.state = .active ∧ h.circuit = c ∧ v = h.hold) ↔
        ∃ r ∈ s.book.records, ∃ h, r.body = .heat h ∧ h.state = .active ∧ h.circuit = c ∧ v = h.hold :=
      ⟨fun ⟨r, hr, h, hrb, rest⟩ => ⟨r, (hb r h hrb).1 hr, h, hrb, rest⟩,
        fun ⟨r, hr, h, hrb, rest⟩ => ⟨r, (hb r h hrb).2 hr, h, hrb, rest⟩⟩
    rw [heat]
  exact ⟨fun v hv => hs.1 v ((parts v).1 hv), fun x hx => (parts x).2 (hs.2 x hx)⟩

theorem mem_records_iff {s : State} (hs : BookFits s) (r : Record) : r ∈ s.book.records ↔ findRecord r.number s = some r :=
  ⟨findRecord_of_mem hs, List.mem_of_find?_eq_some⟩

theorem judgeWindows_fits (m : Nat) (jump : Bool) {s : State} (hs : BookFits s) : BookFits (judgeWindows m jump s) :=
  judgeWindows_kept bookFits_stepLaw m jump hs

theorem judgeHeatWindows_fits (m : Nat) (jump : Bool) {s : State} (hs : BookFits s) : BookFits (judgeHeatWindows m jump s) :=
  judgeHeatWindows_kept bookFits_stepLaw m jump hs

/-- The judgement of the FILL orders moves no HEAT order. -/
theorem judgeWindows_heat (m : Nat) (jump : Bool) {s : State} (hs : BookFits s) (r : Record) (h : HeatRecord) (hb : r.body = .heat h) :
    r ∈ (judgeWindows m jump s).book.records ↔ r ∈ s.book.records := by
  rw [mem_records_iff (judgeWindows_fits m jump hs), mem_records_iff hs, judgeWindows_book m jump hs]
  constructor
  · intro hr
    obtain ⟨x, hx, hxr⟩ := Option.bind_eq_some_iff.1 hr
    cases hxb : x.body with
    | fill f =>
      obtain ⟨g, hg⟩ := fillWindowed_ofFill m jump s.clock hxb r hxr
      exact absurd (hg.symm.trans hb) nofun
    | heat g => rw [fillWindowed_else m jump _ (by simp [hxb])] at hxr; rw [hx, hxr]
    | report q => rw [fillWindowed_else m jump _ (by simp [hxb])] at hxr; rw [hx, hxr]
  · intro hr
    rw [hr]
    exact fillWindowed_else m jump _ (by simp [hb])

theorem judgeHeatWindows_setpoints (m : Nat) (jump : Bool) (s : State) (c : Fin 8) :
    SetpointIs (judgeHeatWindows m jump s) c ((judgeHeatWindows m jump s).frost.circuits.get c).setpoint := by
  unfold judgeHeatWindows
  generalize (liveNumbers s).foldl (judgeHeatWindow m jump) s = t
  exact refreshSetpoints_is t c

/-- The setpoints that stand go on standing while the FILL orders are judged. -/
theorem judgeWindows_setpoints (m : Nat) (jump : Bool) {s : State} (hs : BookFits s) {c : Fin 8}
    (h : SetpointIs s c (s.frost.circuits.get c).setpoint) :
    SetpointIs (judgeWindows m jump s) c ((judgeWindows m jump s).frost.circuits.get c).setpoint := by
  have rest := judgeWindows_settings m jump s
  rw [settings_setpoint rest]
  exact setpointIs_congr (congrArg Still.gs (judgeWindows_still m jump s)) (settings_fallback rest) (judgeWindows_heat m jump hs) h

/-! ### A discontinuity -/

/-- Whatever order the two blocks take it in. -/
theorem takeDiscontinuity_eq (s : State) :
    takeDiscontinuity s =
        judgeHeatWindows s.clock.minute true (judgeWindows s.clock.minute true { s with choice := s.choice / 2 }) ∨
      takeDiscontinuity s =
        judgeWindows s.clock.minute true (judgeHeatWindows s.clock.minute true { s with choice := s.choice / 2 }) := by
  unfold takeDiscontinuity
  dsimp only
  split
  · exact .inl rfl
  · exact .inr rfl

section
variable {s : State} (hs : BookFits s)
include hs

theorem takeDiscontinuity_book (n : Nat) :
    findRecord n (takeDiscontinuity s) =
        ((findRecord n s).bind (fillWindowed s.clock.minute true s.clock)).bind (heatWindowed s.clock.minute true s.clock) ∨
      findRecord n (takeDiscontinuity s) =
        ((findRecord n s).bind (heatWindowed s.clock.minute true s.clock)).bind (fillWindowed s.clock.minute true s.clock) := by
  have fits : BookFits { s with choice := s.choice / 2 } := bookFits_of_book rfl hs
  refine (takeDiscontinuity_eq s).imp (fun e => ?_) fun e => ?_ <;> rw [e]
  · rw [judgeHeatWindows_book _ _ (judgeWindows_fits _ _ fits), judgeWindows_clock, judgeWindows_book _ _ fits]
    rfl
  · rw [judgeWindows_book _ _ (judgeHeatWindows_fits _ _ fits), judgeHeatWindows_clock, judgeHeatWindows_book _ _ fits]
    rfl

theorem takeDiscontinuity_none {n : Nat} (hr : findRecord n s = none) : findRecord n (takeDiscontinuity s) = none := by
  rcases takeDiscontinuity_book hs n with e | e <;> rw [e, hr] <;> rfl

theorem takeDiscontinuity_fill {n : Nat} {r : Record} {f : FillRecord} (hr : findRecord n s = some r) (hb : r.body = .fill f) :
    findRecord n (takeDiscontinuity s) = fillWindowed s.clock.minute true s.clock r := by
  obtain ⟨fillFirst, heatFirst⟩ := windowed_fill s.clock.minute true s.clock hb
  rcases takeDiscontinuity_book hs n with e | e <;> rw [e, hr]
  · exact fillFirst
  · exact heatFirst

theorem takeDiscontinuity_else {n : Nat} {r : Record} (hr : findRecord n s = some r) (hb : ∀ f, r.body ≠ .fill f) :
    findRecord n (takeDiscontinuity s) = heatWindowed s.clock.minute true s.clock r := by
  obtain ⟨fillFirst, heatFirst⟩ := windowed_else s.clock.minute true s.clock hb
  rcases takeDiscontinuity_book hs n with e | e <;> rw [e, hr]
  · exact fillFirst
  · exact heatFirst

theorem takeDiscontinuity_setpoints (c : Fin 8) :
    SetpointIs (takeDiscontinuity s) c ((takeDiscontinuity s).frost.circuits.get c).setpoint := by
  have fits : BookFits { s with choice := s.choice / 2 } := bookFits_of_book rfl hs
  rcases takeDiscontinuity_eq s with e | e <;> rw [e]
  · exact judgeHeatWindows_setpoints _ _ _ c
  · exact judgeWindows_setpoints _ _ (judgeHeatWindows_fits _ _ fits) (judgeHeatWindows_setpoints _ _ _ c)

end

theorem takeDiscontinuity_evaluates (s : State) : .evalFill ∈ (takeDiscontinuity s).agenda := by
  rcases takeDiscontinuity_eq s with e | e <;> rw [e]
  · exact (judgeHeatWindows_grows _ _ _).mem (judgeWindows_evaluates _ _ _)
  · exact judgeWindows_evaluates _ _ _

/-! ### A minute -/

/-- The state in which the frost controller judges the HEAT orders of a minute: the stagnation clock has counted. -/
def counted (s : State) : State := { s with frost := { s.frost with stagnation := min 4320 (s.frost.stagnation + 1) } }

theorem judgeHeatWindows_stagnation (m : Nat) (jump : Bool) (s : State) :
    (judgeHeatWindows m jump s).frost.stagnation = s.frost.stagnation := by
  have judged := foldl_settings _ (judgeHeatWindow_settings m jump) (liveNumbers s) s
  unfold judgeHeatWindows
  generalize (liveNumbers s).foldl (judgeHeatWindow m jump) s = t at judged
  rw [refreshSetpoints_stagnation, settings_stagnation judged]

theorem runJumped_none (m : Nat) (c : Clock) (r : Record) {f : FillRecord} (hw : f.window = none) : runJumped m c r f = some r := by
  unfold runJumped
  simp only [hw]

theorem runJumped_window (m : Nat) (c : Clock) (r : Record) {f : FillRecord} {w : Window} (hw : f.window = some w) :
    (w.stop ≤ m → runJumped m c r f = servedRecord c.day (closingOutcome f) r (applyStaged f)) ∧
      (m < w.stop → m < w.start → runJumped m c r f = suspendedRecord c.day c.minute .time true r f) ∧
      (m < w.stop → w.start ≤ m → runJumped m c r f = some r) := by
  unfold runJumped
  simp only [hw]
  refine ⟨fun late => if_pos late, fun early before => ?_, fun early within => ?_⟩
  · rw [if_neg (Nat.not_le.2 early), if_pos before]
  · rw [if_neg (Nat.not_le.2 early), if_neg (Nat.not_lt.2 within)]

theorem judgeWindows_agenda (m : Nat) (jump : Bool) (s : State) :
    ∃ xs, (judgeWindows m jump s).agenda = s.agenda ++ xs ++ [.evalFill] := by
  obtain ⟨xs, hx⟩ := (foldl_grows (judgeWindow_grows m jump) (liveNumbers s) s).agenda
  exact ⟨xs, congrArg (· ++ [Note.evalFill]) hx⟩

theorem handle_fillWindows (m : Nat) (s : State) : handle (.fillWindows m) s = judgeWindows m false s := rfl

theorem handle_heatMinute (m : Nat) (s : State) :
    handle (.heatMinute m) s = emit .frostJudge (judgeHeatWindows m false (counted s)) := rfl

theorem heatMinute_book (m : Nat) {s : State} (hs : BookFits s) (n : Nat) :
    findRecord n (emit .frostJudge (judgeHeatWindows m false (counted s))) =
      (findRecord n s).bind (heatWindowed m false s.clock) := by
  have fits : BookFits (counted s) := bookFits_of_book rfl hs
  have judged := judgeHeatWindows_book m false fits n
  have same : findRecord n (counted s) = findRecord n s := rfl
  have clock : (counted s).clock = s.clock := rfl
  rw [same, clock] at judged
  generalize judgeHeatWindows m false (counted s) = t at judged
  exact judged

theorem heatMinute_stagnation (m : Nat) (s : State) :
    (emit .frostJudge (judgeHeatWindows m false (counted s))).frost.stagnation = min 4320 (s.frost.stagnation + 1) := by
  have judged := judgeHeatWindows_stagnation m false (counted s)
  generalize judgeHeatWindows m false (counted s) = t at judged
  exact judged

theorem heatMinute_agenda (m : Nat) (s : State) :
    ∃ xs, (emit .frostJudge (judgeHeatWindows m false (counted s))).agenda = s.agenda ++ xs ++ [.frostJudge] := by
  obtain ⟨xs, hx⟩ := (judgeHeatWindows_grows m false (counted s)).agenda
  generalize judgeHeatWindows m false (counted s) = t at hx
  exact ⟨xs, congrArg (· ++ [Note.frostJudge]) hx⟩

theorem heatMinute_setpoints (m : Nat) (s : State) (c : Fin 8) :
    SetpointIs (emit .frostJudge (judgeHeatWindows m false (counted s))) c
      ((emit .frostJudge (judgeHeatWindows m false (counted s))).frost.circuits.get c).setpoint := by
  have judged := judgeHeatWindows_setpoints m false (counted s) c
  generalize judgeHeatWindows m false (counted s) = t at judged
  exact judged

theorem handle_heatWindows (m : Nat) (s : State) : handle (.heatWindows m) s = judgeHeatWindows m false s := rfl

theorem handle_discontinuity (s : State) : handle .discontinuity s = takeDiscontinuity s := rfl

/-- Settles O38: each judgement of the book gives every record as the judgement of that order alone. -/
theorem windowsJudged : Obligations.WindowsJudged := by
  intro m s hs d t vf vh ve vd
  have fills : vf = judgeWindows m false s := handle_fillWindows m s
  have minute : vh = emit .frostJudge (judgeHeatWindows m false (counted s)) := handle_heatMinute m s
  have ends : ve = judgeHeatWindows m false s := handle_heatWindows m s
  have jumps : vd = takeDiscontinuity s := handle_discontinuity s
  clear_value vf vh ve vd
  have atFill := judgeWindows_book m false hs
  have atMinute := heatMinute_book m hs
  have atEnd := judgeHeatWindows_book m false hs
  have atJump (n : Nat) (r : Record) (f : FillRecord) := takeDiscontinuity_fill (n := n) (r := r) (f := f) hs
  have beside (n : Nat) (r : Record) := takeDiscontinuity_else (n := n) (r := r) hs
  have goneToo (n : Nat) := takeDiscontinuity_none (n := n) hs
  have minuteStagnation := heatMinute_stagnation m s
  have minuteAgenda := heatMinute_agenda m s
  have fillAgenda := (judgeWindows_agenda m false s)
  have evaluates := takeDiscontinuity_evaluates s
  have setpoints (c : Fin 8) :=
    And.intro (heatMinute_setpoints m s c) (And.intro (judgeHeatWindows_setpoints m false s c) (takeDiscontinuity_setpoints hs c))
  rw [← fills] at atFill fillAgenda
  simp only [← minute, ← ends, ← jumps] at atMinute atEnd atJump beside goneToo minuteStagnation minuteAgenda evaluates setpoints
  refine ⟨fillAgenda, minuteAgenda, evaluates, minuteStagnation, setpoints, fun n hn => ?_,
    fun n r hr => ⟨fun q hb => ?_, fun h hb => ?_, fun f hb => ?_⟩⟩
  · have gone (g : Record → Option Record) : (findRecord n s).bind g = none := by rw [hn]; rfl
    exact ⟨(atFill n).trans (gone _), (atMinute n).trans (gone _), (atEnd n).trans (gone _), goneToo n hn⟩
  · have noFill : ∀ f, r.body ≠ .fill f := by simp [hb]
    have noHeat : ∀ h, r.body ≠ .heat h := by simp [hb]
    have found (g : Record → Option Record) : (findRecord n s).bind g = g r := by rw [hr]; rfl
    have unheated := (found _).trans (heatWindowed_else m false s.clock noHeat)
    exact ⟨(atFill n).trans ((found _).trans (fillWindowed_else m false _ noFill)), (atMinute n).trans unheated,
      (atEnd n).trans unheated, (beside n r hr noFill).trans (heatWindowed_else _ true _ noHeat)⟩
  · have noFill : ∀ f, r.body ≠ .fill f := by simp [hb]
    have found (g : Record → Option Record) : (findRecord n s).bind g = g r := by rw [hr]; rfl
    have judged := (found _).trans (heatWindowed_heat m false s.clock hb)
    exact ⟨(atFill n).trans ((found _).trans (fillWindowed_else m false _ noFill)), (atMinute n).trans judged,
      (atEnd n).trans judged, (beside n r hr noFill).trans (heatWindowed_heat _ true _ hb)⟩
  · have noHeat : ∀ h, r.body ≠ .heat h := by simp [hb]
    have found (g : Record → Option Record) : (findRecord n s).bind g = g r := by rw [hr]; rfl
    have unheated := (found _).trans (heatWindowed_else m false s.clock noHeat)
    have judged (jump : Bool) (k : Nat) : fillWindowed k jump s.clock r =
        if inRun f = true ∧ jump = true then runJumped k s.clock r f else windowJudged jump d k r f := by
      unfold fillWindowed; simp only [hb]; rfl
    have waiting (waits : inRun f = false) : fillWindowed t true s.clock r = windowJudged true d t r f :=
      (judged true t).trans (if_neg (by simp [waits]))
    have running (hrun : inRun f = true) : fillWindowed t true s.clock r = runJumped t s.clock r f :=
      (judged true t).trans (if_pos ⟨hrun, rfl⟩)
    have jumped := atJump n r f hr hb
    refine ⟨(atFill n).trans ((found _).trans ((judged false m).trans (if_neg (by simp)))), (atMinute n).trans unheated,
      (atEnd n).trans unheated, fun waits => jumped.trans (waiting waits), fun hrun w hw => ?_, fun hrun hw => ?_⟩
    · obtain ⟨late, early, within⟩ := runJumped_window t s.clock r hw
      exact ⟨fun h => jumped.trans ((running hrun).trans (late h)), fun h1 h2 => jumped.trans ((running hrun).trans (early h1 h2)),
        fun h1 h2 => jumped.trans ((running hrun).trans (within h1 h2))⟩
    · exact jumped.trans ((running hrun).trans (runJumped_none t s.clock r hw))

end Sys2Proof.Machine
end

section
/-! PROOF. The hold reasons of the waiting orders, the targets, and the evaluation that only writes them (R50, R52 to R54). -/

namespace Sys2Proof.Machine
open Sys2Proof.Safety

/-! ### The conditions of R53 -/

/-- GUARD holds. -/
def GuardHolds (s : State) : Prop :=
  s.guard.state = .near ∨ s.guard.state = .tripped ∨ s.guard.state = .latched ∨ s.guard.state = .containment

/-- The guard cuts orders (R66). -/
def Cuts (s : State) : Prop := s.guard.state = .tripped ∨ s.guard.state = .latched ∨ s.guard.state = .containment

theorem guardCuts_iff {s : State} : guardCuts s = true ↔ Cuts s := by
  unfold guardCuts Cuts
  simp [or_assoc]

theorem guardHolds_iff {s : State} : (s.guard.state = .near || guardCuts s) = true ↔ GuardHolds s := by
  rw [Bool.or_eq_true, guardCuts_iff, decide_eq_true_iff]
  rfl

theorem levelHolds_iff {s : State} :
    (s.guard.state = .blind || (filtered s).isNone) = true ↔ (filtered s = none ∨ s.guard.state = .blind) := by
  rw [Bool.or_eq_true, decide_eq_true_iff, Option.isNone_iff_eq_none, or_comm]

theorem timeHolds_iff {s : State} {f : FillRecord} :
    timeHolds s f = true ↔ (f.band ≠ .any ∧ s.clock.trust = .free) ∨
      ∃ w, f.window = some w ∧ (s.clock.minute < w.start ∨ w.stop ≤ s.clock.minute) := by
  unfold timeHolds
  cases hw : f.window with
  | none => simp
  | some w => simp [windowHolds]

theorem admits_eq_false_iff {b : BandPermission} {c : Band} :
    admits b c = false ↔ (b = .nightOnly ∧ c ≠ .night) ∨ (b = .nightShoulder ∧ c = .day) := by
  cases b <;> cases c <;> decide

theorem allowanceHolds_iff {s : State} {n : Nat} :
    allowanceHolds s n = true ↔ s.clock.band ≠ .night ∧ n ≠ 240 ∧ s.gs.allowance ≤ s.clock.tally := by
  unfold allowanceHolds allowanceSpent
  simp [and_assoc]

theorem targetReached_iff {s : State} {f : FillRecord} :
    targetReached s f = true ↔ ∃ l, filtered s = some l ∧ effectiveTarget s f ≤ l := by
  unfold targetReached
  cases filtered s <;> simp

theorem restingAsLast_iff {s : State} {n : Nat} {f : FillRecord} :
    restingAsLast s n f = true ↔ (s.fill.get f.pump).lastHolder = some n ∧
      ((s.pumps.get f.pump).state = .stopping ∨ (s.pumps.get f.pump).state = .lockout) := by
  unfold restingAsLast
  simp

/-! ### An evaluation that writes the hold reasons -/

theorem firstAction_none {s : State} {rs : List Record} (h : ∀ r ∈ rs, recordAction s r = none) : firstAction s rs = none := by
  induction rs with
  | nil => rfl
  | cons r rest ih =>
    unfold firstAction
    rw [h r List.mem_cons_self]
    exact ih fun x hx => h x (List.mem_cons_of_mem _ hx)

theorem readyFor_of_contend {s : State} {p : Fin 3} {n : Nat} {f : FillRecord} (hs : BookFits s)
    (h : contend s p s.book.records = some (n, f)) : ReadyFor s p n f := by
  obtain ⟨r, hr, rfl, hready⟩ := contend_mem h
  obtain ⟨hb, hq, hp, hh⟩ := readyFor_eq_some.1 hready
  exact ⟨findFill_of_record (findRecord_of_mem hs hr) hb, hq, hp, hh⟩

theorem firstHanding_none {s : State} (hs : BookFits s)
    (h : ∀ (p : Fin 3) (n : Nat) (f : FillRecord), pumpIdle s p = true → ¬ ReadyFor s p n f) (ps : List (Fin 3)) :
    firstHanding s ps = none := by
  rw [Option.eq_none_iff_forall_ne_some]
  rintro ⟨p, n, f⟩ e
  obtain ⟨idle, wins⟩ := firstHanding_eq_some e
  exact h p n f idle (readyFor_of_contend hs wins)

theorem evaluateFill_writes {s : State} (hs : BookFits s) (settled : ∀ r ∈ s.book.records, recordAction s r = none)
    (h : ∀ (p : Fin 3) (n : Nat) (f : FillRecord), pumpIdle s p = true → ¬ ReadyFor s p n f) : evaluateFill s = writeHolds s := by
  unfold evaluateFill
  rw [firstAction_none settled, firstHanding_none hs h]

theorem holdWritten_number (s : State) (r : Record) : (holdWritten s r).number = r.number := by
  unfold holdWritten; repeat' split
  all_goals rfl

theorem writeHolds_records (s : State) : (writeHolds s).book.records = s.book.records.map (holdWritten s) := by
  unfold writeHolds; dsimp only; split <;> rfl

theorem writeHolds_rest (s : State) :
    writeHolds s = { s with book := { s.book with records := (writeHolds s).book.records }, agenda := (writeHolds s).agenda } := by
  rw [writeHolds_records]
  unfold writeHolds; dsimp only; split <;> rfl

theorem writeHolds_finds (n : Nat) (s : State) : findRecord n (writeHolds s) = (findRecord n s).map (holdWritten s) := by
  unfold findRecord
  rw [writeHolds_records, List.find?_map]
  congr 2
  funext r
  exact congrArg (fun k => decide (k = n)) (holdWritten_number s r)

/-! ### The hold written -/

section
variable {s : State} {r : Record} {f : FillRecord} (hb : r.body = .fill f)
include hb

theorem holdWritten_waiting (hq : f.state = .due ∨ f.state = .suspended) :
    holdWritten s r = { r with body := .fill { f with hold := some (waitingHold s r.number f) } } := by
  unfold holdWritten
  rcases hq with hq | hq <;> simp only [hb, hq]

theorem holdWritten_starting (hq : f.state = .starting) :
    holdWritten s r = { r with body := .fill { f with hold := startingHold s f } } := by
  unfold holdWritten
  simp only [hb, hq]

theorem holdWritten_stands (h1 : f.state ≠ .due) (h2 : f.state ≠ .suspended) (h3 : f.state ≠ .starting) : holdWritten s r = r := by
  unfold holdWritten
  simp only [hb]

end

theorem holdWritten_other {s : State} {r : Record} (hb : ∀ f, r.body ≠ .fill f) : holdWritten s r = r := by
  unfold holdWritten
  cases h : r.body with
  | fill f => exact absurd h (hb f)
  | _ => rfl

theorem waitingHold_first {s : State} {n : Nat} {f : FillRecord} {h : Hold} (hh : firstHold s n f = some h) :
    waitingHold s n f = h := by
  unfold waitingHold; rw [hh]

theorem waitingHold_none {s : State} {n : Nat} {f : FillRecord} (hh : firstHold s n f = none) :
    waitingHold s n f = if restingAsLast s n f then (s.fill.get f.pump).lastCause.getD .pump else .pump := by
  unfold waitingHold; rw [hh]

/-- Settles O34: the conditions of R53 in their order, and the record that the evaluation's last step writes. -/
theorem holdsAndTargets : Obligations.HoldsAndTargets := by
  intro s g m
  refine ⟨fun n f => ?_, fun hs idle unready => ?_⟩
  · intro guardHolds levelHolds valveHolds timeHolds' bandHolds allowanceHolds'
    have pastGuard (h : ¬ guardHolds) := mt guardHolds_iff.1 h
    have pastLevel (h : ¬ levelHolds) := mt levelHolds_iff.1 h
    have pastTime (h : ¬ timeHolds') := mt (timeHolds_iff (s := s) (f := f)).1 h
    have band : (!admits f.band s.clock.band) = true ↔ bandHolds := by rw [Bool.not_eq_true']; exact admits_eq_false_iff
    have pastBand (h : ¬ bandHolds) := mt band.1 h
    refine ⟨rfl, targetReached_iff, fun h => ?_, fun g h => ?_, fun g l h => ?_, fun g l v h => ?_, fun g l v t h => ?_,
      fun g l v t b h => ?_, fun g l v t b h => ?_⟩ <;> unfold firstHold
    · rw [if_pos (guardHolds_iff.2 h)]
    · rw [if_neg (pastGuard g), if_pos (levelHolds_iff.2 h)]
    · rw [if_neg (pastGuard g), if_neg (pastLevel l), if_pos h]
    · rw [if_neg (pastGuard g), if_neg (pastLevel l), if_neg v, if_pos (timeHolds_iff.2 h)]
    · rw [if_neg (pastGuard g), if_neg (pastLevel l), if_neg v, if_neg (pastTime t), if_pos (band.2 h)]
    · rw [if_neg (pastGuard g), if_neg (pastLevel l), if_neg v, if_neg (pastTime t), if_neg (pastBand b),
        if_pos (allowanceHolds_iff.2 h)]
    · rw [if_neg (pastGuard g), if_neg (pastLevel l), if_neg v, if_neg (pastTime t), if_neg (pastBand b),
        if_neg (mt allowanceHolds_iff.1 h)]
  · intro v
    have writes : v = writeHolds s := evaluateFill_writes hs idle unready
    have finds (n : Nat) : findRecord n v = (findRecord n s).map (holdWritten s) := by rw [writes]; exact writeHolds_finds n s
    refine ⟨by rw [writes]; exact writeHolds_rest s, fun n hn => by rw [finds, hn]; rfl, fun n r hr => ⟨fun hb => ?_, fun f hb => ?_⟩⟩
    · rw [finds, hr]; exact congrArg some (holdWritten_other hb)
    · intro holding q a finishing
      have number := findRecord_number hr
      have written {h : Option Hold} (e : holdWritten s r = { r with body := .fill { f with hold := h } }) : holding h := by
        show findRecord n v = _
        rw [finds, hr]; exact congrArg some e
      refine ⟨fun hq => ?_, fun hq => ?_, fun h1 h2 h3 => ?_⟩
      · have waits {h : Hold} (e : waitingHold s n f = h) : holding (some h) := written (by
          rw [holdWritten_waiting hb hq, number, e])
        refine ⟨fun h hh => waits (waitingHold_first hh), fun hh fin => waits ?_, fun hh fin => waits ?_⟩
        · rw [waitingHold_none hh, if_pos (restingAsLast_iff.2 fin)]
        · rw [waitingHold_none hh, if_neg fun e => fin (restingAsLast_iff.1 e)]
      · have starts {h : Option Hold} (e : startingHold s f = h) : holding h := written (by
          rw [holdWritten_starting hb hq, e])
        refine ⟨fun hc => starts ?_, fun hc => starts ?_, fun h1 h2 h3 => starts ?_⟩ <;> unfold startingHold
        · rw [show (s.pumps.get f.pump).state = .claiming from hc]
        · rcases hc with hc | hc <;> rw [show (s.pumps.get f.pump).state = _ from hc]
        · cases hx : (s.pumps.get f.pump).state <;> simp_all [q]
      · rw [finds, hr]; exact congrArg some (holdWritten_stands hb h1 h2 h3)

end Sys2Proof.Machine
end

section
/-! PROOF. What an evaluation finds to do to one order (R52, R57, R61, R66, R71). -/

namespace Sys2Proof.Machine
open Sys2Proof.Safety

/-! ### The lines of R61 -/

theorem runPumpFailed_iff {q : Pump} {f : FillRecord} :
    runPumpFailed q f = true ↔ q.state = .faulted ∨
      (q.state = .stopping ∧ (q.stopCause = .overload ∨ (f.state = .starting ∧ q.stopCause = .noStart))) := by
  unfold runPumpFailed
  simp

theorem runLost_iff {q : Pump} :
    runLost q = true ↔ q.state = .stopped ∨ (q.state = .lockout ∧ q.pendingStart = none) ∨
      (q.state = .stopping ∧ q.stopCause ≠ .retry) := by
  unfold runLost
  cases q.state <;> simp

section
variable {s : State} {n : Nat} {o : Origin} {f : FillRecord}

/-- Each of the first lines is ruled out by its condition's failing. -/
theorem runAction_cuts (h : Cuts s) : runAction s n o f = some (.serve .cut) := if_pos (guardCuts_iff.2 h)

variable (h1 : ¬ Cuts s)
include h1

theorem runAction_fails (h : runPumpFailed (s.pumps.get f.pump) f = true) : runAction s n o f = some .pumpFault := by
  unfold runAction; dsimp only
  rw [if_neg (mt guardCuts_iff.1 h1), if_pos h]

variable (h2 : ¬ runPumpFailed (s.pumps.get f.pump) f = true)
include h2

theorem runAction_out (h : (s.pumps.get f.pump).state = .outOfService) : runAction s n o f = some .endStart := by
  unfold runAction; dsimp only
  rw [if_neg (mt guardCuts_iff.1 h1), if_neg h2, if_pos h]

variable (h3 : (s.pumps.get f.pump).state ≠ .outOfService)
include h3

theorem runAction_reached (h : targetReached s f = true) : runAction s n o f = some (.serve .reached) := by
  unfold runAction; dsimp only
  rw [if_neg (mt guardCuts_iff.1 h1), if_neg h2, if_neg h3, if_pos h]

variable (h4 : ¬ targetReached s f = true)
include h4

theorem runAction_later :
    (o ≠ .system ∧ (∃ w, f.window = some w ∧ w.stop ≤ s.clock.minute) → runAction s n o f = some (.serve (closingOutcome f))) ∧
      (¬ (o ≠ .system ∧ ∃ w, f.window = some w ∧ w.stop ≤ s.clock.minute) →
        (o ≠ .system ∧ (∃ w, f.window = some w ∧ s.clock.minute < w.start) → runAction s n o f = some (.suspend .time)) ∧
        (¬ (o ≠ .system ∧ ∃ w, f.window = some w ∧ s.clock.minute < w.start) →
          (∀ h, firstHold s n f = some h → runAction s n o f = some (.suspend h)) ∧
          (firstHold s n f = none → runAction s n o f =
            if runLost (s.pumps.get f.pump) then some (.suspend .pump) else none))) := by
  unfold runAction; dsimp only
  rw [if_neg (mt guardCuts_iff.1 h1), if_neg h2, if_neg h3, if_neg h4]
  cases hw : f.window with
  | none =>
    by_cases ho : o = .system <;> simp [ho] <;> cases firstHold s n f <;> simp
  | some w =>
    by_cases ho : o = .system
    · simp [ho]; cases firstHold s n f <;> simp
    · by_cases ended : w.stop ≤ s.clock.minute
      · simp [ho, ended]
      · by_cases early : s.clock.minute < w.start
        · simp [ho, ended, early]
        · simp [ho, ended, early]; cases firstHold s n f <;> simp

end

/-! ### A waiting order -/

/-- A waiting order that the guard cuts (R66; log entry 12). -/
def CutWaiting (s : State) (n : Nat) (o : Origin) (f : FillRecord) : Prop :=
  Cuts s ∧ (o = .system ∨
    (f.state = .suspended ∧ restingAsLast s n f = true ∧ (s.fill.get f.pump).lastCause = some .supply))

section
variable {s : State} {n : Nat} {o : Origin} {f : FillRecord}

theorem cutWaiting_iff :
    (guardCuts s && (o = .system ||
      (f.state = .suspended && restingAsLast s n f && (s.fill.get f.pump).lastCause = some .supply))) = true ↔
      CutWaiting s n o f := by
  unfold CutWaiting
  rw [Bool.and_eq_true, guardCuts_iff]
  simp [and_assoc]

theorem waitAction_cuts (h : CutWaiting s n o f) : waitAction s n o f = some (.serve .cut) := if_pos (cutWaiting_iff.2 h)

variable (h1 : ¬ CutWaiting s n o f)
include h1

theorem waitAction_reached (h : targetReached s f = true) : waitAction s n o f = some (.serve .reached) := by
  unfold waitAction
  rw [if_neg (mt cutWaiting_iff.1 h1), if_pos h]

variable (h2 : ¬ targetReached s f = true)
include h2

theorem waitAction_moves (ho : o = .system) (h : Away s f.pump) : waitAction s n o f = (choosePump s).map .movePump := by
  unfold waitAction
  rw [if_neg (mt cutWaiting_iff.1 h1), if_neg h2, if_pos (by simp [ho, pumpAvailable_false.2 h])]

theorem waitAction_stays (h : o ≠ .system ∨ ¬ Away s f.pump) : waitAction s n o f = none := by
  unfold waitAction
  rw [if_neg (mt cutWaiting_iff.1 h1), if_neg h2, if_neg ?_]
  rcases h with h | h
  · simp [h]
  · simp [pumpAvailable_true.2 h]

end

/-! ### An evaluation -/

section
variable {s : State} {r : Record} {f : FillRecord} (hb : r.body = .fill f)
include hb

theorem recordAction_run (hq : f.state = .starting ∨ f.state = .running) : recordAction s r = runAction s r.number r.origin f := by
  unfold recordAction
  rcases hq with hq | hq <;> simp only [hb, hq]

theorem recordAction_wait (hq : f.state = .due ∨ f.state = .suspended) : recordAction s r = waitAction s r.number r.origin f := by
  unfold recordAction
  rcases hq with hq | hq <;> simp only [hb, hq]

theorem recordAction_rest (hq : f.state = .pending ∨ f.state = .served ∨ f.state = .retiring) : recordAction s r = none := by
  unfold recordAction
  rcases hq with hq | hq | hq <;> simp only [hb, hq]

end

theorem recordAction_other {s : State} {r : Record} (hb : ∀ f, r.body ≠ .fill f) : recordAction s r = none := by
  unfold recordAction
  cases h : r.body with
  | fill f => exact absurd h (hb f)
  | _ => rfl

theorem firstAction_append {s : State} {pre post : List Record} {r : Record} {a : FillAction}
    (hpre : ∀ x ∈ pre, recordAction s x = none) (ha : recordAction s r = some a) :
    firstAction s (pre ++ r :: post) = some (r, a) := by
  induction pre with
  | nil =>
    show firstAction s (r :: post) = _
    unfold firstAction
    rw [ha]
  | cons x pre ih =>
    show firstAction s (x :: (pre ++ r :: post)) = _
    unfold firstAction
    rw [hpre x List.mem_cons_self]
    exact ih fun y hy => hpre y (List.mem_cons_of_mem _ hy)

/-- Settles O36: the lines of R61 and of a waiting order in their order, and the first order that an evaluation acts on. -/
theorem runsJudged : Obligations.RunsJudged := by
  intro s m cut away
  refine ⟨fun r f hb => ?_, fun r hb => recordAction_other hb, fun pre post r a hs hpre ha => ?_⟩
  · intro a q failed out reached ended early lost cutWaiting
    refine ⟨fun hq => ?_, fun hq => ?_, recordAction_rest hb⟩
    · rw [show a = _ from recordAction_run hb hq]
      have unfailed (h : ¬ failed) := mt runPumpFailed_iff.1 h
      refine ⟨runAction_cuts, fun h1 h => runAction_fails h1 (runPumpFailed_iff.2 h),
        fun h1 h2 h => runAction_out h1 (unfailed h2) h, fun h1 h2 h3 h => runAction_reached h1 (unfailed h2) h3 h,
        fun h1 h2 h3 h4 h => (runAction_later h1 (unfailed h2) h3 h4).1 h,
        fun h1 h2 h3 h4 h5 h => ((runAction_later h1 (unfailed h2) h3 h4).2 h5).1 h, fun h1 h2 h3 h4 h5 h6 => ?_⟩
      obtain ⟨holds, free⟩ := ((runAction_later (n := r.number) (o := r.origin) h1 (unfailed h2) h3 h4).2 h5).2 h6
      exact ⟨holds, fun hh h => (free hh).trans (if_pos (runLost_iff.2 h)),
        fun hh h => (free hh).trans (if_neg (mt runLost_iff.1 h))⟩
    · rw [show a = _ from recordAction_wait hb hq]
      refine ⟨waitAction_cuts, waitAction_reached, fun h1 h2 ho h => ⟨fun p hp hlow => ?_, fun hall => ?_⟩,
        fun h1 h2 h => waitAction_stays h1 h2 h⟩
      · rw [waitAction_moves h1 h2 ho h, choosePump_some hp hlow]; rfl
      · rw [waitAction_moves h1 h2 ho h, choosePump_none hall]; rfl
  · show evaluateFill s = _
    unfold evaluateFill
    rw [hs, firstAction_append hpre ha]

end Sys2Proof.Machine
end

section
/-! PROOF. The contention for an idle pump, and the pump handed to its winner (R55, R56). -/

namespace Sys2Proof.Machine
open Sys2Proof.Safety

/-! ### The comparisons of R55 -/

/-- The comparisons never tie two orders. -/
theorem ranksBefore_total {n k : Nat} (h : n ≠ k) (f g : FillRecord) :
    (RanksBefore n f k g ∨ RanksBefore k g n f) ∧ ¬ (RanksBefore n f k g ∧ RanksBefore k g n f) := by
  unfold RanksBefore
  dsimp only
  generalize (if f.state = .suspended then 0 else 1) = a
  generalize (if g.state = .suspended then 0 else 1) = b
  generalize (if n = 240 then 0 else if n = 241 then 1 else 2) = x
  generalize (if k = 240 then 0 else if k = 241 then 1 else 2) = y
  generalize f.priority = u
  generalize g.priority = v
  generalize (match f.window with | some w => w.start | none => 0) = i
  generalize (match g.window with | some w => w.start | none => 0) = j
  omega

theorem keyBefore_cons (a b : Nat) (as bs : List Nat) :
    keyBefore (a :: as) (b :: bs) = true ↔ a < b ∨ (a = b ∧ keyBefore as bs = true) := by
  simp [keyBefore]

theorem keyBefore_iff (n : Nat) (f : FillRecord) (k : Nat) (g : FillRecord) :
    keyBefore (contentionKey n f) (contentionKey k g) = true ↔ RanksBefore n f k g := by
  unfold contentionKey
  rw [keyBefore_cons, keyBefore_cons, keyBefore_cons, keyBefore_cons, keyBefore_cons]
  simp only [keyBefore, Bool.false_eq_true, and_false, or_false]
  exact Iff.rfl

/-- The ready order that ranks before every other ready one wins the pump. -/
theorem contend_wins {s : State} {p : Fin 3} {r : Record} {f : FillRecord} (hf : readyFor s p r = some f) {rs : List Record}
    (hr : r ∈ rs) (nodup : (rs.map (·.number)).Nodup)
    (best : ∀ x ∈ rs, x.number ≠ r.number → ∀ g, readyFor s p x = some g → RanksBefore r.number f x.number g) :
    contend s p rs = some (r.number, f) := by
  induction rs with
  | nil => exact absurd hr List.not_mem_nil
  | cons x rest ih =>
    rw [List.map_cons, List.nodup_cons] at nodup
    obtain ⟨fresh, nodup⟩ := nodup
    have others (y : Record) (hy : y ∈ rest) : y.number ≠ x.number := fun e => fresh (List.mem_map.2 ⟨y, hy, e⟩)
    unfold contend
    rcases List.mem_cons.1 hr with rfl | hr
    · rw [hf]
      cases hw : contend s p rest with
      | none => rfl
      | some w =>
        obtain ⟨k, g⟩ := w
        obtain ⟨y, hy, rfl, hg⟩ := contend_mem hw
        have before := best y (List.mem_cons_of_mem _ hy) (others y hy) g hg
        have after : ¬ RanksBefore y.number g r.number f := fun h => (ranksBefore_total (others y hy).symm f g).2 ⟨before, h⟩
        exact if_neg (mt (keyBefore_iff _ _ _ _).1 after)
    · have wins := ih hr nodup fun y hy => best y (List.mem_cons_of_mem _ hy)
      cases hg : readyFor s p x with
      | none => simpa [hg] using wins
      | some g =>
        have before := best x List.mem_cons_self (others r hr).symm g hg
        simp only [wins]
        exact if_pos ((keyBefore_iff _ _ _ _).2 before)

theorem firstHanding_append {s : State} {p : Fin 3} {n : Nat} {f : FillRecord} (idle : pumpIdle s p = true)
    (wins : contend s p s.book.records = some (n, f)) {pre post : List (Fin 3)}
    (hpre : ∀ q ∈ pre, pumpIdle s q = true → contend s q s.book.records = none) :
    firstHanding s (pre ++ p :: post) = some (p, n, f) := by
  induction pre with
  | nil =>
    show firstHanding s (p :: post) = _
    unfold firstHanding
    rw [if_pos idle, wins]
  | cons q pre ih =>
    have rest := ih fun x hx => hpre x (List.mem_cons_of_mem _ hx)
    show firstHanding s (q :: (pre ++ p :: post)) = _
    unfold firstHanding
    split
    · rename_i hq
      rw [hpre q List.mem_cons_self hq]
      exact rest
    · exact rest

/-- Where a pump stands among the pumps. -/
theorem pumpNumbers_split (p : Fin 3) : ∃ pre post, pumpNumbers = pre ++ p :: post ∧ ∀ q ∈ pre, q < p := by
  fin_cases p
  · exact ⟨[], [1, 2], rfl, by simp⟩
  · exact ⟨[0], [2], rfl, by decide⟩
  · exact ⟨[0, 1], [], rfl, by decide⟩

/-- The evaluation hands the pump. -/
theorem evaluateFill_hands {s : State} {p : Fin 3} {n : Nat} {f : FillRecord} (hs : BookFits s)
    (settled : ∀ r ∈ s.book.records, recordAction s r = none) (idle : pumpIdle s p = true) (ready : ReadyFor s p n f)
    (best : ∀ (k : Nat) (g : FillRecord), ReadyFor s p k g → k ≠ n → RanksBefore n f k g)
    (lower : ∀ (q : Fin 3) (k : Nat) (g : FillRecord), q < p → pumpIdle s q = true → ¬ ReadyFor s q k g) :
    evaluateFill s = handPump n f p s := by
  obtain ⟨hf, waits, names, free⟩ := ready
  obtain ⟨r, hr, hb⟩ := findFill_eq_some.1 hf
  obtain rfl := findRecord_number hr
  have wins : contend s p s.book.records = some (r.number, f) := by
    refine contend_wins (readyFor_eq_some.2 ⟨hb, waits, names, free⟩) (List.mem_of_find?_eq_some hr) (liveNumbers_nodup hs)
      fun x hx hn g hg => ?_
    obtain ⟨hxb, hq, hp, hh⟩ := readyFor_eq_some.1 hg
    exact best x.number g ⟨findFill_of_record (findRecord_of_mem hs hx) hxb, hq, hp, hh⟩ hn
  obtain ⟨pre, post, placed, below⟩ := pumpNumbers_split p
  unfold evaluateFill
  rw [firstAction_none settled, placed, firstHanding_append idle wins fun q hq hidle => ?_]
  rw [Option.eq_none_iff_forall_ne_some]
  rintro ⟨k, g⟩ hk
  exact lower q k g (below q hq) hidle (readyFor_of_contend hs hk)

/-! ### The claim of the pump handed -/

/-- The pump has a claim, and every claim of it is for so many units in one class. -/
def ClaimsFor (p : Fin 3) (u : Nat) (cls : ClaimClass) (s : State) : Prop :=
  (∃ c ∈ s.arbiter.waiting ++ s.arbiter.granted, c.claimant = .pump p) ∧
    ∀ c ∈ s.arbiter.waiting ++ s.arbiter.granted, c.claimant = .pump p → c.units = u ∧ c.cls = cls

section
variable {p : Fin 3} {u : Nat} {cls : ClaimClass} {s : State} (hs : ClaimsFor p u cls s)
include hs

theorem ClaimsFor.of_arbiter {t : State} (h : t.arbiter = s.arbiter) : ClaimsFor p u cls t := by
  unfold ClaimsFor; rw [h]; exact hs

/-- Every claim comes from one of the same claimant, units and class, and the pump's are all still there. -/
theorem ClaimsFor.moved {t : State}
    (stays : ∀ c ∈ s.arbiter.waiting ++ s.arbiter.granted, c.claimant = .pump p →
      ∃ d ∈ t.arbiter.waiting ++ t.arbiter.granted, d.claimant = .pump p)
    (comes : ∀ d ∈ t.arbiter.waiting ++ t.arbiter.granted, d.claimant = .pump p →
      ∃ c ∈ s.arbiter.waiting ++ s.arbiter.granted, c.claimant = d.claimant ∧ c.units = d.units ∧ c.cls = d.cls) :
    ClaimsFor p u cls t := by
  obtain ⟨⟨c, hc, hp⟩, all⟩ := hs
  refine ⟨stays c hc hp, fun d hd hp => ?_⟩
  obtain ⟨c, hc, claimant, units, rank⟩ := comes d hd hp
  obtain ⟨hu, hk⟩ := all c hc (claimant.trans hp)
  exact ⟨units ▸ hu, rank ▸ hk⟩

theorem ClaimsFor.moveToGranted {c : Claim} (hc : c ∈ s.arbiter.waiting) : ClaimsFor p u cls (moveToGranted c s) := by
  refine hs.moved (fun x hx hp => ?_) fun d hd _ => ⟨d, ?_, rfl, rfl, rfl⟩
  · show ∃ d ∈ s.arbiter.waiting.filter (fun x => x.claimant ≠ c.claimant) ++ (s.arbiter.granted ++ [c]), d.claimant = .pump p
    by_cases h : x.claimant = c.claimant
    · exact ⟨c, by simp, h ▸ hp⟩
    · refine ⟨x, ?_, hp⟩
      rcases List.mem_append.1 hx with hx | hx
      · exact List.mem_append_left _ (List.mem_filter.2 ⟨hx, by simpa using h⟩)
      · simp [hx]
  · have hd : d ∈ s.arbiter.waiting.filter (fun x => x.claimant ≠ c.claimant) ++ (s.arbiter.granted ++ [c]) := hd
    simp only [List.mem_append, List.mem_filter, List.mem_singleton] at hd ⊢
    rcases hd with ⟨hd, -⟩ | hd | rfl
    · exact .inl hd
    · exact .inr hd
    · exact .inl hc

theorem ClaimsFor.markReclaim (c : Claim) (vs : List Claimant) : ClaimsFor p u cls (markReclaim c vs s) := by
  refine hs.moved (fun x hx hp => ?_) fun d hd _ => ?_
  · rcases List.mem_append.1 hx with hx | hx
    · exact ⟨x, List.mem_append_left _ hx, hp⟩
    · exact ⟨_, List.mem_append_right _ (List.mem_map_of_mem hx), by split <;> exact hp⟩
  · rcases List.mem_append.1 hd with hd | hd
    · exact ⟨d, List.mem_append_left _ hd, rfl, rfl, rfl⟩
    · obtain ⟨x, hx, rfl⟩ := List.mem_map.1 hd
      refine ⟨x, List.mem_append_right _ hx, ?_⟩
      split <;> exact ⟨rfl, rfl, rfl⟩

theorem ClaimsFor.dropGranted (k : Fin 8) : ClaimsFor p u cls (dropGranted (.circuit k) s) := by
  refine hs.moved (fun x hx hp => ⟨x, ?_, hp⟩) fun d hd _ => ⟨d, ?_, rfl, rfl, rfl⟩
  · exact (List.mem_append.1 hx).elim (List.mem_append_left _)
      fun hx => List.mem_append_right _ (List.mem_filter.2 ⟨hx, by simp [hp]⟩)
  · exact (List.mem_append.1 hd).elim (List.mem_append_left _)
      fun hd => List.mem_append_right _ (List.mem_filter.1 hd).1

theorem ClaimsFor.enterClaim (k : Fin 8) (units : Nat) (rank : ClaimClass) : ClaimsFor p u cls (enterClaim (.circuit k) units rank s) := by
  cases hk : hasClaim (.circuit k) s with
  | true => rw [enterClaim_of_holder hk]; exact hs
  | false =>
    rw [enterClaim_of_none hk]
    refine hs.moved (fun x hx hp => ⟨x, ?_, hp⟩) fun d hd hp => ⟨d, ?_, rfl, rfl, rfl⟩
    · exact (List.mem_append.1 hx).elim
        (fun hx => List.mem_append_left _ ((enterWaiting_perm _ _).mem_iff.2 (List.mem_cons_of_mem _ hx))) (List.mem_append_right _)
    · refine (List.mem_append.1 hd).elim (fun hd => ?_) (List.mem_append_right _)
      rcases List.mem_cons.1 ((enterWaiting_perm _ _).mem_iff.1 hd) with rfl | hd
      · exact absurd hp nofun
      · exact List.mem_append_left _ hd

theorem ClaimsFor.shedCircuit {w : State → State} (hw : ∀ t, ClaimsFor p u cls t → ClaimsFor p u cls (w t)) (k : Claimant) :
    ClaimsFor p u cls (shedCircuit w k s) := by
  cases k with
  | pump q => exact hs
  | circuit c =>
    have shed : ClaimsFor p u cls (setCircuit c { s.frost.circuits.get c with state := .shed, timer := none } s) :=
      hs.of_arbiter rfl
    exact hw _ ((hw _ (shed.dropGranted c)).enterClaim c _ _)

end

theorem walk_claimsFor {p : Fin 3} {u : Nat} {cls : ClaimClass} (n : Nat) {s : State} (hs : ClaimsFor p u cls s) :
    ClaimsFor p u cls (walk n s) := by
  induction n generalizing s with
  | zero => exact hs.of_arbiter rfl
  | succ n ih =>
    unfold walk; dsimp only; split
    · exact hs
    split
    · exact hs
    · rename_i c rest hlist
      split
      · have waits : c ∈ s.arbiter.waiting := by rw [hlist]; exact List.mem_cons_self
        exact ih ((hs.moveToGranted waits).of_arbiter (takeGrant_arbiter _ _))
      split
      · exact hs
      · refine foldl_keeps (ClaimsFor p u cls) _ (fun t k ht => ht.shedCircuit (fun _ => ih) k) _ _ ?_
        refine foldl_keeps (ClaimsFor p u cls) _ (fun t k ht => ht.of_arbiter ?_) _ _ (hs.markReclaim _ _)
        unfold reportReclaim; repeat' split
        all_goals rfl

/-- A claim placed by a pump that held none is there, waiting or granted. -/
theorem placeClaim_claimsFor {p : Fin 3} {s : State} (h : hasClaim (.pump p) s = false) (u : Nat) (cls : ClaimClass) :
    ∃ c ∈ (placeClaim (.pump p) u cls s).arbiter.waiting ++ (placeClaim (.pump p) u cls s).arbiter.granted,
      c.claimant = .pump p ∧ c.units = u ∧ c.cls = cls := by
  have fresh : ∀ c ∈ s.arbiter.waiting ++ s.arbiter.granted, c.claimant ≠ .pump p := by
    intro c hc e
    have holds : hasClaim (.pump p) s = true := by
      unfold hasClaim
      rw [Bool.or_eq_true, List.any_eq_true, List.any_eq_true]
      exact (List.mem_append.1 hc).imp (fun hc => ⟨c, hc, by simp [e]⟩) fun hc => ⟨c, hc, by simp [e]⟩
    rw [h] at holds
    exact absurd holds Bool.false_ne_true
  have entered : ClaimsFor p u cls (enterClaim (.pump p) u cls s) := by
    rw [enterClaim_of_none h]
    refine ⟨⟨_, List.mem_append_left _ ((enterWaiting_perm _ _).mem_iff.2 List.mem_cons_self), rfl⟩, fun c hc hp => ?_⟩
    rcases List.mem_append.1 hc with hc | hc
    · rcases List.mem_cons.1 ((enterWaiting_perm _ _).mem_iff.1 hc) with rfl | hc
      · exact ⟨rfl, rfl⟩
      · exact absurd hp (fresh c (List.mem_append_left _ hc))
    · exact absurd hp (fresh c (List.mem_append_right _ hc))
  obtain ⟨⟨c, hc, hp⟩, all⟩ := walk_claimsFor 64 entered
  exact ⟨c, hc, hp, all c hc hp⟩

/-! ### The channel of the pump handed -/

/-- A channel that has taken a start command in a class and claims, starts or runs. -/
def Started (cls : ClaimClass) (q : Pump) : Prop := pumpsFluid q.state = true ∧ (q.state ≠ .running → q.pendingStart = some cls)

theorem placeClaim_started {p : Fin 3} {cls : ClaimClass} {s : State} (hs : Started cls (s.pumps.get p)) (k : Claimant) (u : Nat)
    (rank : ClaimClass) : Started cls ((placeClaim k u rank s).pumps.get p) := by
  refine walk_keeps_pumps (P := fun t => Started cls (t.get p)) (fun k t ht => ?_) 64 _ (by rw [enterClaim_pumps]; exact hs)
  rcases takeGrant_entry k t p with e | ⟨⟨hr, hp⟩ | hr, -⟩
  · exact e ▸ ht
  · by_cases hq : (t.pumps.get p).state = .claiming
    · exact ⟨by rw [hr]; rfl, fun _ => hp.trans (ht.2 (by rw [hq]; decide))⟩
    · rw [takeGrant_pump k t p hq]; exact ht
  · exact ⟨by rw [hr]; rfl, fun h => absurd hr h⟩

theorem handed_arbiter (n : Nat) (f : FillRecord) (p : Fin 3) (s : State) : (handed n f p s).arbiter = s.arbiter :=
  congrArg PlantParts.arbiter (bookChanged_plantParts n _)

theorem handed_gs (n : Nat) (f : FillRecord) (p : Fin 3) (s : State) : (handed n f p s).gs = s.gs :=
  congrArg Still.gs (bookChanged_still n _)

/-- Settles O35: the winner by the comparisons, and the pump by the start command that the winner gives it. -/
theorem pumpHanded : Obligations.PumpHanded := by
  refine ⟨fun n k f g h => ranksBefore_total h f g, ?_⟩
  intro s p n f hs settled idle ready best lower cls
  rw [show handle .evalFill s = evaluateFill s from rfl, evaluateFill_hands hs settled idle ready best lower, handPump_eq]
  intro v q
  obtain ⟨stopped, -⟩ := pumpIdle_iff.1 idle
  obtain ⟨r, hr, hb⟩ := findFill_eq_some.1 ready.1
  have low := startCommand_low p (orderClass n) (handed n f p s)
  have book : v.book = (putFill n { f with state := .starting, hold := some .supply } s).book := (low_book low).trans (handed_book n f p s)
  have claims : v = placeClaim (.pump p) ((handed n f p s).gs.rating.get p) cls
      (told p { (handed n f p s).pumps.get p with state := .claiming, pendingStart := some cls } [.pumpChanged p] (handed n f p s)) :=
    startCommand_stopped p (handed n f p s) (by rw [handed_pumps]; exact stopped) cls
  have started : Started cls (v.pumps.get p) := by
    rw [claims]
    refine placeClaim_started ?_ _ _ _
    rw [told_self]
    exact ⟨rfl, fun _ => rfl⟩
  refine ⟨findFill_of_record ((findRecord_congr book n).trans (putFill_finds n _ s r hr)) rfl,
    fun k hk => (findRecord_congr book k).trans (putFill_other n k _ s hk), (low_fill low).trans (handed_fill n f p s),
    started.1, started.2, fun hk => ?_⟩
  rw [claims, handed_gs]
  refine placeClaim_claimsFor ?_ _ cls
  show hasClaim (.pump p) (handed n f p s) = false
  unfold hasClaim
  rw [handed_arbiter]
  exact hk

end Sys2Proof.Machine
end

section
/-! PROOF. The level monitor: readings, silence and the trend (R111 to R114). -/

namespace Sys2Proof.Machine
open Sys2Proof.Safety

/-! ### The window -/

theorem filtered_iff {s : State} {l : Nat} :
    filtered s = some l ↔ ∃ a b c d, s.level.window = [a, b, c, d] ∧ l = (a + b + c + d) / 4 := by
  unfold filtered
  constructor
  · intro h
    split at h
    · rename_i a b c d hw
      exact ⟨a, b, c, d, hw, (Option.some.inj h).symm⟩
    · exact absurd h (Option.some_ne_none l).symm
  · rintro ⟨a, b, c, d, hw, rfl⟩
    rw [hw]

/-- The level is valid with a full window. -/
theorem filtered_isSome {s : State} : (filtered s).isSome = true ↔ s.level.window.length = 4 := by
  rw [Option.isSome_iff_exists]
  constructor
  · rintro ⟨l, hl⟩
    obtain ⟨a, b, c, d, hw, -⟩ := filtered_iff.1 hl
    rw [hw]; rfl
  · intro h
    obtain ⟨a, b, c, d, hw⟩ := List.length_eq_four.1 h
    exact ⟨_, filtered_iff.2 ⟨a, b, c, d, hw, rfl⟩⟩

/-- A reading joins at the newest end, and the oldest of four leaves (R112). -/
theorem joinWindow_eq {w : List Nat} (h : w.length ≤ 4) (v : Nat) :
    joinWindow w v = (if w.length = 4 then w.tail else w) ++ [v] := by
  unfold joinWindow
  dsimp only
  by_cases h4 : w.length = 4
  · obtain ⟨a, b, c, d, rfl⟩ := List.length_eq_four.1 h4
    rfl
  · have short : (w ++ [v]).length - 4 = 0 := by rw [List.length_append]; simp; omega
    rw [if_neg h4, short, List.drop_zero]

theorem joinWindow_length {w : List Nat} (h : w.length ≤ 4) (v : Nat) : (joinWindow w v).length = 4 ↔ 3 ≤ w.length := by
  rw [joinWindow_eq h]
  by_cases h4 : w.length = 4
  · rw [if_pos h4]; simp; omega
  · rw [if_neg h4]; simp; omega

/-! ### A reading -/

theorem levelValid_iff {v : Int} {e : Bool} : levelValid v e = true ↔ e = false ∧ 0 ≤ v ∧ v ≤ 20000 := by
  simp [levelValid, and_assoc]

/-- The level and the announcements are told to the guard, the fill controller and the frost controller. -/
def Told (s t : State) : Prop := ∃ xs : List Note, xs.Perm [.guardJudge, .evalFill, .frostJudge] ∧ t.agenda = s.agenda ++ xs

theorem announceLevel_told (s : State) : Told s (announceLevel s) := by
  obtain ⟨xs, hx, perm⟩ := emitFree_agenda_perm [.guardJudge, .evalFill, .frostJudge] s
  exact ⟨xs, perm, hx⟩

section
variable {v : Int} {e : Bool} {s : State}

/-- A valid reading in its parts. -/
theorem takeLevel_valid (h : levelValid v e = true) :
    (takeLevel v e s).level =
        { s.level with window := joinWindow s.level.window v.toNat, timer := some validityTime } ∧
      ((joinWindow s.level.window v.toNat).length = 4 → Told s (takeLevel v e s)) ∧
      ((joinWindow s.level.window v.toNat).length ≠ 4 → (takeLevel v e s).agenda = s.agenda) := by
  unfold takeLevel
  rw [if_pos h]
  dsimp only
  split
  · rename_i full
    exact ⟨rfl, fun _ => announceLevel_told { s with level :=
      { s.level with window := joinWindow s.level.window v.toNat, timer := some validityTime } }, fun h => absurd full h⟩
  · rename_i short
    exact ⟨rfl, fun h => absurd h short, fun _ => rfl⟩

theorem takeLevel_invalid (h : levelValid v e = false) :
    takeLevel v e s = { s with level := { s.level with rejected := min 65535 (s.level.rejected + 1) } } :=
  if_neg (by rw [h]; exact Bool.false_ne_true)

/-! ### A silence -/

theorem validityExpiry_fresh (h : mayExpire validityTime s.level.timer = false) : validityExpiry s = s :=
  if_neg (by rw [h]; exact Bool.false_ne_true)

theorem validityExpiry_expires (h : mayExpire validityTime s.level.timer = true) :
    (validityExpiry s).level = { s.level with window := [], timer := none } ∧
      (s.level.window.length = 4 → Told s (validityExpiry s)) ∧
      (s.level.window.length ≠ 4 → (validityExpiry s).agenda = s.agenda) := by
  unfold validityExpiry
  rw [if_pos h]
  dsimp only
  split
  · rename_i valid
    exact ⟨rfl, fun _ => announceLevel_told { s with level := { s.level with window := [], timer := none } },
      fun h => absurd (filtered_isSome.1 valid) h⟩
  · rename_i invalid
    exact ⟨rfl, fun h => absurd (filtered_isSome.2 h) invalid, fun _ => rfl⟩

end

/-! ### What the announcements leave of the level -/

theorem finish_window (s : State) : (finish s).level.window = s.level.window := congrArg Still.window (finish_still s)
theorem finish_timer (s : State) : (finish s).level.timer = s.level.timer := congrArg Still.timer (finish_still s)
theorem finish_rejected (s : State) : (finish s).level.rejected = s.level.rejected := congrArg Still.rejected (finish_still s)

theorem trendOf_none {a b : Option Nat} (h : a = none ∨ b = none) : trendOf a b = none := by
  cases a <;> cases b <;> simp_all [trendOf]

/-- Settles O47: the monitor's own parts after a reading, a silence and a sample, which no announcement changes. -/
theorem levelReadingsTaken : Obligations.LevelReadingsTaken := by
  intro v e s fits u w told'
  obtain ⟨len, -⟩ := fits
  refine ⟨rfl, rfl, fun he h0 h1 => ?_, fun h => ?_, fun n hn hlt => ?_, fun h => ?_, fun l => filtered_iff, ?_⟩
  · obtain ⟨level, tells, silent⟩ := takeLevel_valid (s := s) (levelValid_iff.2 ⟨he, h0, h1⟩)
    rw [finish_timer, finish_rejected, finish_window, show u.level = _ from level]
    exact ⟨rfl, rfl, joinWindow_eq len _, fun h => tells ((joinWindow_length len _).2 h),
      fun h => silent fun full => absurd ((joinWindow_length len _).1 full) (Nat.not_le.2 h)⟩
  · refine takeLevel_invalid (Bool.eq_false_of_not_eq_true fun valid => ?_)
    obtain ⟨he, h0, h1⟩ := levelValid_iff.1 valid
    rcases h with h | h | h
    · rw [he] at h; exact absurd h Bool.false_ne_true
    · omega
    · omega
  · obtain ⟨level, tells, silent⟩ := validityExpiry_expires (mayExpire_eq_true.2 ⟨n, hn, hlt⟩)
    rw [finish_timer, finish_rejected, finish_window, show w.level = _ from level]
    exact ⟨rfl, rfl, rfl, tells, silent⟩
  · refine validityExpiry_fresh (Bool.eq_false_of_not_eq_true fun expires => ?_)
    obtain ⟨n, hn, hlt⟩ := mayExpire_eq_true.1 expires
    exact absurd (h n hn) (Nat.not_le.2 hlt)
  · refine ⟨rfl, fun a b ha hb => ?_, fun h => trendOf_none h⟩
    show trendOf (filtered s) s.level.newSample = _
    rw [ha, hb]
    rfl

end Sys2Proof.Machine
end

section
/-! PROOF. The heater circuits: their setpoints, judgements, grants, sheddings and feedback (R134, R135, R138 to R142). -/

namespace Sys2Proof.Machine
open Sys2Proof.Safety

/-! ### What a probe says of a circuit -/

theorem validReading_iff {q : Probe} {t : Int} : validReading q = some t ↔ q.condition = .valid ∧ q.reading = some t := by
  unfold validReading
  by_cases h : q.condition = .valid <;> simp [h]

theorem callsForHeat_iff {g : GuardSet} {q : Probe} {sp : Int} :
    callsForHeat g q sp = true ↔
      q.condition = .invalid ∨ (q.condition = .valid ∧ ∃ t, q.reading = some t ∧ t ≤ sp - g.hysteresis) := by
  unfold callsForHeat validReading
  cases hc : q.condition <;> cases ht : q.reading <;> simp

theorem heatSatisfied_iff {q : Probe} {sp : Option Int} :
    heatSatisfied q sp = true ↔
      sp = none ∨ ∃ x t, sp = some x ∧ q.condition = .valid ∧ q.reading = some t ∧ x ≤ t := by
  unfold heatSatisfied
  cases sp with
  | none => simp
  | some x =>
    cases ht : validReading q with
    | none =>
      have unread (t : Int) : ¬ (q.condition = .valid ∧ q.reading = some t) := fun h => by
        rw [validReading_iff.2 h] at ht; exact absurd ht (Option.some_ne_none t)
      refine iff_of_false Bool.false_ne_true ?_
      rintro (h | ⟨y, t, -, hc, hr, -⟩)
      · exact absurd h (Option.some_ne_none x)
      · exact unread t ⟨hc, hr⟩
    | some t =>
      obtain ⟨hc, hr⟩ := validReading_iff.1 ht
      simp [hc, hr]

/-! ### A judgement -/

section
variable {c : Fin 8} {s : State}

/-- An OFF circuit calls for heat by its setpoint and its probe (R139). -/
def Calls (c : Fin 8) (s : State) : Prop :=
  s.gs.role.get c ≠ .none ∧ ∃ sp, (s.frost.circuits.get c).setpoint = some sp ∧ callsForHeat s.gs (probeOf s c) sp = true

theorem judgeCircuit_calls (hq : (s.frost.circuits.get c).state = .off) (h : Calls c s) : judgeCircuit c s = circuitCalls c s := by
  obtain ⟨hrole, sp, hsp, hcalls⟩ := h
  unfold judgeCircuit
  simp only [hq, hsp]
  exact if_pos ⟨hrole, hcalls⟩

theorem judgeCircuit_off (hq : (s.frost.circuits.get c).state = .off) (h : ¬ Calls c s) : judgeCircuit c s = s := by
  unfold judgeCircuit
  simp only [hq]
  cases hsp : (s.frost.circuits.get c).setpoint with
  | none => rfl
  | some sp => exact if_neg fun e => h ⟨e.1, sp, hsp, e.2⟩

theorem judgeCircuit_gives (hq : (s.frost.circuits.get c).state = .calling ∨ (s.frost.circuits.get c).state = .shed)
    (h : heatSatisfied (probeOf s c) (s.frost.circuits.get c).setpoint = true) : judgeCircuit c s = circuitGivesUp c s := by
  unfold judgeCircuit
  rcases hq with hq | hq <;> simp only [hq, h, if_true]

theorem judgeCircuit_stops (hq : (s.frost.circuits.get c).state = .heating)
    (h : heatSatisfied (probeOf s c) (s.frost.circuits.get c).setpoint = true) : judgeCircuit c s = circuitStops c .off s := by
  unfold judgeCircuit
  simp only [hq, h, if_true]

theorem judgeCircuit_unsatisfied
    (hq : (s.frost.circuits.get c).state = .calling ∨ (s.frost.circuits.get c).state = .shed ∨
      (s.frost.circuits.get c).state = .heating)
    (h : heatSatisfied (probeOf s c) (s.frost.circuits.get c).setpoint = false) : judgeCircuit c s = s := by
  unfold judgeCircuit
  rcases hq with hq | hq | hq <;> simp only [hq, h, if_neg Bool.false_ne_true]

theorem judgeCircuit_fault (hq : (s.frost.circuits.get c).state = .fault) : judgeCircuit c s = s := by
  unfold judgeCircuit
  simp only [hq]

end

/-! ### A circuit without a claim -/

/-- A claimant with no claim in either list. -/
def Unclaimed (k : Claimant) (s : State) : Prop := ∀ x ∈ s.arbiter.waiting ++ s.arbiter.granted, x.claimant ≠ k

theorem hasClaim_of_unclaimed {k : Claimant} {s : State} (h : Unclaimed k s) : hasClaim k s = false := by
  unfold hasClaim
  rw [Bool.or_eq_false_iff, List.any_eq_false, List.any_eq_false]
  exact ⟨fun x hx => by simpa using h x (List.mem_append_left _ hx), fun x hx => by simpa using h x (List.mem_append_right _ hx)⟩

theorem unclaimed_of_subset {k : Claimant} {s t : State} (hs : Unclaimed k s)
    (h : ∀ d ∈ t.arbiter.waiting ++ t.arbiter.granted,
      d.claimant ≠ k ∨ ∃ x ∈ s.arbiter.waiting ++ s.arbiter.granted, x.claimant = d.claimant) : Unclaimed k t := by
  intro d hd
  rcases h d hd with other | ⟨x, hx, e⟩
  · exact other
  · exact e ▸ hs x hx

theorem unclaimed_moveToGranted {k : Claimant} {s : State} {c : Claim} (hs : Unclaimed k s) (hc : c ∈ s.arbiter.waiting) :
    Unclaimed k (moveToGranted c s) := by
  refine unclaimed_of_subset hs fun d hd => .inr ?_
  have hd : d ∈ s.arbiter.waiting.filter (fun x => x.claimant ≠ c.claimant) ++ (s.arbiter.granted ++ [c]) := hd
  simp only [List.mem_append, List.mem_filter, List.mem_singleton] at hd
  rcases hd with ⟨hd, -⟩ | hd | rfl
  · exact ⟨d, List.mem_append_left _ hd, rfl⟩
  · exact ⟨d, List.mem_append_right _ hd, rfl⟩
  · exact ⟨d, List.mem_append_left _ hc, rfl⟩

theorem unclaimed_markReclaim {k : Claimant} {s : State} (hs : Unclaimed k s) (c : Claim) (vs : List Claimant) :
    Unclaimed k (markReclaim c vs s) := by
  refine unclaimed_of_subset hs fun d hd => .inr ?_
  rcases List.mem_append.1 hd with hd | hd
  · exact ⟨d, List.mem_append_left _ hd, rfl⟩
  · obtain ⟨x, hx, rfl⟩ := List.mem_map.1 hd
    exact ⟨x, List.mem_append_right _ hx, by split <;> rfl⟩

theorem unclaimed_dropGranted {k j : Claimant} {s : State} (hs : Unclaimed k s) : Unclaimed k (dropGranted j s) := by
  refine unclaimed_of_subset hs fun d hd => .inr ⟨d, ?_, rfl⟩
  exact (List.mem_append.1 hd).elim (List.mem_append_left _) fun hd => List.mem_append_right _ (List.mem_filter.1 hd).1

theorem unclaimed_enterClaim {k j : Claimant} {s : State} (hj : j ≠ k) (hs : Unclaimed k s) (u : Nat) (cls : ClaimClass) :
    Unclaimed k (enterClaim j u cls s) := by
  cases h : hasClaim j s with
  | true => rw [enterClaim_of_holder h]; exact hs
  | false =>
    rw [enterClaim_of_none h]
    refine unclaimed_of_subset hs fun d hd => ?_
    rcases List.mem_append.1 hd with hd | hd
    · rcases List.mem_cons.1 ((enterWaiting_perm _ _).mem_iff.1 hd) with rfl | hd
      · exact .inl hj
      · exact .inr ⟨d, List.mem_append_left _ hd, rfl⟩
    · exact .inr ⟨d, List.mem_append_right _ hd, rfl⟩

/-- A circuit outside every claim, with its entry. -/
def Apart (c : Fin 8) (q : Circuit) (s : State) : Prop := Unclaimed (.circuit c) s ∧ s.frost.circuits.get c = q

theorem apart_of_eq {c : Fin 8} {q : Circuit} {s t : State} (ha : t.arbiter = s.arbiter) (hf : t.frost = s.frost)
    (h : Apart c q s) : Apart c q t := by
  unfold Apart Unclaimed; rw [ha, hf]; exact h

theorem apart_takeGrant {c : Fin 8} {q : Circuit} {s : State} (h : Apart c q s) {k : Claimant} (hk : k ≠ .circuit c) :
    Apart c q (takeGrant k s) := by
  refine ⟨?_, ?_⟩
  · unfold Unclaimed; rw [takeGrant_arbiter]; exact h.1
  · cases k with
    | pump p => exact (congrArg (fun f : Frost => f.circuits.get c) (takePumpGrant_frost p s)).trans h.2
    | circuit d =>
      have hd : c ≠ d := fun e => hk (by rw [e])
      show ((takeCircuitGrant d s).frost.circuits.get c) = q
      unfold takeCircuitGrant; dsimp only; split
      · rw [setCircuit_circuits, octo_get_set_other _ _ _ _ hd]; exact h.2
      · exact h.2

theorem apart_shedCircuit {c : Fin 8} {q : Circuit} {w : State → State} (hw : ∀ t, Apart c q t → Apart c q (w t)) {s : State}
    (h : Apart c q s) {k : Claimant} (hk : k ≠ .circuit c) : Apart c q (shedCircuit w k s) := by
  cases k with
  | pump p => exact h
  | circuit d =>
    have hd : c ≠ d := fun e => hk (by rw [e])
    have shed : Apart c q (dropGranted (.circuit d) (setCircuit d { s.frost.circuits.get d with state := .shed, timer := none } s)) :=
      ⟨unclaimed_dropGranted h.1, (octo_get_set_other _ _ _ _ hd).trans h.2⟩
    have walked := hw _ shed
    refine hw _ ⟨unclaimed_enterClaim hk walked.1 _ _, ?_⟩
    rw [enterClaim_frost]
    exact walked.2

theorem mem_victims {s : State} {cls : ClaimClass} {a n : Nat} {k : Claimant}
    (h : k ∈ (takeVictims a n (victimOrder s cls)).map (·.claimant)) : ∃ x ∈ s.arbiter.granted, x.claimant = k := by
  obtain ⟨x, hx, e⟩ := List.mem_map.1 h
  obtain ⟨rank, -, hx⟩ := List.mem_flatMap.1 (mem_takeVictims hx)
  exact ⟨x, List.mem_reverse.1 (List.mem_filter.1 (List.mem_filter.1 hx).1).1, e⟩

/-- The walk neither grants nor sheds a circuit that has no claim. -/
theorem walk_apart {c : Fin 8} {q : Circuit} (n : Nat) {s : State} (h : Apart c q s) : Apart c q (walk n s) := by
  induction n generalizing s with
  | zero => exact apart_of_eq rfl rfl h
  | succ n ih =>
    unfold walk; dsimp only; split
    · exact h
    split
    · exact h
    · rename_i head rest hlist
      have waits : head ∈ s.arbiter.waiting := by rw [hlist]; exact List.mem_cons_self
      have other : head.claimant ≠ .circuit c := h.1 head (List.mem_append_left _ waits)
      split
      · exact ih (apart_takeGrant ⟨unclaimed_moveToGranted h.1 waits, h.2⟩ other)
      split
      · exact h
      · have marked (vs : List Claimant) : Apart c q (markReclaim head vs s) := ⟨unclaimed_markReclaim h.1 head vs, h.2⟩
        refine List.foldlRecOn _ _ ?_ fun t ht k hk => ?_
        · refine foldl_keeps (Apart c q) _ (fun t k ht => apart_of_eq ?_ (reportReclaim_frost k t) ht) _ _ (marked _)
          unfold reportReclaim; repeat' split
          all_goals rfl
        · obtain ⟨x, hx, e⟩ := mem_victims hk
          exact apart_shedCircuit (fun _ => ih) ht (e ▸ h.1 x (List.mem_append_right _ hx))

/-- A circuit that gives its claim up, none of its waiting, stands apart afterwards as it was written. -/
theorem releaseClaim_apart {c : Fin 8} {s : State} (h : ∀ x ∈ s.arbiter.waiting, x.claimant ≠ .circuit c) :
    Apart c (s.frost.circuits.get c) (releaseClaim (.circuit c) s) := by
  refine walk_apart 64 ⟨fun x hx => ?_, rfl⟩
  rcases List.mem_append.1 hx with hx | hx
  · exact h x hx
  · simpa using (List.mem_filter.1 hx).2

/-! ### A shedding during a reclaim -/

/-- While other victims are still to release, no walk follows either move of a shed circuit (R104, R141). -/
theorem shedCircuit_reclaiming {c : Fin 8} {s : State} {r : Reclaim} (hr : s.arbiter.reclaim = some r)
    (others : ∃ k ∈ r.victims, k ≠ .circuit c) (unwaiting : ∀ x ∈ s.arbiter.waiting, x.claimant ≠ .circuit c) (n : Nat) :
    let shed := setCircuit c { s.frost.circuits.get c with state := .shed, timer := none } s
    shedCircuit (walk (n + 1)) (.circuit c) s =
      { shed with arbiter := { shed.arbiter with
          waiting := enterWaiting
            { claimant := .circuit c, units := s.gs.circuitRating.get c, cls := roleClass (s.gs.role.get c),
              seq := s.arbiter.counter, reclaiming := false } s.arbiter.waiting
          granted := s.arbiter.granted.filter (fun x => x.claimant ≠ .circuit c)
          counter := (s.arbiter.counter + 1) % 65536
          reclaim := some { r with victims := r.victims.filter (fun x => x ≠ .circuit c) } } } := by
  intro shed
  obtain ⟨k, hk, hkc⟩ := others
  have left : r.victims.filter (fun x => x ≠ .circuit c) ≠ [] :=
    List.ne_nil_of_mem (List.mem_filter.2 ⟨hk, by simpa using hkc⟩)
  have dropped : dropGranted (.circuit c) shed = { shed with arbiter := { shed.arbiter with
      granted := s.arbiter.granted.filter (fun x => x.claimant ≠ .circuit c)
      reclaim := some { r with victims := r.victims.filter (fun x => x ≠ .circuit c) } } } := by
    rw [dropGranted_reclaim (s := shed) hr, if_neg left]
    rfl
  have free : Unclaimed (.circuit c) (dropGranted (.circuit c) shed) := by
    rw [dropped]
    intro x hx
    rcases List.mem_append.1 hx with hx | hx
    · exact unwaiting x hx
    · simpa using (List.mem_filter.1 hx).2
  have first : walk (n + 1) (dropGranted (.circuit c) shed) = dropGranted (.circuit c) shed :=
    walk_of_reclaim (by rw [dropped]; rfl) n
  have entered (u : Nat) (cls : ClaimClass) := enterClaim_of_none (hasClaim_of_unclaimed free) u cls
  have unfolded : shedCircuit (walk (n + 1)) (.circuit c) s =
      walk (n + 1) (enterClaim (.circuit c) (s.gs.circuitRating.get c) (roleClass (s.gs.role.get c))
        (dropGranted (.circuit c) shed)) := by
    show walk (n + 1) (enterClaim (.circuit c) _ _ (walk (n + 1) (dropGranted (.circuit c) shed))) = _
    rw [first]
    rfl
  rw [unfolded, entered, dropped]
  exact walk_of_reclaim rfl n

/-! ### The feedback of a heater -/

section
variable (c : Fin 8) (b : Bool) (s : State)

theorem heaterCurrent_inputs : (heaterCurrent c b s).inputs = { s.inputs with current := s.inputs.current.set c b } := by
  unfold heaterCurrent; dsimp only; repeat' split
  all_goals rfl

theorem heaterCurrent_else (hq : (s.frost.circuits.get c).state ≠ .heating) : (heaterCurrent c b s).frost = s.frost := by
  unfold heaterCurrent; dsimp only
  rw [if_pos hq]

theorem heaterCurrent_shows (hq : (s.frost.circuits.get c).state = .heating) :
    (heaterCurrent c true s).frost.circuits.get c = { s.frost.circuits.get c with timer := none } := by
  unfold heaterCurrent; dsimp only
  rw [if_neg (not_not.2 hq), if_pos rfl, setCircuit_circuits, octo_get_set_same]

theorem heaterCurrent_stops (hq : (s.frost.circuits.get c).state = .heating) (h : s.inputs.current.get c = true) :
    (heaterCurrent c false s).frost.circuits.get c = { s.frost.circuits.get c with timer := some 30 } := by
  unfold heaterCurrent; dsimp only
  rw [if_neg (not_not.2 hq), if_neg Bool.false_ne_true, if_pos h, setCircuit_circuits, octo_get_set_same]

end

/-- Settles O51: the setpoints stand, each judgement is one equation, and a circuit without a claim is left by every walk. -/
theorem circuitsJudged : Obligations.CircuitsJudged := by
  refine ⟨fun c s => ⟨setpointOf_is s c, refreshSetpoints_setpoint s c, rfl, rfl⟩, fun c s => ?_, fun c b s => ?_⟩
  · intro q probe calls satisfied u
    have calls_iff : calls ↔ Calls c s :=
      and_congr_right' (exists_congr fun sp => and_congr_right' callsForHeat_iff.symm)
    have satisfied_iff : satisfied ↔ heatSatisfied (probeOf s c) q.setpoint = true := heatSatisfied_iff.symm
    refine ⟨fun hq h => judgeCircuit_calls hq (calls_iff.1 h), fun hq h => judgeCircuit_off hq (mt calls_iff.2 h),
      fun hq h => judgeCircuit_gives hq (satisfied_iff.1 h), fun hq h => judgeCircuit_stops hq (satisfied_iff.1 h),
      fun hq h => judgeCircuit_unsatisfied hq (Bool.eq_false_of_not_eq_true (mt satisfied_iff.2 h)), judgeCircuit_fault,
      fun hq => if_pos hq, fun n r hr others unwaiting => ?_⟩
    intro t
    have sheds := shedCircuit_reclaiming hr others unwaiting n
    rw [show t = _ from sheds]
    refine ⟨rfl, fun x hx => by simpa using (List.mem_filter.1 hx).2, _,
      (enterWaiting_perm _ _).mem_iff.2 List.mem_cons_self, rfl, rfl, rfl, rfl⟩
  · intro q u
    refine ⟨⟨rfl, heaterCurrent_inputs c b s, heaterCurrent_else c b s, fun hq hb => ?_, fun hq hb h => ?_⟩, fun hq ht unwaiting => ?_⟩
    · subst hb; exact heaterCurrent_shows c s hq
    · subst hb; exact heaterCurrent_stops c s hq h
    · intro v
      have fails : v = setEvent .circuitFault (circuitStops c .fault s) := if_pos ⟨hq, ht⟩
      have apart := releaseClaim_apart (s := setCircuit c { q with state := .fault, timer := none } s) unwaiting
      refine ⟨rfl, ?_, by rw [fails]; exact eventIsSet_setEvent _ _, ?_⟩
      · rw [fails]
        exact apart.2.trans (octo_get_set_same _ _ _)
      · rw [fails]
        exact fun x hx => apart.1 x (List.mem_append_right _ hx)

end Sys2Proof.Machine
end

section
/-! PROOF. Stagnation and turnover: the fallback flag, the request for order 241 and its withdrawal (R148 to R151). -/

namespace Sys2Proof.Machine
open Sys2Proof.Safety

/-! ### What the circuits announce -/

/-- The announcements that a claim may lead to. -/
def OfClaims : Note → Prop
  | .walk => True
  | .pumpChanged _ => True
  | .runningConfirmed _ => True
  | .reclaimReport _ => True
  | _ => False

/-- Every announcement stood already or comes of a claim. -/
def Mutters (s t : State) : Prop := ∀ n ∈ t.agenda, n ∈ s.agenda ∨ OfClaims n

theorem mutters_of_agenda {s t : State} (h : t.agenda = s.agenda) : Mutters s t := fun _ hn => .inl (h ▸ hn)

theorem Mutters.refl (s : State) : Mutters s s := mutters_of_agenda rfl

theorem Mutters.trans {s t u : State} (h : Mutters s t) (h' : Mutters t u) : Mutters s u :=
  fun n hn => (h' n hn).elim (h n) .inr

theorem emit_mutters {n : Note} (h : OfClaims n) (s : State) : Mutters s (emit n s) := by
  intro m hm
  rcases List.mem_append.1 hm with hm | hm
  · exact .inl hm
  · exact .inr (List.mem_singleton.1 hm ▸ h)

theorem foldl_mutters {α : Type} {f : State → α → State} (h : ∀ s a, Mutters s (f s a)) (l : List α) (s : State) :
    Mutters s (l.foldl f s) := foldl_keeps (Mutters s) f (fun t a ht => ht.trans (h t a)) l s (Mutters.refl s)

theorem takeGrant_mutters (k : Claimant) (s : State) : Mutters s (takeGrant k s) := by
  cases k with
  | circuit c =>
    refine mutters_of_agenda ?_
    show (takeCircuitGrant c s).agenda = _
    unfold takeCircuitGrant; dsimp only; split <;> rfl
  | pump p =>
    show Mutters s (takePumpGrant p s)
    have starts (q : Pump) : Mutters s (emit (.pumpChanged p) (setPump p q s)) := emit_mutters (n := .pumpChanged p) trivial (setPump p q s)
    have confirms (t : State) : Mutters t (confirmRunning p t) := by
      refine (emit_mutters (n := .runningConfirmed p) trivial _).trans (emit_mutters (n := .pumpChanged p) trivial _)
    unfold takePumpGrant; dsimp only
    split
    · exact Mutters.refl s
    · split
      · exact (starts _).trans (confirms _)
      · exact starts _

theorem shedCircuit_mutters {w : State → State} (hw : ∀ t, Mutters t (w t)) (k : Claimant) (s : State) :
    Mutters s (shedCircuit w k s) := by
  cases k with
  | pump p => exact Mutters.refl s
  | circuit c =>
    have released : Mutters s (w (dropGranted (.circuit c)
      (setCircuit c { s.frost.circuits.get c with state := .shed, timer := none } s))) := hw _
    have entered (u : Nat) (cls : ClaimClass) (t : State) : Mutters t (enterClaim (.circuit c) u cls t) :=
      mutters_of_agenda (by unfold enterClaim; split <;> rfl)
    exact released.trans ((entered _ _ _).trans (hw _))

theorem walk_mutters (n : Nat) (s : State) : Mutters s (walk n s) := by
  induction n generalizing s with
  | zero => exact emit_mutters (n := .walk) trivial s
  | succ n ih =>
    unfold walk; dsimp only; repeat' split
    · exact Mutters.refl s
    · exact Mutters.refl s
    · rename_i c _ _ _
      have granted : Mutters s (takeGrant c.claimant (moveToGranted c s)) := takeGrant_mutters c.claimant (moveToGranted c s)
      exact granted.trans (ih _)
    · exact Mutters.refl s
    · have reports (t : State) (k : Claimant) : Mutters t (reportReclaim k t) := by
        unfold reportReclaim; repeat' split
        · exact emit_mutters (by trivial) t
        · exact Mutters.refl t
        · exact Mutters.refl t
      exact (foldl_mutters reports _ (markReclaim _ _ s)).trans (foldl_mutters (fun t k => shedCircuit_mutters ih k t) _ _)

theorem judgeCircuit_mutters (c : Fin 8) (s : State) : Mutters s (judgeCircuit c s) := by
  have calls : Mutters s (circuitCalls c s) := by
    refine Mutters.trans (mutters_of_agenda ?_) (walk_mutters 64 _)
    unfold enterClaim; split <;> rfl
  have gives : Mutters s (circuitGivesUp c s) := by
    refine Mutters.trans (mutters_of_agenda ?_) (walk_mutters 64 _)
    unfold dropWaiting; dsimp only; repeat' split
    all_goals rfl
  have stops (x : CircuitState) : Mutters s (circuitStops c x s) := walk_mutters 64 _
  unfold judgeCircuit; dsimp only; repeat' split
  all_goals first
    | exact Mutters.refl s
    | exact calls
    | exact gives
    | exact stops _

theorem refreshSetpoint_mutters (s : State) (c : Fin 8) : Mutters s (refreshSetpoint s c) := by
  unfold refreshSetpoint; dsimp only; split
  · exact Mutters.refl s
  · exact judgeCircuit_mutters c (setCircuit c { s.frost.circuits.get c with setpoint := setpointOf s c } s)

theorem refreshSetpoints_mutters (s : State) : Mutters s (refreshSetpoints s) := by
  unfold refreshSetpoints
  exact foldl_mutters refreshSetpoint_mutters eightNumbers s

/-! ### The fallback flag -/

theorem setFallback_mutters (b : Bool) (s : State) : Mutters s (setFallback b s) := by
  unfold setFallback; split
  · exact Mutters.refl s
  · exact refreshSetpoints_mutters { s with frost := { s.frost with fallback := b } }

theorem setFallback_besides (b : Bool) (s : State) :
    besidesCircuits (setFallback b s) = (s.frost.probes, s.frost.pipe, s.frost.stagnation, b) := by
  unfold setFallback; split
  · rename_i h; unfold besidesCircuits; rw [h]
  · exact refreshSetpoints_besides { s with frost := { s.frost with fallback := b } }

theorem setFallback_grows (b : Bool) (s : State) : Grows s (setFallback b s) := by
  unfold setFallback; split
  · exact Grows.refl s
  · exact (grows_of_eq rfl rfl : Grows s { s with frost := { s.frost with fallback := b } }).trans (refreshSetpoints_grows _)

/-! ### The conditions -/

/-- The tank probe reads a temperature. -/
def Reads (s : State) (t : Int) : Prop :=
  ∃ q, s.gs.tankProbe.map (fun i => s.frost.probes.get i) = some q ∧ q.condition = .valid ∧ q.reading = some t

/-- The tank is warm (R150, R151). -/
def Warm (s : State) : Prop := ∃ t, Reads s t ∧ s.gs.tankCold < t

/-- The water stands in the cold (R149). -/
def Stagnant (s : State) : Prop :=
  s.gs.stagnationTime * 60 ≤ s.frost.stagnation ∧ ∃ t, Reads s t ∧ t ≤ s.gs.tankCold

/-- A turnover has room at a level (R149). -/
def Room (s : State) (l : Nat) : Prop :=
  filtered s = some l ∧ s.guard.state = .normal ∧ l + s.gs.turnoverDepth + s.gs.approachBand ≤ s.guard.ceiling

theorem tankReading_iff {s : State} {t : Int} : tankReading s = some t ↔ Reads s t := by
  unfold tankReading tankProbe Reads
  cases s.gs.tankProbe with
  | none => simp
  | some i => simp [validReading_iff]

theorem tankWarm_iff {s : State} : tankWarm s = true ↔ Warm s := by
  unfold tankWarm Warm
  simp only [← tankReading_iff]
  cases tankReading s <;> simp

theorem stagnationLong_iff {s : State} : stagnationLong s = true ↔ s.gs.stagnationTime * 60 ≤ s.frost.stagnation := decide_eq_true_iff

theorem stagnationHolds_iff {s : State} : stagnationHolds s = true ↔ Stagnant s := by
  unfold stagnationHolds Stagnant
  rw [Bool.and_eq_true, stagnationLong_iff]
  simp only [← tankReading_iff]
  cases tankReading s <;> simp

theorem turnoverTarget_some {s : State} {l : Nat} (hs : Stagnant s) (hr : Room s l) :
    turnoverTarget s = some (l + s.gs.turnoverDepth) := by
  obtain ⟨hl, hroom⟩ := hr
  unfold turnoverTarget
  rw [hl]
  exact if_pos ⟨stagnationHolds_iff.2 hs, hroom⟩

theorem turnoverTarget_none {s : State} (h : ¬ Stagnant s ∨ ∀ l, ¬ Room s l) : turnoverTarget s = none := by
  unfold turnoverTarget
  cases hl : filtered s with
  | none => rfl
  | some l =>
    refine if_neg fun ⟨hs, hroom⟩ => ?_
    exact h.elim (fun hn => hn (stagnationHolds_iff.1 hs)) fun hn => hn l ⟨hl, hroom⟩

theorem turnoverTarget_isNone {s : State} (hs : Stagnant s) : (turnoverTarget s).isNone = true ↔ ∀ l, ¬ Room s l := by
  rw [Option.isNone_iff_eq_none]
  refine ⟨fun h l hr => ?_, fun h => turnoverTarget_none (.inr h)⟩
  rw [turnoverTarget_some hs hr] at h
  exact absurd h (Option.some_ne_none _)

theorem turnoverStuck_iff {s : State} :
    turnoverStuck s = true ↔ ∃ f, findFill 241 s = some f ∧ (f.state = .due ∨ f.state = .suspended) ∧
      (f.hold = some .allowance ∨ f.hold = some .pump ∨ f.hold = some .valve) := by
  unfold turnoverStuck
  cases findFill 241 s <;> simp [or_assoc]

theorem fallbackAfter_clear {s : State} (h : Warm s ∨ s.gs.tankProbe = none) : fallbackAfter s = false := by
  unfold fallbackAfter
  refine if_pos ?_
  rw [Bool.or_eq_true, tankWarm_iff, Option.isNone_iff_eq_none]
  exact h

/-- The lack of a turnover for which the tank is heated instead (R150). -/
def Lacks (s : State) : Prop :=
  (¬ isLive 241 s = true ∧ ∀ l, ¬ Room s l) ∨
    ∃ f, findFill 241 s = some f ∧ (f.state = .due ∨ f.state = .suspended) ∧
      (f.hold = some .allowance ∨ f.hold = some .pump ∨ f.hold = some .valve)

theorem fallbackAfter_cold {s : State} (h : ¬ (Warm s ∨ s.gs.tankProbe = none)) :
    (Stagnant s ∧ Lacks s → fallbackAfter s = true) ∧ (¬ (Stagnant s ∧ Lacks s) → fallbackAfter s = s.frost.fallback) := by
  have cold : ¬ (tankWarm s || s.gs.tankProbe.isNone) = true := by
    rw [Bool.or_eq_true, tankWarm_iff, Option.isNone_iff_eq_none]; exact h
  have lacks (hs : Stagnant s) :
      ((!isLive 241 s && (turnoverTarget s).isNone) || turnoverStuck s) = true ↔ Lacks s := by
    rw [Bool.or_eq_true, Bool.and_eq_true, turnoverTarget_isNone hs, turnoverStuck_iff, Bool.not_eq_true', ← Bool.not_eq_true]
    rfl
  unfold fallbackAfter
  rw [if_neg cold]
  refine ⟨fun ⟨hs, hl⟩ => if_pos ?_, fun hn => if_neg fun e => hn ?_⟩
  · rw [Bool.and_eq_true]; exact ⟨stagnationHolds_iff.2 hs, (lacks hs).2 hl⟩
  · rw [Bool.and_eq_true] at e
    have hs := stagnationHolds_iff.1 e.1
    exact ⟨hs, (lacks hs).1 e.2⟩

/-! ### The judgement -/

/-- What the conditions look at. -/
theorem conditions_congr {s t : State} (hg : t.gs = s.gs) (hl : t.level = s.level) (hguard : t.guard = s.guard)
    (hp : t.frost.probes = s.frost.probes) (hs : t.frost.stagnation = s.frost.stagnation) :
    turnoverTarget t = turnoverTarget s ∧ withdrawCause t = withdrawCause s := by
  have reading : tankReading t = tankReading s := by unfold tankReading tankProbe; rw [hg, hp]
  have long : stagnationLong t = stagnationLong s := by unfold stagnationLong; rw [hg, hs]
  have holds : stagnationHolds t = stagnationHolds s := by unfold stagnationHolds; rw [long, reading, hg]
  have level : filtered t = filtered s := by unfold filtered; rw [hl]
  have warm : tankWarm t = tankWarm s := by unfold tankWarm; rw [reading, hg]
  constructor
  · unfold turnoverTarget; rw [level, holds, hguard, hg]
  · unfold withdrawCause; rw [warm, hg, long]

/-- What the judgement asks for. -/
def request (s : State) : List Note :=
  match turnoverTarget s with
  | some t => if isLive 241 s then [] else [.turnoverRequest t]
  | none => []

/-- What the judgement withdraws. -/
def withdrawal (s : State) : List Note := if isLive 241 s && withdrawCause s then [.withdrawTurnover] else []

theorem setFallback_conditions (b : Bool) (s : State) :
    turnoverTarget (setFallback b s) = turnoverTarget s ∧ withdrawCause (setFallback b s) = withdrawCause s ∧
      isLive 241 (setFallback b s) = isLive 241 s := by
  have calm := setFallback_calm b s
  have low := setFallback_low b s
  have besides := setFallback_besides b s
  generalize setFallback b s = t at calm low besides
  obtain ⟨target, cause⟩ := conditions_congr (congrArg Still.gs (calm_still calm)) (calm_level calm) (calm_guard calm)
    (congrArg (fun x => x.1) besides) (congrArg (fun x => x.2.2.1) besides)
  refine ⟨target, cause, ?_⟩
  unfold isLive findRecord
  rw [low_book low]

theorem judgeFrost_eq (s : State) :
    judgeFrost s = { setFallback (fallbackAfter s) s with
      agenda := (setFallback (fallbackAfter s) s).agenda ++ request s ++ withdrawal s } := by
  obtain ⟨target, cause, live⟩ := setFallback_conditions (fallbackAfter s) s
  unfold judgeFrost request withdrawal
  dsimp only
  generalize setFallback (fallbackAfter s) s = t at target cause live
  have ends (b : Bool) : (if b = true then emit .withdrawTurnover t else t) =
      { t with agenda := t.agenda ++ [] ++ if b = true then [.withdrawTurnover] else [] } := by
    cases b <;> simp [emit]
  have asks (x : Nat) : isLive 241 (emit (.turnoverRequest x) t) = isLive 241 s := live
  rw [target]
  cases turnoverTarget s with
  | none => dsimp only; rw [live, cause]; exact ends _
  | some x =>
    dsimp only
    rw [live]
    cases hl : isLive 241 s with
    | true =>
      simp only [if_true]
      rw [live, cause, hl]
      exact ends _
    | false =>
      simp only [Bool.false_eq_true, if_false, asks, hl, Bool.false_and]
      simp [emit]

theorem withdrawTurnover_not_requested (s : State) : .withdrawTurnover ∉ request s := by
  unfold request
  cases turnoverTarget s with
  | none => exact List.not_mem_nil
  | some x =>
    dsimp only
    split
    · exact List.not_mem_nil
    · simp

/-! ### Water turned over -/

theorem turnedOver_frost (s : State) : (turnedOver s).frost.stagnation = 0 ∧ (turnedOver s).frost.fallback = false := by
  have besides := setFallback_besides false { s with frost := { s.frost with stagnation := 0 } }
  unfold turnedOver
  generalize setFallback false { s with frost := { s.frost with stagnation := 0 } } = t at besides
  exact ⟨congrArg (fun x => x.2.2.1) besides, congrArg (fun x => x.2.2.2) besides⟩

section
variable {first : Option Nat} {s : State}

theorem judgeTurned_turns {a l : Nat} (ha : first = some a) (hl : filtered s = some l) (h : a + s.gs.turnoverDepth ≤ l) :
    judgeTurned first s = turnedOver s := by
  unfold judgeTurned
  rw [ha, hl]
  exact if_pos h

theorem judgeTurned_stays (h : ∀ a l, first = some a → filtered s = some l → ¬ a + s.gs.turnoverDepth ≤ l) :
    judgeTurned first s = s := by
  unfold judgeTurned
  split
  · rename_i a l hl
    exact if_neg (h a l rfl hl)
  · rfl

end

theorem bookChanged_frost (n : Nat) (s : State) : (bookChanged n s).frost = s.frost := by
  unfold bookChanged; dsimp only; split <;> rfl

theorem takeWithdrawal_waiting {s : State} {f : FillRecord} (hf : findFill 241 s = some f)
    (hq : f.state = .due ∨ f.state = .suspended) :
    takeWithdrawal s = bookChanged 241 (judgeTurned (f.context.map (·.first)) (removeRecord 241 s)) := by
  unfold takeWithdrawal
  rw [hf]
  exact if_pos hq

/-- Settles O52: the flag by its two conditions, and the one announcement that a judgement may add. -/
theorem turnoverJudged : Obligations.TurnoverJudged := by
  intro s tank reads long stagnant warm room live stuck v
  have judged : v = _ := judgeFrost_eq s
  have besides : besidesCircuits v = (s.frost.probes, s.frost.pipe, s.frost.stagnation, fallbackAfter s) := by
    rw [judged]; exact setFallback_besides (fallbackAfter s) s
  have fallback : v.frost.fallback = fallbackAfter s := congrArg (fun x => x.2.2.2) besides
  obtain ⟨xs, hx⟩ := (setFallback_grows (fallbackAfter s) s).agenda
  have agenda : v.agenda = s.agenda ++ xs ++ request s ++ withdrawal s := by rw [judged, ← hx]
  have muttered (n : Note) (hn : n ∈ s.agenda ++ xs) : n ∈ s.agenda ∨ OfClaims n :=
    setFallback_mutters (fallbackAfter s) s n (hx ▸ hn)
  clear_value v
  have cause_iff : withdrawCause s = true ↔ warm ∨ s.gs.tankProbe = none ∨ ¬ long := by
    unfold withdrawCause
    rw [Bool.or_eq_true, Bool.or_eq_true, tankWarm_iff, Option.isNone_iff_eq_none, Bool.not_eq_true', ← Bool.not_eq_true,
      stagnationLong_iff, or_assoc]
    rfl
  refine ⟨fun h => fallback.trans (fallbackAfter_clear h), fun h hs hl => fallback.trans ((fallbackAfter_cold h).1 ⟨hs, hl⟩),
    fun h hn => fallback.trans ((fallbackAfter_cold h).2 hn), congrArg (fun x => x.2.2.1) besides, fun l hs hr hl => ?_,
    fun hl hc => ?_, fun h t ht => ?_, fun h hw => ?_, fun m => ?_, fun f hf hq => ?_, fun first => ?_⟩
  · have dead : isLive 241 s = false := Bool.eq_false_of_not_eq_true hl
    have asks : request s = [.turnoverRequest (l + s.gs.turnoverDepth)] := by
      unfold request; rw [turnoverTarget_some hs hr, dead]; rfl
    have keeps : withdrawal s = [] := by unfold withdrawal; rw [dead]; rfl
    exact ⟨xs, by rw [agenda, asks, keeps, List.append_nil]⟩
  · have takes : withdrawal s = [.withdrawTurnover] := if_pos (by rw [show isLive 241 s = true from hl, cause_iff.2 hc]; rfl)
    exact ⟨xs ++ request s, by rw [agenda, takes]; simp⟩
  · have silent : request s = [] := by
      unfold request
      by_cases hl : isLive 241 s = true
      · cases turnoverTarget s with
        | none => rfl
        | some x => exact if_pos hl
      · rw [turnoverTarget_none (h.imp_right fun h => h.resolve_left hl)]
    rw [agenda, silent, List.append_nil] at ht
    rcases List.mem_append.1 ht with ht | ht
    · exact (muttered _ ht).resolve_right id
    · unfold withdrawal at ht
      split at ht
      · exact absurd (List.mem_singleton.1 ht) (by simp)
      · exact absurd ht List.not_mem_nil
  · have keeps : withdrawal s = [] := by
      refine if_neg fun e => ?_
      rw [Bool.and_eq_true, cause_iff] at e
      rcases h with h | ⟨h1, h2, h3⟩
      · exact h e.1
      · rcases e.2 with e | e | e
        · exact h1 e
        · exact h2 e
        · exact e h3
    rw [agenda, keeps, List.append_nil] at hw
    rcases List.mem_append.1 hw with hw | hw
    · exact (muttered _ hw).resolve_right id
    · exact absurd hw (withdrawTurnover_not_requested s)
  · show (handle (.heatMinute m) s).frost.stagnation = _
    rw [handle_heatMinute]
    exact heatMinute_stagnation m s
  · show findRecord 241 (takeWithdrawal s) = none ∧ _
    rw [show handle .withdrawTurnover s = takeWithdrawal s from rfl, takeWithdrawal_waiting hf hq]
    refine ⟨?_, ?_, fun h => ?_⟩
    · rw [findRecord_bookChanged]
      exact (findRecord_congr (judgeTurned_book _ _) 241).trans (removeRecord_finds 241 s)
    · rintro ⟨k, l, hk, hl, hle⟩
      rw [judgeTurned_turns (s := removeRecord 241 s) (a := k.first) (by rw [hk]; rfl) hl hle, bookChanged_frost]
      exact turnedOver_frost _
    · rw [judgeTurned_stays (s := removeRecord 241 s), bookChanged_frost]
      · rfl
      · intro a l ha hl hle
        obtain ⟨k, hk, rfl⟩ := Option.map_eq_some_iff.1 ha
        exact h ⟨k, l, hk, hl, hle⟩
  · refine ⟨fun a l ha hl hle => ?_, fun h => ?_⟩
    · show (judgeTurned first s).frost.stagnation = 0 ∧ (judgeTurned first s).frost.fallback = false
      rw [judgeTurned_turns ha hl hle]
      exact turnedOver_frost s
    · refine judgeTurned_stays fun a l ha hl hle => ?_
      rcases h with h | h | ⟨a', l', ha', hl', hlt⟩
      · exact absurd (h.symm.trans ha) (Option.some_ne_none a).symm
      · exact absurd (h.symm.trans hl) (Option.some_ne_none l).symm
      · obtain rfl := Option.some.inj (ha.symm.trans ha')
        obtain rfl := Option.some.inj (hl.symm.trans hl')
        omega

end Sys2Proof.Machine
end

section
/-! PROOF. The probes and the overflow pipe (R132, R133, R145 to R147). -/

namespace Sys2Proof.Machine
open Sys2Proof.Safety

/-! ### The overflow pipe -/

/-- Where a circuit stands among the circuits. -/
theorem eightNumbers_split (c : Fin 8) : ∃ pre post, eightNumbers = pre ++ c :: post ∧ ∀ k ∈ pre, k < c := by
  fin_cases c
  · exact ⟨[], [1, 2, 3, 4, 5, 6, 7], rfl, by simp⟩
  · exact ⟨[0], [2, 3, 4, 5, 6, 7], rfl, by decide⟩
  · exact ⟨[0, 1], [3, 4, 5, 6, 7], rfl, by decide⟩
  · exact ⟨[0, 1, 2], [4, 5, 6, 7], rfl, by decide⟩
  · exact ⟨[0, 1, 2, 3], [5, 6, 7], rfl, by decide⟩
  · exact ⟨[0, 1, 2, 3, 4], [6, 7], rfl, by decide⟩
  · exact ⟨[0, 1, 2, 3, 4, 5], [7], rfl, by decide⟩
  · exact ⟨[0, 1, 2, 3, 4, 5, 6], [], rfl, by decide⟩

theorem circuitOfRole_lowest {g : GuardSet} {r : Role} {c : Fin 8} (hc : g.role.get c = r)
    (low : ∀ k : Fin 8, k < c → g.role.get k ≠ r) : circuitOfRole g r = some c := by
  obtain ⟨pre, post, placed, below⟩ := eightNumbers_split c
  have unnamed : pre.find? (fun c => g.role.get c = r) = none :=
    List.find?_eq_none.2 fun k hk => by simpa using low k (below k hk)
  unfold circuitOfRole
  rw [placed, List.find?_append, unnamed, List.find?_cons_of_pos (by simpa using hc)]
  rfl

theorem circuitOfRole_none {g : GuardSet} {r : Role} (h : ∀ c : Fin 8, g.role.get c ≠ r) : circuitOfRole g r = none := by
  rw [← Option.not_isSome_iff_eq_none, circuitOfRole_isSome]
  rintro ⟨c, hc⟩
  exact h c hc

/-- The pipe held FROZEN or not, a change of which is flagged and announced to the guard. -/
def holdPipe (new : Option PipeReason) (s : State) : State :=
  let s1 := { s with frost := { s.frost with pipe := new } }
  if new.isSome = s.frost.pipe.isSome then s1 else emit .ceiling (setEvent .frozen s1)

/-- The reason the pipe probe gives. -/
def pipeNow (s : State) : Option PipeReason :=
  (pipeProbe s).bind (fun i => pipeAfter s.gs s.frost.pipe (s.frost.probes.get i))

theorem judgePipe_eq (s : State) : judgePipe s = holdPipe (pipeNow s) s := by
  unfold judgePipe holdPipe pipeNow
  cases pipeProbe s <;> rfl

theorem holdPipe_pipe (new : Option PipeReason) (s : State) : (holdPipe new s).frost.pipe = new := by
  unfold holdPipe; dsimp only; split <;> rfl

theorem judgePipe_pipe (s : State) : (judgePipe s).frost.pipe = pipeNow s := by rw [judgePipe_eq, holdPipe_pipe]

theorem holdPipe_changes {new : Option PipeReason} {s : State} (h : new.isSome ≠ s.frost.pipe.isSome) :
    (holdPipe new s).events = s.events ||| flagMask .frozen ∧ (holdPipe new s).agenda = s.agenda ++ [.ceiling] := by
  unfold holdPipe; dsimp only; rw [if_neg h]; exact ⟨rfl, rfl⟩

theorem holdPipe_stays {new : Option PipeReason} {s : State} (h : new.isSome = s.frost.pipe.isSome) :
    (holdPipe new s).events = s.events ∧ (holdPipe new s).agenda = s.agenda := by
  unfold holdPipe; dsimp only; rw [if_pos h]; exact ⟨rfl, rfl⟩

section
variable {g : GuardSet} {before : Option PipeReason} {q : Probe}

theorem pipeAfter_lost (h : q.condition ≠ .valid) : pipeAfter g before q = some .noReading := by
  unfold pipeAfter validReading
  rw [if_neg h]

theorem pipeAfter_cold {t : Int} (h : validReading q = some t) :
    pipeAfter g (some .cold) q = if g.thawThreshold ≤ t then none else some .cold := by
  unfold pipeAfter
  rw [h]

theorem pipeAfter_else {t : Int} (h : validReading q = some t) (hb : before = none ∨ before = some .noReading) :
    pipeAfter g before q = if t ≤ g.frozenThreshold then some .cold else none := by
  unfold pipeAfter
  rw [h]
  rcases hb with rfl | rfl <;> rfl

end

/-! ### The blocks that read a probe -/

theorem pipeProbe_congr {s t : State} (h : t.gs = s.gs) : pipeProbe t = pipeProbe s := by unfold pipeProbe; rw [h]

theorem probeInUse_iff {s : State} {i : Fin 8} :
    probeInUse s i = true ↔ s.gs.tankProbe = some i ∨ ∃ c : Fin 8, s.gs.role.get c ≠ .none ∧ s.gs.probeIndex.get c = i := by
  have all (c : Fin 8) : c ∈ eightNumbers := by fin_cases c <;> decide
  unfold probeInUse
  rw [Bool.or_eq_true, List.any_eq_true, decide_eq_true_iff, or_comm]
  refine or_congr_right ⟨fun ⟨c, _, h⟩ => ⟨c, by simpa using h⟩, fun ⟨c, h⟩ => ⟨c, all c, by simpa using h⟩⟩

/-- The circuits that name a probe are judged in ascending number. -/
def circuitsTake (i : Fin 8) (s : State) : State :=
  eightNumbers.foldl (fun v c => if s.gs.probeIndex.get c = i then judgeCircuit c v else v) s

theorem circuitsTake_still (i : Fin 8) (s : State) : still (circuitsTake i s) = still s := by
  unfold circuitsTake
  refine foldl_still _ (fun v c => ?_) _ s
  split
  · exact judgeCircuit_still c v
  · rfl

/-- The pipe and then the stagnation judgements follow the circuits (log entry 56). -/
theorem probeTaken_eq (i : Fin 8) (s : State) :
    probeTaken i s =
      let piped := if pipeProbe s = some i then judgePipe (circuitsTake i s) else circuitsTake i s
      { piped with agenda := piped.agenda ++ if s.gs.tankProbe = some i then [.frostJudge] else [] } := by
  have circuits : (eightNumbers.filter (fun c => s.gs.probeIndex.get c = i)).foldl (fun t c => judgeCircuit c t) s =
      circuitsTake i s := by
    unfold circuitsTake
    rw [List.foldl_filter]
    simp only [decide_eq_true_eq]
  have kept := circuitsTake_still i s
  unfold probeTaken
  rw [circuits]
  generalize circuitsTake i s = t at kept
  have gs : t.gs = s.gs := congrArg Still.gs kept
  have pipedGs : (if pipeProbe s = some i then judgePipe t else t).gs = s.gs := by
    split
    · exact (congrArg Still.gs (judgePipe_still t)).trans gs
    · exact gs
  dsimp only
  rw [pipeProbe_congr gs]
  generalize (if pipeProbe s = some i then judgePipe t else t) = u at pipedGs
  have cond : (u.gs.tankProbe = some i) = (s.gs.tankProbe = some i) := by rw [pipedGs]
  simp only [cond]
  split
  · rfl
  · simp

theorem probeTaken_told {i : Fin 8} {s : State} (h : s.gs.tankProbe = some i) : .frostJudge ∈ (probeTaken i s).agenda := by
  rw [probeTaken_eq]
  dsimp only
  rw [if_pos h]
  exact List.mem_append_right _ List.mem_cons_self

/-! ### A reading and a silence -/

section
variable {i : Fin 8} {s : State}

theorem readingGood_iff {t : Int} {e : Bool} : readingGood t e = true ↔ e = false ∧ -550 ≤ t ∧ t ≤ 1250 := by
  simp [readingGood, and_assoc]

theorem takeProbe_good {t : Int} {e : Bool} (h : readingGood t e = true) :
    takeProbe i t e s = probeTaken i (setProbe i { condition := .valid, reading := some t, silence := some 30 } s) := if_pos h

theorem takeProbe_bad {t : Int} {e : Bool} (h : readingGood t e = false) : takeProbe i t e s = probeInvalid i s :=
  if_neg (by rw [h]; exact Bool.false_ne_true)

/-- The probe's entry once it is INVALID. -/
def lost (i : Fin 8) (s : State) : State :=
  setProbe i { s.frost.probes.get i with condition := .invalid, silence := none } s

theorem probeInvalid_again (h : (s.frost.probes.get i).condition = .invalid) : probeInvalid i s = lost i s := if_pos h

theorem probeInvalid_fails (h : (s.frost.probes.get i).condition ≠ .invalid) :
    probeInvalid i s = probeTaken i (if probeInUse s i then setEvent .probeFault (lost i s) else lost i s) := if_neg h

theorem probeTaken_grows (i : Fin 8) (s : State) : Grows s (probeTaken i s) := by
  have circuits : Grows s (circuitsTake i s) := by
    unfold circuitsTake
    refine foldl_grows (fun v c => ?_) _ s
    split
    · exact judgeCircuit_grows c v
    · exact Grows.refl v
  have piped : Grows s (if pipeProbe s = some i then judgePipe (circuitsTake i s) else circuitsTake i s) := by
    split
    · refine circuits.trans ?_
      rw [judgePipe_eq]
      unfold holdPipe; dsimp only; split
      · exact grows_of_eq rfl rfl
      · exact (grows_of_eq rfl rfl : Grows (circuitsTake i s) { circuitsTake i s with
          frost := { (circuitsTake i s).frost with pipe := pipeNow (circuitsTake i s) } }).trans
            ((setEvent_grows _ _).trans (emit_grows _ _))
    · exact circuits
  rw [probeTaken_eq]
  exact piped.trans ⟨⟨_, rfl⟩, fun _ h => h⟩

end

/-- The probes stand as written while the blocks take the change. -/
theorem finish_probes (s : State) : (finish s).frost.probes = s.frost.probes := congrArg Still.probes (finish_still s)

theorem probeTaken_probes (i : Fin 8) (s : State) : (probeTaken i s).frost.probes = s.frost.probes :=
  congrArg Still.probes (probeTaken_still i s)

theorem probeInvalid_probes (i : Fin 8) (s : State) : (probeInvalid i s).frost.probes = (lost i s).frost.probes := by
  by_cases h : (s.frost.probes.get i).condition = .invalid
  · rw [probeInvalid_again h]
  · rw [probeInvalid_fails h, probeTaken_probes]
    split <;> rfl

/-- Settles O50: a change of a probe is taken by the circuits, the pipe and the judgement in turn, and the pipe by the table of R146. -/
theorem probesAndPipeJudged : Obligations.ProbesAndPipeJudged := by
  refine ⟨fun i t e s => ?_, fun s => ⟨fun c hc low => ?_, fun h => ?_⟩, fun s i hi => ?_⟩
  · intro q bad inUse taken invalid
    have takes (x : State) (hx : x.gs = s.gs) : taken x = probeTaken i x := by
      rw [probeTaken_eq, pipeProbe_congr hx, hx]
      unfold circuitsTake
      rw [hx]
      rfl
    have inUse_iff : probeInUse s i = true ↔ inUse := probeInUse_iff
    have lostEq : invalid = probeInvalid i s := by
      by_cases h : q.condition = .invalid
      · exact (if_pos h).trans (probeInvalid_again h).symm
      · refine (if_neg h).trans ((takes _ ?_).trans ?_)
        · split <;> rfl
        · rw [probeInvalid_fails h]
          exact congrArg (probeTaken i) (if_congr inUse_iff.symm rfl rfl)
    refine ⟨fun he h0 h1 => ?_, fun h => ?_, fun n hn hlt => ?_, ?_, fun h => ?_, fun h hu => ?_, fun h ht => ?_, fun h => ?_,
      inUse_iff⟩
    · intro good
      have goes : takeProbe i t e s = taken (setProbe i good s) :=
        (takeProbe_good (readingGood_iff.2 ⟨he, h0, h1⟩)).trans (takes (setProbe i good s) rfl).symm
      refine ⟨congrArg (fun u => Host.Outcome.next (finish u)) goes, ?_, fun ht => ?_⟩
      · rw [finish_probes, takes (setProbe i good s) rfl, probeTaken_probes]; rfl
      · rw [goes, takes (setProbe i good s) rfl]
        exact probeTaken_told ht
    · have spoilt : readingGood t e = false := by
        refine Bool.eq_false_of_not_eq_true fun good => ?_
        obtain ⟨he, h0, h1⟩ := readingGood_iff.1 good
        rcases h with h | h | h
        · rw [he] at h; exact absurd h Bool.false_ne_true
        · omega
        · omega
      exact congrArg (fun u => Host.Outcome.next (finish u)) ((takeProbe_bad spoilt).trans lostEq.symm)
    · have expires : silenceExpires i s = probeInvalid i s := if_pos (mayExpire_eq_true.2 ⟨n, hn, hlt⟩)
      exact congrArg (fun u => Host.Outcome.next (finish u)) (expires.trans lostEq.symm)
    · rw [finish_probes, lostEq, probeInvalid_probes]; rfl
    · have fresh : silenceExpires i s = s := by
        refine if_neg fun expires => ?_
        obtain ⟨n, hn, hlt⟩ := mayExpire_eq_true.1 expires
        exact absurd (h n hn) (Nat.not_le.2 hlt)
      exact congrArg (fun u => Host.Outcome.next (finish u)) fresh
    · rw [lostEq, probeInvalid_fails h, if_pos (inUse_iff.2 hu)]
      exact (probeTaken_grows i _).events _ (eventIsSet_setEvent _ _)
    · rw [lostEq, probeInvalid_fails h]
      refine probeTaken_told ?_
      split <;> exact ht
    · exact lostEq.trans (probeInvalid_again h)
  · unfold pipeProbe; rw [circuitOfRole_lowest hc low]; rfl
  · have unpiped : pipeProbe s = none := by unfold pipeProbe; rw [circuitOfRole_none h]; rfl
    refine ⟨unpiped, ?_⟩
    rw [judgePipe_pipe]; unfold pipeNow; rw [unpiped]; rfl
  · intro q u
    have now : u.frost.pipe = pipeAfter s.gs s.frost.pipe q := by
      rw [show u.frost.pipe = _ from judgePipe_pipe s]; unfold pipeNow; rw [hi]; rfl
    refine ⟨fun h => now.trans (pipeAfter_lost h), fun t hc hr => ⟨fun hb => ?_, fun hb => ?_, fun hb => ?_⟩, fun h => ?_, fun h => ?_⟩
    · exact now.trans (pipeAfter_else (validReading_iff.2 ⟨hc, hr⟩) (.inl hb))
    · rw [now, hb]; exact pipeAfter_cold (validReading_iff.2 ⟨hc, hr⟩)
    · exact now.trans (pipeAfter_else (validReading_iff.2 ⟨hc, hr⟩) (.inr hb))
    · rw [show u = _ from judgePipe_eq s] at h ⊢
      exact holdPipe_changes (by rwa [holdPipe_pipe] at h)
    · rw [show u = _ from judgePipe_eq s] at h ⊢
      exact holdPipe_stays (by rwa [holdPipe_pipe] at h)

end Sys2Proof.Machine
end

section
/-! PROOF. The guard outside NORMAL and NEAR, its entries, the weld and the effective ceiling (R115, R118 to R123, R128). -/

namespace Sys2Proof.Machine
open Sys2Proof.Safety

/-! ### What the walk keeps of the claims of one claimant -/

/-- A law of the arbiter that everything the walk does keeps. -/
structure WalkLaw (P : State → Prop) : Prop where
  same : ∀ {s t : State}, P s → t.arbiter = s.arbiter → P t
  moves : ∀ {s : State} {c : Claim}, P s → c ∈ s.arbiter.waiting → P (moveToGranted c s)
  marks : ∀ {s : State} (c : Claim) (vs : List Claimant), P s → P (markReclaim c vs s)
  drops : ∀ {s : State} (k : Claimant), P s → P (dropGranted k s)
  enters : ∀ {s : State} (c : Fin 8) (u : Nat) (cls : ClaimClass), P s → P (enterClaim (.circuit c) u cls s)

section
variable {P : State → Prop} (h : WalkLaw P)
include h

theorem shedCircuit_keeps {w : State → State} (hw : ∀ t, P t → P (w t)) (k : Claimant) {s : State} (hs : P s) :
    P (shedCircuit w k s) := by
  cases k with
  | pump p => exact hs
  | circuit c => exact hw _ (h.enters c _ _ (hw _ (h.drops _ (h.same hs rfl))))

theorem reportReclaim_keeps (k : Claimant) {s : State} (hs : P s) : P (reportReclaim k s) := by
  refine h.same hs ?_
  unfold reportReclaim; repeat' split
  all_goals rfl

theorem walk_keeps (n : Nat) {s : State} (hs : P s) : P (walk n s) := by
  induction n generalizing s with
  | zero => exact h.same hs rfl
  | succ n ih =>
    unfold walk; dsimp only; split
    · exact hs
    split
    · exact hs
    · rename_i head rest hlist
      split
      · have waits : head ∈ s.arbiter.waiting := by rw [hlist]; exact List.mem_cons_self
        exact ih (h.same (h.moves hs waits) (takeGrant_arbiter _ _))
      split
      · exact hs
      · refine foldl_keeps P _ (fun t k ht => shedCircuit_keeps h (fun _ => ih) k ht) _ _ ?_
        exact foldl_keeps P _ (fun t k ht => reportReclaim_keeps h k ht) _ _ (h.marks _ _ hs)

end

/-- No claim of the claimant waits. -/
def NotWaiting (k : Claimant) (s : State) : Prop := ∀ c ∈ s.arbiter.waiting, c.claimant ≠ k

theorem notWaiting_walkLaw (p : Fin 3) : WalkLaw (NotWaiting (.pump p)) where
  same hs e := by unfold NotWaiting; rw [e]; exact hs
  moves hs _ := fun d hd => hs d (List.mem_filter.1 hd).1
  marks _ _ hs := hs
  drops _ hs := hs
  enters := fun {s} c u cls hs => by
    cases h : hasClaim (.circuit c) s with
    | true => rw [enterClaim_of_holder h]; exact hs
    | false =>
      rw [enterClaim_of_none h]
      intro d hd
      rcases List.mem_cons.1 ((enterWaiting_perm _ _).mem_iff.1 hd) with rfl | hd
      · show Claimant.circuit c ≠ .pump p
        exact nofun
      · exact hs d hd

theorem unclaimed_walkLaw (p : Fin 3) : WalkLaw (Unclaimed (.pump p)) where
  same hs e := by unfold Unclaimed; rw [e]; exact hs
  moves hs hc := unclaimed_moveToGranted hs hc
  marks c vs hs := unclaimed_markReclaim hs c vs
  drops _ hs := unclaimed_dropGranted hs
  enters c u cls hs := unclaimed_enterClaim (fun e => Claimant.noConfusion e) hs u cls

/-! ### The stops of an entry -/

theorem notWaiting_dropWaiting (k : Claimant) (s : State) : NotWaiting k (dropWaiting k s) := by
  unfold NotWaiting; rw [dropWaiting_waiting]
  exact fun c hc => by simpa using (List.mem_filter.1 hc).2

theorem notWaiting_dropped {k j : Claimant} {s : State} (h : NotWaiting k s) : NotWaiting k (dropWaiting j s) := by
  unfold NotWaiting; rw [dropWaiting_waiting]
  exact fun c hc => h c (List.mem_filter.1 hc).1

theorem unclaimed_dropped {k j : Claimant} {s : State} (h : Unclaimed k s) : Unclaimed k (dropWaiting j s) := by
  refine unclaimed_of_subset h fun d hd => .inr ?_
  rcases List.mem_append.1 hd with hd | hd
  · rw [dropWaiting_waiting] at hd
    exact ⟨d, List.mem_append_left _ (List.mem_filter.1 hd).1, rfl⟩
  · rcases dropWaiting_granted j s with e | e <;> rw [e] at hd
    · exact ⟨d, List.mem_append_right _ hd, rfl⟩
    · obtain ⟨x, hx, rfl⟩ := List.mem_map.1 hd
      exact ⟨x, List.mem_append_right _ hx, rfl⟩

section
variable (p : Fin 3) (s : State)

/-- What a stop leaves of the claims: it withdraws, releases or leaves them (R85, R86). -/
theorem stopBy_id_claiming (hq : (s.pumps.get p).state = .claiming) :
    (stopBy id p false s).arbiter = (dropWaiting (.pump p) s).arbiter := by
  have same (t : State) (h : t.arbiter = s.arbiter) : (dropWaiting (.pump p) t).arbiter = (dropWaiting (.pump p) s).arbiter := by
    unfold dropWaiting; rw [h]; dsimp only; repeat' split
    all_goals rfl
  unfold stopBy; simp only [hq]
  exact same _ rfl

theorem stopBy_id_driven (hq : (s.pumps.get p).state = .starting ∨ (s.pumps.get p).state = .running) :
    (stopBy id p false s).arbiter = (if s.inputs.feedback.get p then s.arbiter else (dropGranted (.pump p) s).arbiter) := by
  have entered (t : State) (ha : t.arbiter = s.arbiter) (hi : t.inputs = s.inputs) :
      (enterStoppingBy id p .none t).arbiter = (if s.inputs.feedback.get p then s.arbiter else (dropGranted (.pump p) s).arbiter) := by
    unfold enterStoppingBy; dsimp only; rw [hi]; split
    · exact ha
    · rw [completeStopBy_eq]
      simp only [id, dropGranted, stopEnds_arbiter, emit_arbiter, setPump_arbiter, ha]
  unfold stopBy
  rcases hq with hq | hq <;> simp only [hq] <;> exact entered _ rfl rfl

theorem stopBy_id_rest (hq : pumpsFluid (s.pumps.get p).state = false) : (stopBy id p false s).arbiter = s.arbiter := by
  unfold stopBy
  cases h : (s.pumps.get p).state <;> simp_all [pumpsFluid]

end

/-- A law kept by a withdrawal is kept by the stop of any channel. -/
theorem stopBy_id_keeps {P : State → Prop} (h : WalkLaw P) (withdraws : ∀ {k t}, P t → P (dropWaiting k t)) (p : Fin 3) {s : State}
    (hs : P s) : P (stopBy id p false s) := by
  by_cases claiming : (s.pumps.get p).state = .claiming
  · exact h.same (withdraws hs) (stopBy_id_claiming p s claiming)
  by_cases driven : (s.pumps.get p).state = .starting ∨ (s.pumps.get p).state = .running
  · have e := stopBy_id_driven p s driven
    split at e
    · exact h.same hs e
    · exact h.same (h.drops _ hs) e
  · exact h.same hs (stopBy_id_rest p s (by simp only [not_or] at driven; simp [pumpsFluid, claiming, driven]))

theorem stopBy_id_inputs (p : Fin 3) (s : State) : (stopBy id p false s).inputs = s.inputs :=
  congrArg Still.inputs (stopBy_still id (fun _ => rfl) p false s)

/-- The stops of the channels before one leave it as it was, and any law of the claims that stops keep. -/
theorem stops_before {P : State → Prop} (keeps : ∀ k {t}, P t → P (stopBy id k false t)) {p : Fin 3} {pre : List (Fin 3)}
    (other : ∀ k ∈ pre, k < p) {s : State} (hs : P s) :
    let t := pre.foldl (fun u k => stopBy id k false u) s
    P t ∧ t.pumps.get p = s.pumps.get p ∧ t.inputs = s.inputs := by
  induction pre generalizing s with
  | nil => exact ⟨hs, rfl, rfl⟩
  | cons k pre ih =>
    obtain ⟨kept, pump, inputs⟩ := ih (fun j hj => other j (List.mem_cons_of_mem _ hj)) (keeps k hs)
    exact ⟨kept, pump.trans (stopBy_id_other k p false s (other k List.mem_cons_self).ne'), inputs.trans (stopBy_id_inputs k s)⟩

/-- A law that one channel's own stop brings about holds after the stops of all. -/
theorem stopAllPumps_brings {P Q : State → Prop} (hP : WalkLaw P) (withdraws : ∀ {k t}, P t → P (dropWaiting k t))
    (keeps : ∀ k {t}, Q t → Q (stopBy id k false t)) {p : Fin 3} {s : State} (hs : Q s)
    (own : ∀ t : State, Q t → t.pumps.get p = s.pumps.get p → t.inputs = s.inputs → P (stopBy id p false t)) :
    P (stopAllPumps s) := by
  obtain ⟨pre, post, split, other⟩ := pumpNumbers_split p
  have stopped : P (pumpNumbers.foldl (fun u k => stopBy id k false u) s) := by
    rw [split, List.foldl_append, List.foldl_cons]
    obtain ⟨kept, pump, inputs⟩ := stops_before keeps other hs
    exact foldl_keeps P _ (fun t k ht => stopBy_id_keeps hP withdraws k ht) _ _ (own _ kept pump inputs)
  unfold stopAllPumps; dsimp only; split
  · exact stopped
  · exact walk_keeps hP 64 stopped

/-- A channel that has taken the stop of an entry (R85, R122). -/
def StoppedIn (s : State) (p : Fin 3) (t : State) : Prop :=
  t.pumps.get p = stoppedNow s p ∧ pumpsFluid (t.pumps.get p).state = false ∧
    ((s.pumps.get p).state = .claiming → ∀ c ∈ t.arbiter.waiting, c.claimant ≠ .pump p) ∧
    (((s.pumps.get p).state = .starting ∨ (s.pumps.get p).state = .running) → s.inputs.feedback.get p = false →
      (∀ c ∈ s.arbiter.waiting, c.claimant ≠ .pump p) → ∀ c ∈ t.arbiter.granted, c.claimant ≠ .pump p)

theorem stoppedNow_fluid (s : State) (p : Fin 3) : pumpsFluid (stoppedNow s p).state = false := by
  rw [← stopBy_id_self]; exact stopBy_id_fluid p false s

theorem stopAllPumps_stopped (s : State) (p : Fin 3) : StoppedIn s p (stopAllPumps s) := by
  have pump := stopAllPumps_pump s p
  refine ⟨pump, by rw [pump]; exact stoppedNow_fluid s p, fun hq => ?_, fun hq hf hw => ?_⟩
  · refine stopAllPumps_brings (p := p) (notWaiting_walkLaw p) notWaiting_dropped (Q := fun _ => True) (fun _ _ _ => trivial) trivial
      fun t _ same _ => ?_
    exact (notWaiting_walkLaw p).same (notWaiting_dropWaiting _ t) (stopBy_id_claiming p t (by rw [same]; exact hq))
  · have released : Unclaimed (.pump p) (stopAllPumps s) := by
      refine stopAllPumps_brings (p := p) (unclaimed_walkLaw p) unclaimed_dropped
        (fun k _ ht => stopBy_id_keeps (notWaiting_walkLaw p) notWaiting_dropped k ht) (Q := NotWaiting (.pump p)) hw
        fun t notWaiting same inputs => ?_
      have e := stopBy_id_driven p t (by rw [same]; exact hq)
      rw [inputs, hf] at e
      refine (unclaimed_walkLaw p).same (fun d hd => ?_) e
      rcases List.mem_append.1 hd with hd | hd
      · exact notWaiting d hd
      · simpa using (List.mem_filter.1 hd).2
    exact fun c hc => released c (List.mem_append_right _ hc)

theorem stoppedIn_congr {s s' t t' : State} {p : Fin 3} (hp : s'.pumps = s.pumps) (hi : s'.inputs = s.inputs) (hg : s'.gs = s.gs)
    (ha : s'.arbiter = s.arbiter) (tp : t'.pumps = t.pumps) (ta : t'.arbiter = t.arbiter) (h : StoppedIn s' p t) : StoppedIn s p t' := by
  unfold StoppedIn stoppedNow at *
  rw [hp, hi, hg, ha] at h
  rw [tp, ta]
  exact h

end Sys2Proof.Machine
end

section
/-! PROOF. The guard judged in BLIND, TRIPPED, LATCHED and CONTAINMENT; a weld and the effective ceiling. -/

namespace Sys2Proof.Machine
open Sys2Proof.Safety

/-! ### The state a judgement gives -/

section
variable {s : State}

/-- The level has fallen far enough to re-arm (R119). -/
theorem levelFallen_iff :
    levelFallen s = true ↔ ∃ x, filtered s = some x ∧ x ≤ s.gs.rearm ∧ x < s.guard.ceiling - s.gs.approachBand := by
  unfold levelFallen
  cases filtered s <;> simp

theorem reserveHolds_iff :
    reserveHolds s = true ↔
      (s.guard.state = .normal ∨ s.guard.state = .near) ∧ ∃ x, filtered s = some x ∧ x < s.gs.reserveFloor := by
  unfold reserveHolds
  cases filtered s <;> simp

theorem judgeFromNormal_above {x : Nat} (hf : s.inputs.float = false) (hl : filtered s = some x) (h : s.guard.ceiling ≤ x) :
    judgeFromNormal s = .tripped := by
  unfold judgeFromNormal
  rw [hf, hl, tripJudgement_inactive_above h]

theorem judgeFromNormal_below {x : Nat} (hf : s.inputs.float = false) (hl : filtered s = some x) (h : x < s.guard.ceiling) :
    judgeFromNormal s = if s.guard.ceiling - s.gs.approachBand ≤ x then .near else .normal := by
  unfold judgeFromNormal
  rw [hf, hl, tripJudgement_inactive_below h]

theorem judgedState_blind (h : s.guard.state = .blind) :
    judgedState s =
      if s.inputs.float then .latched else if (filtered s).isSome then judgeFromNormal s else .blind := by
  unfold judgedState; rw [h]

theorem judgedState_tripped (h : s.guard.state = .tripped) : judgedState s = judgeFromTripped s := by
  unfold judgedState; rw [h]

theorem judgedState_stands (h : s.guard.state = .latched ∨ s.guard.state = .containment) : judgedState s = s.guard.state := by
  unfold judgedState; rcases h with h | h <;> rw [h]

/-- TRIPPED is left for LATCHED when the float and the level part, for NORMAL when the level has fallen (R119). -/
theorem judgeFromTripped_parted (hf : s.inputs.float = true)
    (h : filtered s = none ∨ ∃ x, filtered s = some x ∧ x < s.guard.ceiling - s.gs.disagreement) : judgeFromTripped s = .latched := by
  unfold judgeFromTripped
  rcases h with hl | ⟨x, hl, hx⟩
  · simp only [hf, hl, if_true]
  · simp only [hf, hl, if_pos hx, if_true]

theorem judgeFromTripped_fallen (hf : s.inputs.float = false) (h : levelFallen s = true) : judgeFromTripped s = .normal := by
  unfold judgeFromTripped
  simp only [hf, h, if_true, if_neg Bool.false_ne_true]

theorem judgeFromTripped_else
    (together : ¬ (s.inputs.float = true ∧ (filtered s = none ∨ ∃ x, filtered s = some x ∧ x < s.guard.ceiling - s.gs.disagreement)))
    (high : ¬ (s.inputs.float = false ∧ levelFallen s = true)) : judgeFromTripped s = .tripped := by
  unfold judgeFromTripped
  cases hf : s.inputs.float with
  | true =>
    cases hl : filtered s with
    | none => exact absurd ⟨hf, .inl hl⟩ together
    | some x => exact if_neg fun hx => together ⟨hf, .inr ⟨x, hl, hx⟩⟩
  | false =>
    have standing : ¬ levelFallen s = true := fun h => high ⟨hf, h⟩
    simp only [if_neg standing, if_neg Bool.false_ne_true]

end

/-! ### An entry -/

/-- The guard in a state it enters, with the event of the entry set. -/
def flagged (g : GuardState) (s : State) : State :=
  (entryEvent g).elim { s with guard := { s.guard with state := g } } fun e => setEvent e { s with guard := { s.guard with state := g } }

/-- The entry before it is announced: the pumps stopped and the valve commanded. -/
def acted (g : GuardState) (s : State) : State :=
  let t := if stopsPumps g then stopAllPumps (flagged g s) else flagged g s
  if g = .containment then closeCommand t else t

theorem enterGuard_same {g : GuardState} {s : State} (h : g = s.guard.state) : enterGuard g s = s := if_pos h

theorem enterGuard_enters {g : GuardState} {s : State} (h : g ≠ s.guard.state) :
    enterGuard g s = emitFree [.evalFill, .frostJudge] (acted g s) := by
  unfold enterGuard acted flagged
  rw [if_neg h]
  cases g <;> rfl

section
variable (g : GuardState) (s : State)

theorem flagged_pumps : (flagged g s).pumps = s.pumps := by cases g <;> rfl
theorem flagged_inputs : (flagged g s).inputs = s.inputs := by cases g <;> rfl
theorem flagged_gs : (flagged g s).gs = s.gs := by cases g <;> rfl
theorem flagged_arbiter : (flagged g s).arbiter = s.arbiter := by cases g <;> rfl
theorem flagged_valve : (flagged g s).valve = s.valve := by cases g <;> rfl

theorem flagged_event {e : EventFlag} (h : entryEvent g = some e) : eventIsSet e (flagged g s) = true := by
  unfold flagged; rw [h]
  exact eventIsSet_setEvent e _

theorem flagged_grows : Grows s (flagged g s) := by
  unfold flagged
  have held : Grows s { s with guard := { s.guard with state := g } } := grows_of_eq rfl rfl
  cases entryEvent g with
  | none => exact held
  | some e => exact held.trans (setEvent_grows e _)

end

theorem changeValve_grows (v : Valve) (s : State) : Grows s (changeValve v s) :=
  (grows_of_eq rfl rfl : Grows s { s with valve := v }).trans (emit_grows .evalFill _)

theorem judgeLimits_grows (s : State) : Grows s (judgeLimits s) := by
  unfold judgeLimits; split
  · exact (changeValve_grows _ s).trans (setEvent_grows .valveFault _)
  · exact Grows.refl s

theorem closeCommand_grows (s : State) : Grows s (closeCommand s) := by
  have drives : Grows s (driveClose s) := (changeValve_grows _ s).trans (judgeLimits_grows _)
  unfold closeCommand; split
  all_goals first
    | exact drives
    | exact Grows.refl s

theorem closeCommand_valve_congr {s t : State} (hv : t.valve = s.valve) (hi : t.inputs = s.inputs) (hg : t.gs = s.gs) :
    (closeCommand t).valve = (closeCommand s).valve := by
  have limits {u v : State} (hv : u.valve = v.valve) (hi : u.inputs = v.inputs) : (judgeLimits u).valve = (judgeLimits v).valve := by
    unfold judgeLimits; rw [hv, hi]; split
    · exact congrArg (fun w : Valve => { w with state := .fault, travel := none, faultDirection := some v.valve.lastTravel }) hv
    · exact hv
  have drives : (driveClose t).valve = (driveClose s).valve := by
    refine limits ?_ hi
    show closing t = closing s
    unfold closing; rw [hg]
  unfold closeCommand; rw [hv]; split
  all_goals first
    | exact drives
    | exact hv

section
variable (g : GuardState) (s : State)

theorem acted_grows : Grows (flagged g s) (acted g s) := by
  have stopped : Grows (flagged g s) (if stopsPumps g then stopAllPumps (flagged g s) else flagged g s) := by
    split
    · exact stopAllPumps_grows _
    · exact Grows.refl _
  unfold acted; dsimp only; split
  · exact stopped.trans (closeCommand_grows _)
  · exact stopped

/-- The event of an entry is set. -/
theorem enterGuard_event {e : EventFlag} (h : g ≠ s.guard.state) (he : entryEvent g = some e) :
    eventIsSet e (enterGuard g s) = true := by
  rw [enterGuard_enters h]
  exact ((acted_grows g s).trans (emitFree_grows _ _)).events e (flagged_event g s he)

theorem enterGuard_grows : Grows s (enterGuard g s) := by
  by_cases h : g = s.guard.state
  · rw [enterGuard_same h]; exact Grows.refl s
  · rw [enterGuard_enters h]
    exact ((flagged_grows g s).trans (acted_grows g s)).trans (emitFree_grows _ _)

/-- An entry asks for an evaluation and a judgement of the heaters. -/
theorem enterGuard_asks (h : g ≠ s.guard.state) : .evalFill ∈ (enterGuard g s).agenda ∧ .frostJudge ∈ (enterGuard g s).agenda := by
  rw [enterGuard_enters h]
  obtain ⟨xs, e, perm⟩ := emitFree_agenda_perm [.evalFill, .frostJudge] (acted g s)
  rw [e]
  exact ⟨List.mem_append_right _ (perm.mem_iff.2 (by simp)), List.mem_append_right _ (perm.mem_iff.2 (by simp))⟩

theorem enterGuard_stopped (h : g ≠ s.guard.state) (hstop : stopsPumps g = true) (p : Fin 3) : StoppedIn s p (enterGuard g s) := by
  have stopped := stopAllPumps_stopped (flagged g s) p
  have pumps : (acted g s).pumps = (stopAllPumps (flagged g s)).pumps := by
    unfold acted; rw [if_pos hstop]; dsimp only; split
    · exact closeCommand_pumps _
    · rfl
  have arbiter : (acted g s).arbiter = (stopAllPumps (flagged g s)).arbiter := by
    unfold acted; rw [if_pos hstop]; dsimp only; split
    · exact congrArg ClaimParts.arbiter (closeCommand_claimParts _)
    · rfl
  rw [enterGuard_enters h]
  exact stoppedIn_congr (flagged_pumps g s) (flagged_inputs g s) (flagged_gs g s) (flagged_arbiter g s) pumps arbiter stopped

theorem enterGuard_keeps_pumps (hstop : stopsPumps g = false) : (enterGuard g s).pumps = s.pumps := by
  by_cases h : g = s.guard.state
  · rw [enterGuard_same h]
  · have open' : g ≠ .containment := fun e => absurd hstop (by rw [e]; decide)
    rw [enterGuard_enters h]
    show (acted g s).pumps = s.pumps
    unfold acted
    simp only [if_neg open', hstop, if_neg Bool.false_ne_true]
    exact flagged_pumps g s

theorem enterGuard_closes (h : GuardState.containment ≠ s.guard.state) :
    (enterGuard .containment s).valve = (closeCommand s).valve := by
  have calmed := stopAllPumps_calm (flagged .containment s)
  have still := calm_still calmed
  rw [enterGuard_enters h]
  refine closeCommand_valve_congr ?_ ?_ ?_
  · exact (calm_valve calmed).trans (flagged_valve _ s)
  · exact (congrArg Still.inputs still).trans (flagged_inputs _ s)
  · exact (congrArg Still.gs still).trans (flagged_gs _ s)

theorem enterGuard_level : (enterGuard g s).level = s.level := by
  have close (t : State) : (closeCommand t).level = t.level := by
    unfold closeCommand driveClose judgeLimits
    repeat' split
    all_goals rfl
  have flag : (flagged g s).level = s.level := by cases g <;> rfl
  have stopped : (if stopsPumps g then stopAllPumps (flagged g s) else flagged g s).level = s.level := by
    split
    · exact (congrArg Calm.level (stopAllPumps_calm _)).trans flag
    · exact flag
  by_cases h : g = s.guard.state
  · rw [enterGuard_same h]
  · rw [enterGuard_enters h]
    show (acted g s).level = s.level
    unfold acted; dsimp only; split
    · exact (close _).trans stopped
    · exact stopped

end

/-! ### The reserve condition after a judgement -/

section
variable (s : State)

theorem judgeReserve_eq :
    judgeReserve s =
      { s with guard := { s.guard with reserve := reserveHolds s },
               agenda := s.agenda ++ (if reserveHolds s then [.reserveRequest] else []) } := by
  unfold judgeReserve
  cases reserveHolds s with
  | true => rfl
  | false =>
    show ({ s with guard := { s.guard with reserve := false } } : State) = _
    rw [if_neg Bool.false_ne_true, List.append_nil]

theorem judgeReserve_grows : Grows s (judgeReserve s) := by
  rw [judgeReserve_eq]
  exact ⟨⟨_, rfl⟩, fun f hf => by rw [eventIsSet_congr (s := s) (by rfl)]; exact hf⟩

theorem judgeReserve_pumps : (judgeReserve s).pumps = s.pumps := by rw [judgeReserve_eq]
theorem judgeReserve_arbiter : (judgeReserve s).arbiter = s.arbiter := by rw [judgeReserve_eq]
theorem judgeReserve_valve : (judgeReserve s).valve = s.valve := by rw [judgeReserve_eq]
theorem judgeReserve_reserve : (judgeReserve s).guard.reserve = reserveHolds s := by rw [judgeReserve_eq]
theorem judgeReserve_held : (judgeReserve s).guard.held = s.guard.held := by rw [judgeReserve_eq]
theorem judgeReserve_events : (judgeReserve s).events = s.events := by rw [judgeReserve_eq]

theorem judgeReserve_asks (h : (judgeReserve s).guard.reserve = true) : .reserveRequest ∈ (judgeReserve s).agenda := by
  rw [judgeReserve_reserve] at h
  rw [judgeReserve_eq, h]
  exact List.mem_append_right _ List.mem_cons_self

end

/-- The state before the entry of a judgement, REARM set on a re-arm (R119). -/
def rearmed (s : State) : State :=
  if s.guard.state = .tripped ∧ judgedState s = .normal then setEvent .rearm s else s

theorem judgeGuard_eq (s : State) : judgeGuard s = judgeReserve (enterGuard (judgedState s) (rearmed s)) := rfl

theorem rearmed_cases (s : State) : rearmed s = s ∨ rearmed s = setEvent .rearm s := by
  unfold rearmed; split
  · exact .inr rfl
  · exact .inl rfl

theorem rearmed_guard (s : State) : (rearmed s).guard = s.guard := by rcases rearmed_cases s with e | e <;> rw [e]; rfl
theorem rearmed_pumps (s : State) : (rearmed s).pumps = s.pumps := by rcases rearmed_cases s with e | e <;> rw [e]; rfl
theorem rearmed_level (s : State) : (rearmed s).level = s.level := by rcases rearmed_cases s with e | e <;> rw [e]; rfl
theorem rearmed_inputs (s : State) : (rearmed s).inputs = s.inputs := by rcases rearmed_cases s with e | e <;> rw [e]; rfl
theorem rearmed_gs (s : State) : (rearmed s).gs = s.gs := by rcases rearmed_cases s with e | e <;> rw [e]; rfl
theorem rearmed_arbiter (s : State) : (rearmed s).arbiter = s.arbiter := by rcases rearmed_cases s with e | e <;> rw [e]; rfl

/-- The guard states whose entry stops the pumps (R122). -/
theorem stopsPumps_iff {g : GuardState} :
    stopsPumps g = true ↔ g = .blind ∨ g = .tripped ∨ g = .latched ∨ g = .containment := by cases g <;> simp [stopsPumps]

theorem filtered_congr {s t : State} (h : t.level = s.level) : filtered t = filtered s := by
  unfold filtered; rw [h]

section
variable {s : State}

theorem judgeGuard_same (h : judgedState s = s.guard.state) : judgeGuard s = judgeReserve s := by
  have stays : rearmed s = s := if_neg fun c => by rw [c.2, c.1] at h; exact absurd h nofun
  rw [judgeGuard_eq, stays, enterGuard_same h]

theorem judgeGuard_reserve :
    (judgeGuard s).guard.reserve = true ↔
      (judgedState s = .normal ∨ judgedState s = .near) ∧ ∃ x, filtered s = some x ∧ x < s.gs.reserveFloor := by
  rw [judgeGuard_eq, judgeReserve_reserve, reserveHolds_iff, enterGuard_guard,
    filtered_congr ((enterGuard_level _ _).trans (rearmed_level s)),
    show (enterGuard (judgedState s) (rearmed s)).gs = s.gs from (congrArg Still.gs (enterGuard_still _ _)).trans (rearmed_gs s)]

theorem judgeGuard_rearms (ht : s.guard.state = .tripped) (hn : judgedState s = .normal) : eventIsSet .rearm (judgeGuard s) = true := by
  have set : eventIsSet .rearm (rearmed s) = true := by
    unfold rearmed; rw [if_pos ⟨ht, hn⟩]; exact eventIsSet_setEvent _ _
  exact ((enterGuard_grows _ _).trans (judgeReserve_grows _)).events _ set

end

theorem takeWeld_eq (p : Fin 3) (s : State) :
    takeWeld p s = judgeReserve (enterGuard .containment { s with guard := { s.guard with held := s.guard.held.set p true } }) := rfl

/-- The guard with the channel's pump held. -/
def holding (p : Fin 3) (s : State) : State := { s with guard := { s.guard with held := s.guard.held.set p true } }

theorem reserveHolds_closed {s : State} (h : s.guard.state = .containment) : reserveHolds s = false := by
  unfold reserveHolds; rw [h]; rfl

/-- The effective ceiling as the readings of the pipe stand (R115). -/
theorem refreshCeiling_guard (s : State) :
    (refreshCeiling s).guard =
      { s.guard with ceiling := ceilingOf s.gs s.frost.pipe.isSome, frozenPipe := s.frost.pipe.isSome } := by
  unfold refreshCeiling; dsimp only; split <;> rfl

theorem refreshCeiling_same {s : State} (h : ceilingOf s.gs s.frost.pipe.isSome = s.guard.ceiling) :
    (refreshCeiling s).agenda = s.agenda := by
  unfold refreshCeiling; dsimp only; rw [if_pos h]

theorem refreshCeiling_changed {s : State} (h : ceilingOf s.gs s.frost.pipe.isSome ≠ s.guard.ceiling) :
    ∃ xs : List Note, xs.Perm [.evalFill, .frostJudge] ∧ (refreshCeiling s).agenda = s.agenda ++ [.guardJudge] ++ xs := by
  unfold refreshCeiling; dsimp only; rw [if_neg h]
  obtain ⟨xs, e, perm⟩ := emitFree_agenda_perm [.evalFill, .frostJudge]
    (emit .guardJudge { s with guard := { s.guard with ceiling := ceilingOf s.gs s.frost.pipe.isSome, frozenPipe := s.frost.pipe.isSome } })
  exact ⟨xs, perm, e⟩

section
variable (p : Fin 3) {s : State}

theorem takeWeld_guard : (takeWeld p s).guard.state = .containment ∧ (takeWeld p s).guard.held = s.guard.held.set p true ∧
    (takeWeld p s).guard.reserve = false := by
  have state : (enterGuard .containment (holding p s)).guard.state = .containment := by rw [enterGuard_guard]
  refine ⟨?_, ?_, ?_⟩
  · rw [takeWeld_eq, judgeReserve_state]; exact state
  · rw [takeWeld_eq, judgeReserve_held, enterGuard_guard]
  · rw [takeWeld_eq, judgeReserve_reserve]; exact reserveHolds_closed state

theorem takeWeld_again (h : s.guard.state = .containment) :
    (takeWeld p s).valve = s.valve ∧ (takeWeld p s).events = s.events ∧ (takeWeld p s).pumps = s.pumps := by
  rw [takeWeld_eq, enterGuard_same (s := { s with guard := { s.guard with held := s.guard.held.set p true } }) h.symm]
  exact ⟨judgeReserve_valve _, judgeReserve_events _, judgeReserve_pumps _⟩

theorem takeWeld_contains (h : s.guard.state ≠ .containment) :
    (takeWeld p s).valve = (closeCommand s).valve ∧ eventIsSet .contain (takeWeld p s) = true ∧ ∀ q, StoppedIn s q (takeWeld p s) := by
  have enters : GuardState.containment ≠ (holding p s).guard.state := fun e => h e.symm
  refine ⟨?_, ?_, fun q => ?_⟩
  · rw [takeWeld_eq, judgeReserve_valve]
    exact (enterGuard_closes (holding p s) enters).trans (closeCommand_valve_congr rfl rfl rfl)
  · exact (judgeReserve_grows _).events _ (enterGuard_event _ _ enters rfl)
  · exact stoppedIn_congr (s := s) rfl rfl rfl rfl (judgeReserve_pumps _) (judgeReserve_arbiter _)
      (enterGuard_stopped .containment (holding p s) enters rfl q)

end

/-- What an entry by a judgement brings. -/
theorem judgeGuard_enters {s : State} (h : judgedState s ≠ s.guard.state) :
    (∀ e, entryEvent (judgedState s) = some e → eventIsSet e (judgeGuard s) = true) ∧
      (stopsPumps (judgedState s) = true → ∀ p, StoppedIn s p (judgeGuard s)) ∧
      (stopsPumps (judgedState s) = false → (judgeGuard s).pumps = s.pumps) ∧
      .evalFill ∈ (judgeGuard s).agenda ∧ .frostJudge ∈ (judgeGuard s).agenda := by
  have enters : judgedState s ≠ (rearmed s).guard.state := by rw [rearmed_guard]; exact h
  obtain ⟨evals, frost⟩ := enterGuard_asks _ _ enters
  refine ⟨fun e he => ?_, fun hstop p => ?_, fun hstop => ?_, ?_, ?_⟩
  · exact (judgeReserve_grows _).events e (enterGuard_event _ _ enters he)
  · exact stoppedIn_congr (rearmed_pumps s) (rearmed_inputs s) (rearmed_gs s) (rearmed_arbiter s) (judgeReserve_pumps _)
      (judgeReserve_arbiter _) (enterGuard_stopped _ _ enters hstop p)
  · exact (judgeReserve_pumps _).trans ((enterGuard_keeps_pumps _ _ hstop).trans (rearmed_pumps s))
  · exact (judgeReserve_grows _).mem evals
  · exact (judgeReserve_grows _).mem frost

/-- Settles O49: the states of the guard outside NORMAL and NEAR, with its entries, its welds and its ceiling. -/
theorem guardElsewhere : Obligations.GuardElsewhere := by
  intro s ec l float v new stops stoppedWith
  have ev : v = judgeGuard s := rfl
  have en : new = judgedState s := judgeGuard_state s
  clear_value v new
  subst ev en
  refine ⟨fun hb => ?_, fun ht => ?_, judgedState_stands, fun same => ?_, fun changed => ?_, judgeGuard_reserve,
    fun h => ?_, fun p => ?_, ?_⟩
  · have eb := judgedState_blind hb
    refine ⟨fun hf => ?_, fun hf hl => ?_, fun x hf hl => ⟨fun hx => ?_, fun hx near => ?_, fun hx clear => ?_⟩⟩
    · rw [eb, if_pos hf]
    · rw [eb, if_neg (ne_true_of_eq_false hf), if_neg (by rw [show filtered s = none from hl]; exact Bool.false_ne_true)]
    all_goals rw [eb, if_neg (ne_true_of_eq_false hf), if_pos (by rw [show filtered s = some x from hl]; rfl)]
    · exact judgeFromNormal_above hf hl hx
    · exact (judgeFromNormal_below hf hl hx).trans (if_pos near)
    · exact (judgeFromNormal_below hf hl hx).trans (if_neg (Nat.not_le.2 clear))
  · intro fallen parted
    rw [judgedState_tripped ht]
    refine ⟨fun h => judgeFromTripped_parted h.1 h.2, fun h => ?_, fun together high => ?_⟩
    · have normal := judgeFromTripped_fallen h.1 (levelFallen_iff.2 h.2)
      exact ⟨normal, judgeGuard_rearms ht ((judgedState_tripped ht).trans normal)⟩
    · exact judgeFromTripped_else together fun h => high ⟨h.1, levelFallen_iff.1 h.2⟩
  · rw [judgeGuard_same same]; exact judgeReserve_eq s
  · obtain ⟨event, stopped, keeps, asks⟩ := judgeGuard_enters changed
    refine ⟨fun e => event _ (by rw [e]; rfl), fun e => event _ (by rw [e]; rfl), fun e => event _ (by rw [e]; rfl),
      fun h => stopped (stopsPumps_iff.2 h), fun h => keeps ?_, asks⟩
    exact Bool.eq_false_iff.2 fun c => h (stopsPumps_iff.1 c)
  · rw [judgeGuard_eq] at h ⊢; exact judgeReserve_asks _ h
  · obtain ⟨state, held, reserve⟩ := takeWeld_guard p (s := s)
    exact ⟨state, held, reserve, takeWeld_again p, takeWeld_contains p⟩
  · exact ⟨refreshCeiling_guard s, refreshCeiling_same, refreshCeiling_changed⟩

end Sys2Proof.Machine
end

section
/-! PROOF. ACKNOWLEDGE (R116, R124 to R126, R128). -/

namespace Sys2Proof.Machine
open Sys2Proof.Safety

/-- A guard state as a response carries it (R124). -/
def carrying (c : ResultCode) (g : GuardState) : Response :=
  { code := c, body := [BitVec.ofNat 8 (guardStateCode g)], masked := [BitVec.ofNat 8 (guardStateCode g)] }

theorem exec_acknowledge (port : Port) (x : Sample) (s : State) :
    exec (.acknowledge port x) s = .next (finish (takeRequest port .acknowledge (takeSample x s))) := by
  exact conclude_eq (takeRequest port .acknowledge) (takeSample x s)

section
variable {s t : State}

theorem carryOut_acknowledged {b : Bool} (h : acknowledgeGuard s = (t, b)) :
    carryOut .cabinet .acknowledge s = (t, carrying (if b then .done else .conditions) t.guard.state) := by
  rw [carryOut_acknowledge]
  show acknowledgeNow s = _
  unfold acknowledgeNow
  rw [h]
  rfl

theorem acknowledge_refused (x : Sample) (h : acknowledgeGuard (takeSample x s) = (takeSample x s, false)) :
    exec (.acknowledge .cabinet x) s =
      .next (finish (noteFormed .cabinet .acknowledge (carrying .conditions s.guard.state)
        { takeSample x s with lastResult := some (carrying .conditions s.guard.state) })) := by
  rw [exec_acknowledge, takeRequest_refused .cabinet .acknowledge _ _ (carryOut_acknowledged h) rfl]
  rfl

theorem reserveHolds_congr {s t : State} (hl : t.level = s.level) (hg : t.gs = s.gs) (hs : t.guard.state = s.guard.state) :
    reserveHolds t = reserveHolds s := by
  unfold reserveHolds; rw [filtered_congr hl, hg, hs]

/-- An accepted one has judged the reserve condition and carries the guard state. -/
theorem acknowledge_accepted (h : acknowledgeGuard s = (judgeReserve t, true)) {g : GuardState} (hg : t.guard.state = g) :
    let u := takeRequest .cabinet .acknowledge s
    u.guard.state = g ∧ u.guard.reserve = reserveHolds u ∧ (u.guard.reserve = true → .reserveRequest ∈ u.agenda) ∧
      (finish u).lastResult = some (carrying .done g) ∧ u.valve = t.valve := by
  intro u
  have owner := carryOut_acknowledged h
  have state : (judgeReserve t).guard.state = g := (judgeReserve_state t).trans hg
  have guard : u.guard = (judgeReserve t).guard := by
    rw [show u.guard = _ from congrArg State.guard (takeRequest_frame .cabinet .acknowledge s), owner]
  have agenda : u.agenda = (judgeReserve t).agenda := by rw [takeRequest_agenda, owner]
  have level : u.level = t.level := by
    rw [show u.level = _ from congrArg State.level (takeRequest_frame .cabinet .acknowledge s), owner, judgeReserve_eq]
  have gs : u.gs = t.gs := by
    rw [show u.gs = _ from congrArg State.gs (takeRequest_frame .cabinet .acknowledge s), owner, judgeReserve_eq]
  have valve : u.valve = t.valve := by
    rw [show u.valve = _ from congrArg State.valve (takeRequest_frame .cabinet .acknowledge s), owner, judgeReserve_eq]
  have result : u.lastResult = some (carrying .done g) := by
    rw [takeRequest_lastResult, owner]
    exact congrArg (fun g => some (carrying .done g)) state
  refine ⟨(congrArg Guard.state guard).trans state, ?_, fun hr => ?_, (finish_lastResult u).trans result, valve⟩
  · rw [guard, judgeReserve_reserve]
    exact (reserveHolds_congr level gs (by rw [guard, judgeReserve_state])).symm
  · rw [guard] at hr
    rw [agenda]
    exact judgeReserve_asks t hr

/-! ### The guard's answer -/

theorem acknowledgeGuard_keyless (h : s.inputs.key = false) : acknowledgeGuard s = (s, false) := if_pos h

theorem acknowledgeGuard_latched (key : s.inputs.key = true) (h : s.guard.state = .latched) :
    acknowledgeGuard s =
      if s.inputs.float = false ∧ levelFallen s then (judgeReserve (enterGuard .normal s), true) else (s, false) := by
  unfold acknowledgeGuard
  rw [if_neg (by rw [key]; exact Bool.noConfusion), h]

theorem acknowledgeGuard_containment (key : s.inputs.key = true) (h : s.guard.state = .containment) :
    acknowledgeGuard s =
      if s.inputs.feedback.toList.any id then (s, false)
      else (judgeReserve (enterGuard (judgeFromNormal s) (openCommand s)), true) := by
  unfold acknowledgeGuard
  rw [if_neg (by rw [key]; exact Bool.noConfusion), h]

theorem acknowledgeGuard_else (key : s.inputs.key = true) (hl : s.guard.state ≠ .latched) (hc : s.guard.state ≠ .containment) :
    acknowledgeGuard s = if s.valve.state = .fault then (judgeReserve (openCommand s), true) else (s, false) := by
  unfold acknowledgeGuard
  rw [if_neg (by rw [key]; exact Bool.noConfusion)]
  cases h : s.guard.state with
  | latched => exact absurd h hl
  | containment => exact absurd h hc
  | _ => rfl

theorem feedbackAny_iff (v : Trio Bool) : v.toList.any id = true ↔ ∃ p : Fin 3, v.get p = true := by
  obtain ⟨a, b, c⟩ := v
  cases a <;> cases b <;> cases c <;> decide

theorem tripJudgement_opens {g : GuardSet} {ec : Nat} {float : Bool} {l : Option Nat} {x : GuardState}
    (h : tripJudgement g ec float l = some x) : x ≠ .containment := by
  rintro rfl
  cases l with
  | none => cases float <;> exact absurd h nofun
  | some l =>
    unfold tripJudgement at h; dsimp only at h
    split at h
    · exact absurd h nofun
    · split at h <;> exact absurd h nofun

theorem judgeFromNormal_opens (s : State) : judgeFromNormal s ≠ .containment := by
  unfold judgeFromNormal
  cases h : tripJudgement s.gs s.guard.ceiling s.inputs.float (filtered s) with
  | some x => exact tripJudgement_opens h
  | none =>
    cases filtered s with
    | none => exact nofun
    | some l => dsimp only; split <;> exact nofun

/-- An entry of another state leaves the valve. -/
theorem enterGuard_valve {g : GuardState} (h : g ≠ .containment) (s : State) : (enterGuard g s).valve = s.valve := by
  by_cases same : g = s.guard.state
  · rw [enterGuard_same same]
  · rw [enterGuard_enters same]
    show (acted g s).valve = s.valve
    unfold acted; rw [if_neg h]; split
    · exact (calm_valve (stopAllPumps_calm _)).trans (flagged_valve g s)
    · exact flagged_valve g s

end

/-- The sampled inputs do not decide what an open command does. -/
theorem openCommand_takeSample (x : Sample) (s : State) : (openCommand (takeSample x s)).valve = (openCommand s).valve := by
  have drives : (driveOpen (takeSample x s)).valve = (driveOpen s).valve := by
    by_cases both : s.inputs.openLimit = true ∧ s.inputs.closedLimit = true
    · rw [driveOpen_both (s := takeSample x s) both, driveOpen_both both]; rfl
    · rw [driveOpen_else (s := takeSample x s) both, driveOpen_else both]; rfl
  unfold openCommand
  cases hv : s.valve.state <;> simp only [takeSample, hv] <;> exact drives

/-- Settles O25: the refusals, and each acceptance by the guard state it finds. -/
theorem acknowledgeJudged : Obligations.AcknowledgeJudged := by
  intro x s s0 carries refused u accepted latchedOk
  have accept {t : State} (h : acknowledgeGuard s0 = (judgeReserve t, true)) {g : GuardState} (hg : t.guard.state = g) :
      accepted g ∧ u.valve = t.valve := by
    obtain ⟨state, reserve, asks, result, valve⟩ := acknowledge_accepted h hg
    exact ⟨⟨exec_acknowledge .cabinet x s, state, reserve, asks, result⟩, valve⟩
  refine ⟨?_, fun hk => acknowledge_refused x (acknowledgeGuard_keyless hk), fun hk hl => ?_, fun hk hc => ?_, fun hk hl hc => ?_⟩
  · rw [exec_acknowledge, takeRequest_district_notHere rfl rfl]
  · have judged := acknowledgeGuard_latched (s := s0) hk hl
    refine ⟨fun ok => ?_, fun no => acknowledge_refused x (judged.trans (if_neg fun c => no ⟨c.1, levelFallen_iff.1 c.2⟩))⟩
    obtain ⟨float, fallen⟩ := ok
    exact (accept (judged.trans (if_pos ⟨float, levelFallen_iff.2 fallen⟩)) (by rw [enterGuard_guard])).1
  · have judged := acknowledgeGuard_containment (s := s0) hk hc
    refine ⟨fun opens => ?_, fun closed => acknowledge_refused x (judged.trans (if_pos ((feedbackAny_iff _).2 closed)))⟩
    have allOpen : ¬ s0.inputs.feedback.toList.any id = true := fun c => by
      obtain ⟨p, hp⟩ := (feedbackAny_iff _).1 c
      exact absurd (opens p) (ne_false_of_eq_true hp)
    obtain ⟨accepts, valve⟩ := accept (judged.trans (if_neg allOpen)) (g := judgeFromNormal s) (by rw [enterGuard_guard]; rfl)
    exact ⟨accepts, valve.trans ((enterGuard_valve (judgeFromNormal_opens s0) _).trans (openCommand_takeSample x s))⟩
  · have judged := acknowledgeGuard_else (s := s0) hk hl hc
    refine ⟨fun fault => ?_, fun no => acknowledge_refused x (judged.trans (if_neg no))⟩
    obtain ⟨accepts, valve⟩ := accept (judged.trans (if_pos fault)) (g := s.guard.state) (by rw [openCommand_guard]; rfl)
    have retried := valve.trans (openCommand_takeSample x s)
    refine ⟨accepts, retried, fun limits => ?_⟩
    rw [retried, openCommand_drives (.inr (.inr fault)), driveOpen_else limits]
    exact ⟨rfl, rfl, rfl⟩

end Sys2Proof.Machine
end

section
/-! PROOF. PUMP SERVICE (R90, R176). -/

namespace Sys2Proof.Machine
open Sys2Proof.Safety

/-- The request and the command of each operand: OUT and RETURN. -/
def serviceRequest (n : Nat) (out : Bool) : Request := .pumpService n (if out then 0 else 1)
def serviceInstr (port : Port) (x : Sample) (n : Nat) (out : Bool) : Instr :=
  if out then .pumpServiceOut port x n else .pumpServiceReturn port x n

theorem exec_service (port : Port) (x : Sample) (n : Nat) (out : Bool) (s : State) :
    exec (serviceInstr port x n out) s = .next (finish (takeRequest port (serviceRequest n out) (takeSample x s))) := by
  cases out
  · exact conclude_eq (takeRequest port (.pumpService n 1)) (takeSample x s)
  · exact conclude_eq (takeRequest port (.pumpService n 0)) (takeSample x s)

/-- What the channel answers to each operand. -/
def serviced (out : Bool) (p : Fin 3) (s : State) : Option State := if out then serviceOut p s else serviceReturn p s

section
variable {port : Port} {n : Nat} {s : State}

theorem carryOut_service_locked (out : Bool) (h : ¬ (port = .cabinet ∨ s.remote.unlocked = true)) :
    carryOut port (serviceRequest n out) s = (s, plain .locked) := by
  have locked : linkRefuses port s = true := by
    rw [← Bool.not_eq_false]; exact fun c => h (linkRefuses_eq_false_iff.1 c)
  show pumpServiceNow port n _ s = _
  unfold pumpServiceNow; rw [locked]; rfl

theorem carryOut_service_invalid (out : Bool) (h : port = .cabinet ∨ s.remote.unlocked = true) (hn : 3 ≤ n) :
    carryOut port (serviceRequest n out) s = (s, plain .invalid) := by
  have unknown : pumpOf n = none := dif_neg (Nat.not_lt.2 hn)
  show pumpServiceNow port n _ s = _
  unfold pumpServiceNow; rw [linkRefuses_eq_false_iff.2 h, unknown]; rfl

section
variable {p : Fin 3} (out : Bool) (h : port = .cabinet ∨ s.remote.unlocked = true) (hp : p.val = n)
include h hp

theorem carryOut_service_inUse (refuses : serviced out p s = none) :
    carryOut port (serviceRequest n out) s = (s, plain .inUse) := by
  show pumpServiceNow port n _ s = _
  unfold pumpServiceNow; rw [linkRefuses_eq_false_iff.2 h, pumpOf_eq_some.2 hp]
  cases out
  · simp only [Bool.false_eq_true, if_false, show serviceReturn p s = none from refuses]
  · simp only [Bool.false_eq_true, if_false, if_true, show serviceOut p s = none from refuses]

theorem carryOut_service_taken {t : State} (takes : serviced out p s = some t) :
    carryOut port (serviceRequest n out) s = (t, plain .done) := by
  show pumpServiceNow port n _ s = _
  unfold pumpServiceNow; rw [linkRefuses_eq_false_iff.2 h, pumpOf_eq_some.2 hp]
  cases out
  · simp only [Bool.false_eq_true, if_false, show serviceReturn p s = some t from takes]
  · simp only [Bool.false_eq_true, if_false, if_true, show serviceOut p s = some t from takes]

end

theorem service_refused {x : Sample} {out : Bool} {c : ResultCode} (hc : accepts (plain c) = false)
    (h : carryOut port (serviceRequest n out) (takeSample x s) = (takeSample x s, plain c)) :
    exec (serviceInstr port x n out) s =
      .next (finish (noteFormed port (serviceRequest n out) (plain c) { takeSample x s with lastResult := some (plain c) })) := by
  rw [exec_service, finish_refused h hc]

/-- An accepted one moves one channel and sets REMOTE over the link (R176). -/
theorem service_accepted {p : Fin 3} {out : Bool} {t : State} {after : Pump}
    (h : carryOut port (serviceRequest n out) s = (t, plain .done)) (self : t.pumps.get p = after)
    (other : ∀ p' : Fin 3, p' ≠ p → t.pumps.get p' = s.pumps.get p') :
    let u := takeRequest port (serviceRequest n out) s
    (finish u).lastResult = some (plain .done) ∧ u.pumps.get p = after ∧ (port = .district → eventIsSet .remote u = true) ∧
      ∀ p' : Fin 3, p' ≠ p → u.pumps.get p' = s.pumps.get p' := by
  intro u
  have pumps : u.pumps = t.pumps := by rw [takeRequest_pumps, h]
  refine ⟨?_, by rw [pumps]; exact self, ?_, fun p' hp => by rw [pumps]; exact other p' hp⟩
  · rw [finish_lastResult, takeRequest_lastResult, h]
  · rintro rfl
    exact takeRequest_district_remote (by rw [h]; rfl)

end

/-! ### The channel's answer -/

/-- A channel that may be taken out of service (R90). -/
def OutOk (p : Fin 3) (s : State) : Prop :=
  (s.pumps.get p).state = .stopped ∨ ((s.pumps.get p).state = .lockout ∧ (s.pumps.get p).pendingStart = none) ∨
    ((s.pumps.get p).state = .faulted ∧ s.inputs.feedback.get p = false)

/-- A channel that may be returned to service (R90). -/
def BackOk (p : Fin 3) (s : State) : Prop :=
  ((s.pumps.get p).state = .faulted ∨ (s.pumps.get p).state = .outOfService) ∧ s.inputs.feedback.get p = false ∧
    s.inputs.overload.get p = false

/-- The channel out of service, and returned. -/
def takenOut (p : Fin 3) (s : State) : State :=
  emit (.pumpChanged p) (setPump p
    { s.pumps.get p with state := .outOfService, cause := none, lockout := none, judged := s.inputs.feedback.get p,
                         overload := s.inputs.overload.get p } s)
def takenBack (p : Fin 3) (s : State) : State :=
  enterLockout p (setPump p { s.pumps.get p with cause := none, attempts := 0, judged := false, overload := false } s)

section
variable {p : Fin 3} {s : State}

theorem serviced_stopped (hq : (s.pumps.get p).state = .stopped) : serviced true p s = some (takenOut p s) := by
  show serviceOut p s = _
  unfold serviceOut; simp only [hq]; rfl

theorem serviced_lockout (hq : (s.pumps.get p).state = .lockout) :
    serviced true p s = if (s.pumps.get p).pendingStart.isNone then some (takenOut p s) else none := by
  show serviceOut p s = _
  unfold serviceOut; simp only [hq]; rfl

theorem serviced_faulted (hq : (s.pumps.get p).state = .faulted) :
    serviced true p s = if s.inputs.feedback.get p then none else some (takenOut p s) := by
  show serviceOut p s = _
  unfold serviceOut; simp only [hq]; rfl

theorem serviced_out (h : OutOk p s) : serviced true p s = some (takenOut p s) := by
  rcases h with hq | ⟨hq, hr⟩ | ⟨hq, hf⟩
  · exact serviced_stopped hq
  · rw [serviced_lockout hq, hr]; rfl
  · rw [serviced_faulted hq, hf]; rfl

theorem serviced_not_out (h : ¬ OutOk p s) : serviced true p s = none := by
  cases hq : (s.pumps.get p).state with
  | stopped => exact absurd (.inl hq) h
  | lockout =>
    rw [serviced_lockout hq]
    exact if_neg fun c => h (.inr (.inl ⟨hq, by simpa using c⟩))
  | faulted =>
    rw [serviced_faulted hq]
    exact if_pos (by rw [← Bool.not_eq_false]; exact fun c => h (.inr (.inr ⟨hq, c⟩)))
  | _ =>
    show serviceOut p s = _
    unfold serviceOut; simp only [hq]

theorem serviced_back (h : BackOk p s) : serviced false p s = some (takenBack p s) := if_pos h
theorem serviced_not_back (h : ¬ BackOk p s) : serviced false p s = none := if_neg h

theorem takenOut_self :
    (takenOut p s).pumps.get p =
      { s.pumps.get p with state := .outOfService, cause := none, lockout := none, judged := s.inputs.feedback.get p,
                           overload := s.inputs.overload.get p } := trio_get_set_same _ _ _

theorem takenBack_self :
    (takenBack p s).pumps.get p =
      { s.pumps.get p with state := .lockout, cause := none, attempts := 0, lockout := some s.gs.lockoutTime, judged := false,
                           overload := false } := by
  unfold takenBack
  rw [enterLockout_self, setPump_pumps, trio_get_set_same]
  rfl

theorem takenOut_other (k : Fin 3) (h : k ≠ p) : (takenOut p s).pumps.get k = s.pumps.get k := trio_get_set_other _ _ _ _ h
theorem takenBack_other (k : Fin 3) (h : k ≠ p) : (takenBack p s).pumps.get k = s.pumps.get k :=
  (enterLockout_other p k _ h).trans (trio_get_set_other _ _ _ _ h)

end

/-- Settles O23: the refusals in their order, and each operand by the channel's state and inputs. -/
theorem pumpServiceTakes : Obligations.PumpServiceTakes := by
  intro port x n s i q refused free
  refine ⟨fun out h => service_refused rfl (carryOut_service_locked (s := takeSample x s) out h),
    fun out h hn => service_refused rfl (carryOut_service_invalid (s := takeSample x s) out h hn), fun p h hp => ?_⟩
  intro b fits outOk backOk
  have fit {out : Bool} {t : State} {after : Pump} (taken : serviced out p (takeSample x s) = some t) (self : t.pumps.get p = after)
      (other : ∀ k, k ≠ p → t.pumps.get k = s.pumps.get k) : fits out after :=
    ⟨exec_service port x n out s,
      service_accepted (carryOut_service_taken (s := takeSample x s) out h hp taken) self other⟩
  have inUse {out : Bool} (refuses : serviced out p (takeSample x s) = none) : refused out .inUse :=
    service_refused rfl (carryOut_service_inUse (s := takeSample x s) out h hp refuses)
  exact ⟨fun ok => fit (serviced_out (s := takeSample x s) ok) takenOut_self takenOut_other,
    fun no => inUse (serviced_not_out (s := takeSample x s) no),
    fun ok => fit (serviced_back (s := takeSample x s) ok) takenBack_self takenBack_other,
    fun no => inUse (serviced_not_back (s := takeSample x s) no)⟩

end Sys2Proof.Machine
end

section
/-! PROOF. What the owner of a guard-set field does at acceptance (R36, R48, R107, R129, R144, R147, R149). -/

namespace Sys2Proof.Machine
open Sys2Proof.Safety

/-! ### A circuit in OFF without a claim -/

/-- A circuit in OFF that stands outside every claim. -/
def Resting (c : Fin 8) (s : State) : Prop := Unclaimed (.circuit c) s ∧ (s.frost.circuits.get c).state = .off

section
variable {c : Fin 8} {s : State}

theorem resting_of_apart {q : Circuit} {t : State} (hq : q.state = .off) (h : Apart c q t) : Resting c t :=
  ⟨h.1, by rw [h.2]; exact hq⟩

theorem apart_of_resting (h : Resting c s) : Apart c (s.frost.circuits.get c) s := ⟨h.1, rfl⟩

theorem withdrawClaim_apart (h : ∀ x ∈ s.arbiter.granted, x.claimant ≠ .circuit c) :
    Apart c (s.frost.circuits.get c) (withdrawClaim (.circuit c) s) := by
  refine walk_apart 64 ⟨fun x hx => ?_, by rw [dropWaiting_frost]⟩
  rcases List.mem_append.1 hx with hx | hx
  · exact notWaiting_dropWaiting _ s x hx
  · rcases dropWaiting_granted (.circuit c) s with e | e <;> rw [e] at hx
    · exact h x hx
    · obtain ⟨y, hy, rfl⟩ := List.mem_map.1 hx
      exact h y hy

/-- Another circuit's judgement leaves it apart. -/
theorem judgeCircuit_apart {d : Fin 8} (hd : c ≠ d) {q : Circuit} (h : Apart c q s) : Apart c q (judgeCircuit d s) := by
  have kd : Claimant.circuit d ≠ .circuit c := fun e => hd (Claimant.circuit.inj e).symm
  have put (x : Circuit) {t : State} (ht : Apart c q t) : Apart c q (setCircuit d x t) :=
    ⟨ht.1, (octo_get_set_other _ _ _ _ hd).trans ht.2⟩
  have placed (u : Nat) (cls : ClaimClass) {t : State} (ht : Apart c q t) : Apart c q (placeClaim (.circuit d) u cls t) :=
    walk_apart 64 ⟨unclaimed_enterClaim kd ht.1 u cls, by rw [enterClaim_frost]; exact ht.2⟩
  have withdrawn {t : State} (ht : Apart c q t) : Apart c q (withdrawClaim (.circuit d) t) :=
    walk_apart 64 ⟨unclaimed_dropped ht.1, by rw [dropWaiting_frost]; exact ht.2⟩
  have released {t : State} (ht : Apart c q t) : Apart c q (releaseClaim (.circuit d) t) :=
    walk_apart 64 ⟨unclaimed_dropGranted ht.1, ht.2⟩
  have calls : Apart c q (circuitCalls d s) := placed _ _ (put _ h)
  have gives : Apart c q (circuitGivesUp d s) := withdrawn (put _ h)
  have stops : Apart c q (circuitStops d .off s) := released (put _ h)
  unfold judgeCircuit; dsimp only; repeat' split
  all_goals first
    | exact h
    | exact calls
    | exact gives
    | exact stops

/-- Without a setpoint it stays where it is. -/
theorem judgeCircuit_resting (h : Resting c s) (hn : (s.frost.circuits.get c).setpoint = none) : judgeCircuit c s = s :=
  judgeCircuit_off h.2 fun ⟨_, _, hsp, _⟩ => by rw [hn] at hsp; exact absurd hsp nofun

theorem refreshSetpoint_resting (d : Fin 8) (h : Resting c s) (hn : setpointOf s c = none) : Resting c (refreshSetpoint s d) := by
  unfold refreshSetpoint; dsimp only; split
  · exact h
  · by_cases hd : c = d
    · subst hd
      have put : Resting c (setCircuit c { s.frost.circuits.get c with setpoint := setpointOf s c } s) :=
        ⟨h.1, by rw [setCircuit_circuits, octo_get_set_same]; exact h.2⟩
      rw [judgeCircuit_resting put (by rw [setCircuit_circuits, octo_get_set_same]; exact hn)]
      exact put
    · refine resting_of_apart h.2 (judgeCircuit_apart hd ⟨h.1, ?_⟩)
      exact octo_get_set_other _ _ _ _ hd

theorem refreshSetpoints_resting (h : Resting c s) (hn : setpointOf s c = none) : Resting c (refreshSetpoints s) := by
  unfold refreshSetpoints
  generalize eightNumbers = l
  refine (foldl_keeps (fun t => Resting c t ∧ setpointOf t c = none) refreshSetpoint (fun t d ht => ?_) l s ⟨h, hn⟩).1
  exact ⟨refreshSetpoint_resting d ht.1 ht.2, (refreshSetpoint_setpointOf t d c).trans ht.2⟩

/-- A circuit whose role has gone leaves for OFF with its claim given up (R144). -/
theorem roleGone_resting (h : ClaimsMatch s) : Resting c (roleGone c s) := by
  obtain ⟨-, -, circuits⟩ := h
  obtain ⟨waits, grants⟩ := circuits c
  have noneWaiting (hq : ¬ ((s.frost.circuits.get c).state = .calling ∨ (s.frost.circuits.get c).state = .shed)) :
      ∀ x ∈ s.arbiter.waiting, x.claimant ≠ .circuit c := fun x hx e => hq (waits.1 ⟨x, hx, e⟩)
  have noneGranted (hq : (s.frost.circuits.get c).state ≠ .heating) :
      ∀ x ∈ s.arbiter.granted, x.claimant ≠ .circuit c := fun x hx e => hq (grants.1 ⟨x, hx, e⟩)
  have free (hw : ¬ ((s.frost.circuits.get c).state = .calling ∨ (s.frost.circuits.get c).state = .shed))
      (hg : (s.frost.circuits.get c).state ≠ .heating) : Unclaimed (.circuit c) s := fun x hx =>
    (List.mem_append.1 hx).elim (noneWaiting hw x) (noneGranted hg x)
  have put (q : Circuit) : (setCircuit c q s).frost.circuits.get c = q := by rw [setCircuit_circuits, octo_get_set_same]
  have gives (hq : (s.frost.circuits.get c).state ≠ .heating) : Resting c (circuitGivesUp c s) := by
    refine resting_of_apart ?_ (withdrawClaim_apart
      (s := setCircuit c { s.frost.circuits.get c with state := .off, timer := none } s) (noneGranted hq))
    rw [put]
  unfold roleGone
  cases hq : (s.frost.circuits.get c).state with
  | off => exact ⟨free (by simp [hq]) (by simp [hq]), hq⟩
  | calling => exact gives (by simp [hq])
  | shed => exact gives (by simp [hq])
  | heating =>
    refine resting_of_apart ?_ (releaseClaim_apart
      (s := setCircuit c { s.frost.circuits.get c with state := .off, timer := none } s) (noneWaiting (by simp [hq])))
    rw [put]
  | fault => exact ⟨free (by simp [hq]) (by simp [hq]), by rw [put]⟩

end

/-! ### The setpoints while the circuits are judged -/

/-- Every setpoint stands as it is worked out. -/
def SetpointsStand (s : State) : Prop := ∀ k : Fin 8, (s.frost.circuits.get k).setpoint = setpointOf s k

theorem SetpointsStand.is {s : State} (h : SetpointsStand s) (k : Fin 8) : SetpointIs s k (s.frost.circuits.get k).setpoint := by
  rw [h k]; exact setpointOf_is s k

theorem refreshSetpoints_stand (s : State) : SetpointsStand (refreshSetpoints s) := fun k =>
  (refreshSetpoints_setpoint s k).trans (refreshSetpoints_setpointOf s k).symm

theorem SetpointsStand.keep {s t : State} (h : SetpointsStand s) (hs : settings t = settings s) (hg : t.gs = s.gs)
    (hb : t.book = s.book) : SetpointsStand t := fun k => by
  rw [settings_setpoint hs, h k]
  exact (setpointOf_congr hg (settings_fallback hs) (congrArg Book.records hb) k).symm

theorem judgeCircuit_stand {c : Fin 8} {s : State} (h : SetpointsStand s) : SetpointsStand (judgeCircuit c s) :=
  h.keep (judgeCircuit_settings c s) (congrArg Still.gs (judgeCircuit_still c s)) (low_book (judgeCircuit_low c s))

/-- What every circuit's judgement leaves of the frost controller. -/
theorem judgeCircuits_settings (s : State) : settings (judgeCircuits s) = settings s :=
  foldl_settings _ (fun t c => judgeCircuit_settings c t) _ s

theorem judgeCircuits_stand {s : State} (h : SetpointsStand s) : SetpointsStand (judgeCircuits s) :=
  foldl_keeps SetpointsStand _ (fun _ _ ht => judgeCircuit_stand ht) _ s h

/-- The pipe judgement leaves the circuits and what their setpoints are worked out from. -/
theorem judgePipe_frost (s : State) : (judgePipe s).frost = { s.frost with pipe := pipeNow s } := by
  rw [judgePipe_eq]; unfold holdPipe; dsimp only; split <;> rfl

theorem judgePipe_parts (s : State) : (judgePipe s).arbiter = s.arbiter ∧ (judgePipe s).book = s.book ∧ (judgePipe s).gs = s.gs := by
  rw [judgePipe_eq]; unfold holdPipe; dsimp only; split <;> exact ⟨rfl, rfl, rfl⟩

theorem judgePipe_stand {s : State} (h : SetpointsStand s) : SetpointsStand (judgePipe s) := fun k => by
  obtain ⟨-, book, gs⟩ := judgePipe_parts s
  rw [judgePipe_frost, setpointOf_congr gs (by rw [judgePipe_frost]) (congrArg Book.records book)]
  exact h k

theorem pipeNow_congr {s t : State} (hg : t.gs = s.gs) (hb : besidesCircuits t = besidesCircuits s) : pipeNow t = pipeNow s := by
  have probes : t.frost.probes = s.frost.probes := congrArg Prod.fst hb
  have pipe : t.frost.pipe = s.frost.pipe := congrArg (fun x => x.2.1) hb
  unfold pipeNow
  rw [pipeProbe_congr hg, hg, probes, pipe]

/-- The pipe judged after the circuits stands as if it were judged before them. -/
theorem judgePipe_taken {s t : State} (hg : t.gs = s.gs) (hb : besidesCircuits t = besidesCircuits s) : PipeTaken s (judgePipe t) := by
  have pipe : t.frost.pipe = s.frost.pipe := congrArg (fun x => x.2.1) hb
  refine ⟨by rw [judgePipe_pipe, judgePipe_pipe]; exact pipeNow_congr hg hb, fun h => ?_⟩
  rw [judgePipe_pipe, ← pipe] at h
  obtain ⟨events, agenda⟩ := holdPipe_changes h
  rw [judgePipe_eq]
  refine ⟨?_, by rw [agenda]; exact List.mem_append_right _ List.mem_cons_self⟩
  rw [eventIsSet_congr (s := setEvent .frozen t) events]
  exact eventIsSet_setEvent .frozen t

end Sys2Proof.Machine
end

section
/-! PROOF. WRITE GUARD: the checks in their order, and the owner of each field acting at acceptance (R129, R144, R147, R195). -/

namespace Sys2Proof.Machine
open Sys2Proof.Safety

/-! ### A written role -/

section
variable (c : Fin 8) (s : State)

theorem roleGone_settings : settings (roleGone c s) = settings s := by
  have gives : settings (circuitGivesUp c s) = settings s := (withdrawClaim_settings _ _).trans (setCircuit_settings rfl)
  have stops : settings (circuitStops c .off s) = settings s := (releaseClaim_settings _ _).trans (setCircuit_settings rfl)
  unfold roleGone; split
  · rfl
  · exact gives
  · exact gives
  · exact stops
  · exact setCircuit_settings rfl

theorem roleGone_low : low (roleGone c s) = low s := by
  unfold roleGone; split <;> simp [circuitGivesUp, circuitStops]

/-- The circuit as the loss of its role leaves it. -/
def roleLeft : State := if s.gs.role.get c = .none then roleGone c s else s

theorem roleLeft_settings : settings (roleLeft c s) = settings s := by
  unfold roleLeft; split
  · exact roleGone_settings c s
  · rfl

theorem roleLeft_low : low (roleLeft c s) = low s := by
  unfold roleLeft; split
  · exact roleGone_low c s
  · rfl

theorem roleLeft_gs : (roleLeft c s).gs = s.gs := congrArg Still.gs (calm_still (low_calm (roleLeft_low c s)))

/-- The circuits once a written role has acted on its own. -/
def roleJudged : State := judgeCircuit c (refreshSetpoints (roleLeft c s))

theorem roleJudged_gs : (roleJudged c s).gs = s.gs :=
  (congrArg Still.gs ((judgeCircuit_still c _).trans (refreshSetpoints_still (roleLeft c s)))).trans (roleLeft_gs c s)

theorem roleJudged_stand : SetpointsStand (roleJudged c s) := judgeCircuit_stand (refreshSetpoints_stand (roleLeft c s))

theorem roleJudged_besides : besidesCircuits (roleJudged c s) = besidesCircuits s :=
  (besidesCircuits_of_settings (judgeCircuit_settings c _)).trans
    ((refreshSetpoints_besides (roleLeft c s)).trans (besidesCircuits_of_settings (roleLeft_settings c s)))

/-- A write that gives or takes OVERFLOW_PIPE (R147). -/
def PipeRole (old new : Role) : Prop := old ≠ new ∧ (old = .overflowPipe ∨ new = .overflowPipe)

theorem roleWritten_pipe {old : Role} (h : PipeRole old (s.gs.role.get c)) : roleWritten c old s = judgePipe (roleJudged c s) := if_pos h

theorem roleWritten_else {old : Role} (h : ¬ PipeRole old (s.gs.role.get c)) : roleWritten c old s = roleJudged c s := if_neg h

theorem roleWritten_circuits (old : Role) :
    (roleWritten c old s).frost.circuits = (roleJudged c s).frost.circuits ∧
      (roleWritten c old s).arbiter = (roleJudged c s).arbiter := by
  by_cases h : PipeRole old (s.gs.role.get c)
  · rw [roleWritten_pipe c s h]
    generalize roleJudged c s = t
    exact ⟨by rw [judgePipe_frost], (judgePipe_parts t).1⟩
  · rw [roleWritten_else c s h]; exact ⟨rfl, rfl⟩

theorem roleWritten_stand (old : Role) : SetpointsStand (roleWritten c old s) := by
  by_cases h : PipeRole old (s.gs.role.get c)
  · rw [roleWritten_pipe c s h]; exact judgePipe_stand (roleJudged_stand c s)
  · rw [roleWritten_else c s h]; exact roleJudged_stand c s

variable {c s}

/-- A circuit that no HEAT order names and that has lost its role rests in OFF (R144). -/
theorem roleJudged_rests (matched : ClaimsMatch s) (gone : s.gs.role.get c = .none)
    (unnamed : ∀ r ∈ s.book.records, ∀ h, r.body = .heat h → h.circuit ≠ c) : Resting c (roleJudged c s) := by
  have left : roleLeft c s = roleGone c s := if_pos gone
  have book : (roleLeft c s).book = s.book := low_book (roleLeft_low c s)
  have unset : setpointOf (roleLeft c s) c = none := by
    cases hsp : setpointOf (roleLeft c s) c with
    | none => rfl
    | some v =>
      have applies := (setpointOf_is (roleLeft c s) c).2 v hsp
      unfold SetpointPart at applies
      rw [book, roleLeft_gs, gone] at applies
      rcases applies with ⟨e, -⟩ | ⟨e, -⟩ | ⟨e, -⟩ | ⟨e, -⟩ | ⟨r, hr, h, hb, -, hc, -⟩
      · exact absurd e nofun
      · exact absurd e nofun
      · exact absurd e nofun
      · exact absurd e nofun
      · exact absurd hc (unnamed r hr h hb)
  have rests : Resting c (refreshSetpoints (roleLeft c s)) :=
    refreshSetpoints_resting (by rw [left]; exact roleGone_resting matched) unset
  have none := (refreshSetpoints_setpoint (roleLeft c s) c).trans unset
  unfold roleJudged
  generalize refreshSetpoints (roleLeft c s) = t at rests none
  rw [judgeCircuit_resting rests none]
  exact rests

/-- A written role acts on its circuit, on the setpoints and, where OVERFLOW_PIPE is given or taken, on the pipe. -/
theorem roleWritten_acts (old : GuardSet)
    (unnamed : s.gs.role.get c = .none → ∀ r ∈ s.book.records, ∀ h, r.body = .heat h → h.circuit ≠ c) :
    FieldActs (.role c) old s (roleWritten c (old.role.get c) s) := by
  simp only [FieldActs]
  obtain ⟨circuits, arbiter⟩ := roleWritten_circuits c s (old.role.get c)
  have besides := roleJudged_besides c s
  refine ⟨(roleWritten_stand c s _).is, fun hn => ?_, fun hn matched => ?_, fun hd hp => ?_, fun hp => ?_⟩
  · have same : roleLeft c s = s := if_neg hn
    have e : roleJudged c s = judgeCircuit c (refreshSetpoints s) := by unfold roleJudged; rw [same]
    rw [circuits, arbiter, e]
    exact ⟨rfl, rfl⟩
  · have rests := roleJudged_rests matched hn (unnamed hn)
    rw [circuits, arbiter]
    exact ⟨rests.2, rests.1⟩
  · rw [roleWritten_pipe c s ⟨hd, hp⟩]
    exact judgePipe_taken (roleJudged_gs c s) besides
  · have still : ¬ PipeRole (old.role.get c) (s.gs.role.get c) := by
      rintro ⟨hd, h⟩
      rcases hp with e | ⟨h1, h2⟩
      · exact hd e
      · exact h.elim h1 h2
    rw [roleWritten_else c s still]
    generalize roleJudged c s = t at besides
    exact congrArg (fun x => x.2.1) besides

end

/-! ### The owners -/

section
variable {s : State}

theorem ownerActs_probeIndex (c : Fin 8) (old : GuardSet) :
    ownerActs (.probeIndex c) old s =
      if (judgeCircuit c s).gs.role.get c = .overflowPipe then judgePipe (judgeCircuit c s) else judgeCircuit c s := rfl

theorem probeIndexWritten_acts (c : Fin 8) (old : GuardSet) :
    FieldActs (.probeIndex c) old s (ownerActs (.probeIndex c) old s) := by
  have gs : (judgeCircuit c s).gs = s.gs := congrArg Still.gs (judgeCircuit_still c s)
  have besides := besidesCircuits_of_settings (judgeCircuit_settings c s)
  rw [ownerActs_probeIndex]
  simp only [FieldActs]
  generalize judgeCircuit c s = judged at gs besides
  rw [gs]
  by_cases h : s.gs.role.get c = .overflowPipe
  · rw [if_pos h]
    exact ⟨by rw [judgePipe_frost], (judgePipe_parts judged).1, fun _ => judgePipe_taken gs besides, fun hn => absurd h hn⟩
  · rw [if_neg h]
    exact ⟨rfl, rfl, fun hp => absurd hp h, fun _ => rfl⟩

theorem circuitsJudged_take : CircuitsTake s (judgeCircuits (refreshSetpoints s)) :=
  ⟨(judgeCircuits_stand (refreshSetpoints_stand s)).is, rfl, rfl⟩

theorem circuitsTake_emit {w : State} (h : CircuitsTake s w) (n : Note) : CircuitsTake s (emit n w) := h

theorem judgeCircuits_grows (s : State) : Grows s (judgeCircuits s) := foldl_grows (fun t c => judgeCircuit_grows c t) _ s

theorem judgeHoldover_trust :
    (judgeHoldover s).clock.trust =
      if s.clock.trust = .holdover ∧ s.gs.holdoverLimit ≤ s.clock.holdover then .free else s.clock.trust := by
  unfold judgeHoldover; split
  · exact changeTrust_trust .free s
  · rfl

theorem judgeAllowance_reached (spent : s.gs.allowance ≤ s.clock.tally) (fresh : s.clock.reachedToday = false) :
    eventIsSet .allowance (judgeAllowance s) = true := by
  unfold judgeAllowance
  rw [if_pos ⟨decide_eq_true spent, fresh⟩]
  exact eventIsSet_setEvent _ _

end

theorem ownerActs_tankCold (old : GuardSet) (s : State) :
    ownerActs .tankCold old s = emit .frostJudge (judgeCircuits (refreshSetpoints s)) := rfl

theorem tankColdWritten_acts (old : GuardSet) (s : State) : FieldActs .tankCold old s (ownerActs .tankCold old s) := by
  have taken := circuitsJudged_take (s := s)
  obtain ⟨xs, agenda⟩ := ((refreshSetpoints_grows s).trans (judgeCircuits_grows _)).agenda
  rw [ownerActs_tankCold]
  generalize judgeCircuits (refreshSetpoints s) = w at taken agenda
  exact ⟨circuitsTake_emit taken .frostJudge, xs, congrArg (fun l => l ++ [Note.frostJudge]) agenda⟩

/-- What the owner of each field does (R36, R48, R107, R129, R144, R147, R149). -/
theorem ownerActs_acts (f : GuardField) (old : GuardSet) {s : State}
    (unnamed : ∀ c, f = .role c → s.gs.role.get c = .none → ∀ r ∈ s.book.records, ∀ h, r.body = .heat h → h.circuit ≠ c) :
    FieldActs f old s (ownerActs f old s) := by
  have taken := circuitsJudged_take (s := s)
  cases f with
  | role c => exact roleWritten_acts old (unnamed c rfl)
  | probeIndex c => exact probeIndexWritten_acts c old
  | reserveFloor => exact ⟨judgeReserve_reserve s, by show (judgeReserve s).agenda = _; rw [judgeReserve_eq]⟩
  | holdoverLimit => exact judgeHoldover_trust
  | allowance =>
    refine ⟨judgeAllowance_clock s, ?_, fun spent fresh => judgeAllowance_reached spent fresh⟩
    show (judgeAllowance s).agenda ++ _ = _
    rw [judgeAllowance_eq]
  | supplyLimit => exact ⟨rfl, rfl, rfl⟩
  | floorOverflow => exact taken
  | floorRiser => exact taken
  | floorChamber => exact taken
  | hysteresis => exact taken
  | tankCold => exact tankColdWritten_acts old s
  | frozenThreshold => exact ⟨rfl, rfl⟩
  | thawThreshold => exact ⟨rfl, rfl⟩
  | ceiling => rfl
  | coldMargin => rfl
  | approachBand => rfl
  | disagreement => rfl
  | rearm => rfl
  | tankProbe => rfl
  | stagnationTime => rfl
  | turnoverDepth => rfl
  | _ => exact ⟨rfl, rfl, rfl, rfl, rfl, rfl⟩

/-- The bookkeeping of a request leaves what the owner does, with more events at most. -/
theorem fieldActs_noted {f : GuardField} {old : GuardSet} {s w : State} {e : BitVec 17} {l : Option Response} {k : Cabinet}
    (grows : ∀ x, eventIsSet x w = true → eventIsSet x { w with events := e, lastResult := l, cabinet := k } = true)
    (h : FieldActs f old s w) : FieldActs f old s { w with events := e, lastResult := l, cabinet := k } := by
  cases f with
  | allowance =>
    obtain ⟨clock, agenda, event⟩ := h
    exact ⟨clock, agenda, fun a b => grows _ (event a b)⟩
  | role c =>
    obtain ⟨setpoints, judged, gone, pipe, keeps⟩ := h
    refine ⟨setpoints, judged, gone, fun a b => ?_, keeps⟩
    obtain ⟨now, told⟩ := pipe a b
    exact ⟨now, fun x => ⟨grows _ (told x).1, (told x).2⟩⟩
  | probeIndex c =>
    obtain ⟨circuits, arbiter, pipe, keeps⟩ := h
    refine ⟨circuits, arbiter, fun a => ?_, keeps⟩
    obtain ⟨now, told⟩ := pipe a
    exact ⟨now, fun x => ⟨grows _ (told x).1, (told x).2⟩⟩
  | _ => exact h

end Sys2Proof.Machine
end

section
/-! PROOF. WRITE GUARD: the checks in their order (R181, R195). -/

namespace Sys2Proof.Machine
open Sys2Proof.Safety

/-! ### Who may write -/

theorem guardFieldOfId_accessCode {id : Byte} : guardFieldOfId id = some .accessCode ↔ id = 0x7F := by
  refine ⟨fun h => ?_, fun h => by rw [h]; rfl⟩
  unfold guardFieldOfId at h
  dsimp only at h
  split at h
  all_goals first
    | (cases h; done)
    | (rename_i e; exact BitVec.eq_of_toNat_eq e)
    | (repeat' split at h
       all_goals cases h)

/-- A port that may write the field of an identifier (R181, R195). -/
def MayWrite (port : Port) (id : Byte) (s : State) : Prop :=
  match port with
  | .cabinet => s.inputs.key = true
  | .district => s.remote.unlocked = true ∧ id ≠ 0x7F

theorem writeAllowed_iff {port : Port} {id : Byte} {s : State} :
    writeAllowed port (guardFieldOfId id) s = true ↔ MayWrite port id s := by
  cases port with
  | cabinet => exact Iff.rfl
  | district =>
    show (s.remote.unlocked && decide (guardFieldOfId id ≠ some .accessCode)) = true ↔ s.remote.unlocked = true ∧ id ≠ 0x7F
    rw [Bool.and_eq_true, decide_eq_true_iff, ne_eq, guardFieldOfId_accessCode]

/-! ### The checks in their order -/

section
variable {port : Port} {id : Byte} {v : BitVec 32} {s : State}

/-- The guard set with the value in its field. -/
def written (f : GuardField) (v : BitVec 32) (s : State) : GuardSet := putGuardValue s.gs f (guardOperand f v)

/-- The value lies in its range and meets every relation. -/
def Lawful (f : GuardField) (v : BitVec 32) (s : State) : Prop :=
  guardInRange f (guardOperand f v) = true ∧ guardRelations (written f v s) = true

theorem writeGuard_locked (h : ¬ MayWrite port id s) : writeGuardNow port id v s = (s, plain .locked) := by
  refine if_pos ?_
  rw [← Bool.not_eq_true]
  exact mt writeAllowed_iff.1 h

section
variable (may : MayWrite port id s)
include may

theorem writeGuard_busy (h : s.store.commit = true) : writeGuardNow port id v s = (s, plain .busy) := by
  unfold writeGuardNow
  rw [if_neg (by rw [writeAllowed_iff.2 may]; exact Bool.noConfusion), if_pos h]

variable (idle : s.store.commit = false)
include idle

theorem writeGuard_unknown (h : guardFieldOfId id = none) : writeGuardNow port id v s = (s, plain .invalid) := by
  unfold writeGuardNow
  rw [if_neg (by rw [writeAllowed_iff.2 may]; exact Bool.noConfusion), if_neg (by rw [idle]; exact Bool.false_ne_true), h]

theorem writeGuard_field {f : GuardField} (h : guardFieldOfId id = some f) :
    writeGuardNow port id v s =
      if guardInRange f (guardOperand f v) = false ∨ guardRelations (written f v s) = false then (s, plain .invalid)
      else if writeInUse f (written f v s) s then (s, plain .inUse)
      else (ownerActs f s.gs (beginCommit { s with gs := written f v s }), plain .done) := by
  unfold writeGuardNow
  rw [if_neg (by rw [writeAllowed_iff.2 may]; exact Bool.noConfusion), if_neg (by rw [idle]; exact Bool.false_ne_true), h]
  rfl

variable {f : GuardField} (named : guardFieldOfId id = some f)
include named

theorem writeGuard_unlawful (h : ¬ Lawful f v s) : writeGuardNow port id v s = (s, plain .invalid) := by
  rw [writeGuard_field may idle named, if_pos]
  rw [← Bool.not_eq_true, ← Bool.not_eq_true, ← not_and_or]
  exact h

variable (lawful : Lawful f v s)
include lawful

theorem writeGuard_inUse (h : writeInUse f (written f v s) s = true) : writeGuardNow port id v s = (s, plain .inUse) := by
  rw [writeGuard_field may idle named, if_neg, if_pos h]
  rw [lawful.1, lawful.2]
  exact fun c => c.elim Bool.noConfusion Bool.noConfusion

theorem writeGuard_taken (h : writeInUse f (written f v s) s = false) :
    writeGuardNow port id v s = (ownerActs f s.gs (beginCommit { s with gs := written f v s }), plain .done) := by
  rw [writeGuard_field may idle named, if_neg, if_neg (by rw [h]; exact Bool.false_ne_true)]
  rw [lawful.1, lawful.2]
  exact fun c => c.elim Bool.noConfusion Bool.noConfusion

end

theorem writeGuard_refused {x : Sample} {c : ResultCode} (hc : accepts (plain c) = false)
    (h : writeGuardNow port id v (takeSample x s) = (takeSample x s, plain c)) :
    exec (.writeGuard port x id v) s =
      .next (finish (noteFormed port (.writeGuard id v) (plain c) { takeSample x s with lastResult := some (plain c) })) := by
  rw [exec_writeGuard, finish_refused (q := .writeGuard id v) h hc]

end

/-! ### An accepted write -/

/-- The new role of a circuit that a HEAT order names is in use when it is NONE (R8). -/
theorem unnamed_of_not_inUse {f : GuardField} {g : GuardSet} {s : State} (h : writeInUse f g s = false) (c : Fin 8)
    (hf : f = .role c) (gone : g.role.get c = .none) : ∀ r ∈ s.book.records, ∀ x, r.body = .heat x → x.circuit ≠ c := by
  subst hf
  intro r hr x hx e
  simp only [writeInUse, gone, decide_true, Bool.true_and] at h
  have unnamed := List.any_eq_false.1 h r hr
  rw [hx] at unnamed
  exact unnamed (decide_eq_true e)

/-- The bookkeeping of a request reaches the events, the last result and the cabinet port, and clears no flag. -/
theorem takeRequest_noted (port : Port) (q : Request) (s : State) :
    ∃ e l k, takeRequest port q s = { (carryOut port q s).1 with events := e, lastResult := l, cabinet := k } ∧
      ∀ x, eventIsSet x (carryOut port q s).1 = true →
        eventIsSet x { (carryOut port q s).1 with events := e, lastResult := l, cabinet := k } = true := by
  refine ⟨_, _, _, takeRequest_frame port q s, fun x hx => ?_⟩
  rw [← takeRequest_frame]
  have marked : eventIsSet x (markRemote port q (carryOut port q s).2 s (carryOut port q s).1) = true := by
    unfold markRemote; split
    · exact hx
    · split
      · exact (setEvent_grows _ _).events x hx
      · exact hx
  rw [eventIsSet_congr (takeRequest_events port q s)]
  exact marked

theorem ownerActs_gs (f : GuardField) (old : GuardSet) (s : State) : (ownerActs f old s).gs = s.gs := by
  obtain ⟨x, e⟩ := ownerActs_still f old s
  exact congrArg Still.gs e

theorem ownerActs_store (f : GuardField) (old : GuardSet) (s : State) : (ownerActs f old s).store = s.store := by
  obtain ⟨x, e⟩ := ownerActs_still f old s
  exact congrArg Still.store e

/-- Settles O15: the checks in their order, and an accepted write with its owner acting on the new value. -/
theorem writeGuardJudged : Obligations.WriteGuardJudged := by
  intro port x id v s refused allowed
  have may_iff : allowed ↔ MayWrite port id (takeSample x s) := by cases port <;> exact Iff.rfl
  refine ⟨fun h => ?_, fun h hb => ?_, fun h hi hn => ?_, fun f h hi hf => ?_⟩
  · exact writeGuard_refused rfl (writeGuard_locked (mt may_iff.2 h))
  · exact writeGuard_refused rfl (writeGuard_busy (may_iff.1 h) hb)
  · exact writeGuard_refused rfl (writeGuard_unknown (may_iff.1 h) hi hn)
  have may := may_iff.1 h
  intro g ok
  refine ⟨fun no => writeGuard_refused rfl (writeGuard_unlawful may hi hf no),
    fun yes used => writeGuard_refused rfl (writeGuard_inUse may hi hf yes used), fun yes free => ?_⟩
  intro store u
  let s1 : State := { takeSample x s with gs := g, store := store }
  have owner : carryOut port (.writeGuard id v) (takeSample x s) = (ownerActs f s.gs s1, plain .done) :=
    writeGuard_taken may hi hf yes free
  have acts : FieldActs f s.gs s1 (ownerActs f s.gs s1) := ownerActs_acts f s.gs (unnamed_of_not_inUse free)
  have gs : (ownerActs f s.gs s1).gs = g := ownerActs_gs f s.gs s1
  have kept : (ownerActs f s.gs s1).store = store := ownerActs_store f s.gs s1
  obtain ⟨e, l, k, noted, grows⟩ := takeRequest_noted port (.writeGuard id v) (takeSample x s)
  rw [owner] at noted grows
  have result : u.lastResult = some (plain .done) := by rw [takeRequest_lastResult, owner]
  have marks : port = .district → eventIsSet .remote u = true := by
    rintro rfl
    exact takeRequest_district_remote (by rw [owner]; rfl)
  refine ⟨exec_writeGuard port x id v s, (finish_lastResult u).trans result, ?_, (finish_store u).trans ?_, marks, ?_⟩
  · refine (congrArg Still.gs (finish_still u)).trans ?_
    show u.gs = g
    rw [show u = _ from noted]; exact gs
  · rw [show u = _ from noted]; exact kept
  · rw [show u = _ from noted]
    exact fieldActs_noted grows acts

end Sys2Proof.Machine
end

section
/-! PROOF. A REQUEST frame of the district link (R173 to R176). -/

namespace Sys2Proof.Machine
open Sys2Proof.Safety

theorem exec_requestFrame (instant : Nat) (x : Sample) (f : Frame) (s : State) :
    exec (.requestFrame instant x f) s = .next (finish (receiveFrame instant f (takeSample x (reachInstant instant s)))) := by
  exact conclude_eq (receiveFrame instant f) (takeSample x (reachInstant instant s))

/-- A good REQUEST frame for the tower is routed to the remote requests (R156). -/
theorem receiveFrame_request {instant : Nat} {f : Frame} {s : State} (line : s.link.line ≠ .sending) (check : frameCheckOk f = true)
    (kind : f.kind = 2) (dest : f.dest.toNat = s.gs.towerAddress) (src : f.src = 0) :
    receiveFrame instant f s = takeRequestFrame instant f.seq f.body (lineQuiet s) := by
  have checked : ¬ frameCheckOk f = false := by rw [check]; exact Bool.noConfusion
  have no_opener : ¬ (f.kind = 1 ∧ f.dest = 255 ∧ f.src = 0) := fun c => absurd (kind.symm.trans c.1) (by decide)
  unfold receiveFrame
  rw [if_neg line]; dsimp only
  rw [if_neg checked, if_neg no_opener]
  exact if_pos ⟨kind, dest, src⟩

/-! ### The frame's slot -/

theorem requestTaken_iff {s : State} {instant : Nat} :
    requestTaken s instant = true ↔
      s.clock.trust = .synced ∧
        ∃ r, s.link.round = some r ∧ r.start + r.slotLength ≤ instant ∧ instant ≤ r.start + 2 * r.slotLength := by
  unfold requestTaken
  rw [Bool.and_eq_true, decide_eq_true_iff]
  refine and_congr_right fun _ => ?_
  cases s.link.round <;> simp

section
variable {instant : Nat} {seq : Byte} {b : List Byte} {s : State}

theorem takeRequestFrame_out (h : requestTaken s instant = false) : takeRequestFrame instant seq b s = s :=
  if_neg (by rw [h]; exact Bool.false_ne_true)

theorem takeRequestFrame_pending (h : requestTaken s instant = true) {a : Answer} (ha : s.remote.answer = some a) :
    takeRequestFrame instant seq b s =
      { s with remote := { s.remote with answer := some { a with refused := some seq } } } := by
  unfold takeRequestFrame
  rw [if_pos h, ha]

theorem takeRequestFrame_carried (h : requestTaken s instant = true) (ha : s.remote.answer = none) :
    takeRequestFrame instant seq b s = carryRemote seq b s := by
  unfold takeRequestFrame
  rw [if_pos h, ha]

/-! ### The request read -/

theorem linkCode_iff {n : Nat} :
    linkCode n = true ↔ n ∈ [0x01, 0x02, 0x03, 0x04, 0x05, 0x10, 0x11, 0x12, 0x13, 0x14, 0x20, 0x21, 0x22, 0x23] := List.contains_iff_mem

theorem linkRequest_empty : linkRequest s [] = .inl .notHere := rfl

variable {k : Byte} {rest : List Byte}

theorem linkRequest_barred (h : linkCode k.toNat = false) : linkRequest s (k :: rest) = .inl .notHere := by
  refine if_pos ?_
  show (false || !linkCode k.toNat) = true
  rw [h]; rfl

theorem linkRequest_short (h : linkCode k.toNat = true) (hr : rest.length < 3) : linkRequest s (k :: rest) = .inl .invalid := by
  have permitted : ¬ ((k :: rest).isEmpty || !linkCode (at8 (k :: rest) 0)) = true := by
    show ¬ (false || !linkCode k.toNat) = true
    rw [h]; exact Bool.false_ne_true
  unfold linkRequest
  rw [if_neg permitted, if_pos (by rw [List.length_cons]; omega)]

theorem linkRequest_read {flags order expected : Byte} (h : linkCode k.toNat = true) :
    linkRequest s (k :: flags :: order :: expected :: b) =
      (parseRequest s k.toNat flags.toNat order.toNat expected.toNat b).elim (.inl .invalid) .inr := by
  have permitted : ¬ ((k :: flags :: order :: expected :: b).isEmpty || !linkCode (at8 (k :: flags :: order :: expected :: b) 0)) = true := by
    show ¬ (false || !linkCode k.toNat) = true
    rw [h]; exact Bool.false_ne_true
  unfold linkRequest
  rw [if_neg permitted, if_neg (by simp only [List.length_cons]; omega)]
  show (match parseRequest s k.toNat flags.toNat order.toNat expected.toNat b with | some q => Sum.inr q | none => Sum.inl ResultCode.invalid) = _
  cases parseRequest s k.toNat flags.toNat order.toNat expected.toNat b <;> rfl

/-! ### The request carried out -/

theorem carryRemote_refused {c : ResultCode} (h : linkRequest s b = .inl c) :
    carryRemote seq b s =
      leaveAnswer seq ((b[0]?).getD 0) (plain c) (answerSlotBegun s) { s with lastResult := some (plain c) } := by
  unfold carryRemote
  rw [h]

theorem carryRemote_carried {q : Request} (h : linkRequest s b = .inr q) :
    carryRemote seq b s =
      leaveAnswer seq ((b[0]?).getD 0) (carryOut .district q s).2 (answerSlotBegun s) (takeRequest .district q s) := by
  unfold carryRemote
  rw [h]

end

/-- Settles O31: the slot, the pending answer, the checks of the body in their order, and the request carried out. -/
theorem requestFrameTaken : Obligations.RequestFrameTaken := by
  intro instant x f s line check kind dest src s0 inSlot leaves
  have taken_iff : requestTaken s0 instant = true ↔ inSlot := requestTaken_iff (s := s0)
  have received : exec (.requestFrame instant x f) s = .next (finish (takeRequestFrame instant f.seq f.body s0)) := by
    rw [exec_requestFrame, receiveFrame_request (s := takeSample x (reachInstant instant s)) line check kind dest src]
    rfl
  refine ⟨fun h => ?_, fun h a ha => ?_, fun h ha => ?_⟩
  · have out : requestTaken s0 instant = false := by rw [← Bool.not_eq_true]; exact mt taken_iff.1 h
    rw [received, takeRequestFrame_out out]
  · rw [received, takeRequestFrame_pending (taken_iff.2 h) (s := s0) ha]; rfl
  intro refused permitted
  have carried : exec (.requestFrame instant x f) s = .next (finish (carryRemote f.seq f.body s0)) := by
    rw [received, takeRequestFrame_carried (taken_iff.2 h) (s := s0) ha]
  have refuse {c : ResultCode} (hc : linkRequest s0 f.body = .inl c) : refused c :=
    carried.trans (congrArg (fun t => Host.Outcome.next (finish t)) (carryRemote_refused hc))
  refine ⟨fun hb => refuse (by rw [hb]; exact linkRequest_empty), fun k rest hb => ⟨fun hk => ?_, fun hk hr => ?_, ?_⟩⟩
  · have barred : linkCode k.toNat = false := by rw [← Bool.not_eq_true]; exact mt linkCode_iff.1 hk
    exact refuse (by rw [hb]; exact linkRequest_barred barred)
  · exact refuse (by rw [hb]; exact linkRequest_short (linkCode_iff.2 hk) hr)
  intro flags order expected b hk hr request
  have read : linkRequest s0 f.body = request.elim (.inl .invalid) .inr := by
    rw [hb, hr]; exact linkRequest_read (linkCode_iff.2 hk)
  refine ⟨fun hn => refuse (by rw [read, hn]; rfl), fun q hq => ⟨?_, takeRequest_lastResult _ _ _⟩⟩
  exact carried.trans (congrArg (fun t => Host.Outcome.next (finish t)) (carryRemote_carried (by rw [read, hq]; rfl)))

end Sys2Proof.Machine
end

section
/-! PROOF. A frame due while the adopted time changes the book: a removed order's frame loses its record (R161, R170). -/

namespace Sys2Proof.Machine
open Sys2Proof.Safety

/-- A frame due as it was, or without the record of an order that has left the book. -/
def Faded (d e : FrameDue) : Prop :=
  e = d ∨ ∃ n round, d.content = .report (some n) round ∧ e = { d with content := .report none round }

/-- The frame due of a state, once orders may have left the book. -/
structure Fades (s t : State) : Prop where
  none : s.link.frameDue = none → t.link.frameDue = none
  some : ∀ d, s.link.frameDue = some d → ∃ e, t.link.frameDue = some e ∧ Faded d e

theorem Faded.trans {d e f : FrameDue} (h : Faded d e) (h' : Faded e f) : Faded d f := by
  rcases h with rfl | ⟨n, round, hd, rfl⟩
  · exact h'
  · rcases h' with rfl | ⟨m, r, he, -⟩
    · exact .inr ⟨n, round, hd, rfl⟩
    · exact absurd he nofun

theorem fades_of_link {s t : State} (h : t.link.frameDue = s.link.frameDue) : Fades s t :=
  ⟨fun hn => h.trans hn, fun d hd => ⟨d, h.trans hd, .inl rfl⟩⟩

theorem Fades.trans {s t u : State} (h : Fades s t) (h' : Fades t u) : Fades s u := by
  refine ⟨fun hn => h'.none (h.none hn), fun d hd => ?_⟩
  obtain ⟨e, he, hde⟩ := h.some d hd
  obtain ⟨f, hf, hef⟩ := h'.some e he
  exact ⟨f, hf, hde.trans hef⟩

theorem fades_of_low {s t : State} (h : low t = low s) : Fades s t := fades_of_link (congrArg Link.frameDue (low_link h))

theorem foldl_fades {α : Type} {f : State → α → State} (h : ∀ s a, Fades s (f s a)) (l : List α) (s : State) :
    Fades s (l.foldl f s) :=
  foldl_keeps (Fades s) f (fun t a ht => ht.trans (h t a)) l s (fades_of_link rfl)

theorem forgetFrame_faded (n : Nat) (d : FrameDue) : Faded d (forgetFrame n d) := by
  unfold forgetFrame; split
  · rename_i m r hc
    split
    · exact .inr ⟨m, r, hc, rfl⟩
    · exact .inl rfl
  · exact .inl rfl

theorem removeRecord_fades (n : Nat) (s : State) : Fades s (removeRecord n s) :=
  ⟨fun h => congrArg (Option.map (forgetFrame n)) h,
    fun d h => ⟨forgetFrame n d, congrArg (Option.map (forgetFrame n)) h, forgetFrame_faded n d⟩⟩

theorem bookChanged_fades (n : Nat) (s : State) : Fades s (bookChanged n s) :=
  fades_of_link (by unfold bookChanged; dsimp only; split <;> rfl)

/-! ### The ends of the day -/

theorem runEnded_fades (n : Nat) (f : FillRecord) (s : State) : Fades s (runEnded n f s) := by
  unfold runEnded; split
  · unfold endRun
    exact (fades_of_low (stopCommand_low f.pump false s)).trans (fades_of_link rfl)
  · exact fades_of_link rfl

theorem serveOn_fades (day n : Nat) (o : Served) (s : State) : Fades s (serveOn day n o s) := by
  cases hf : findFill n s with
  | none =>
    unfold serveOn; split
    · rename_i k origin v f hr
      rw [findFill_of_record hr rfl] at hf
      exact absurd hf nofun
    · exact fades_of_link rfl
  | some f =>
    obtain ⟨r, hr, hb⟩ := findFill_eq_some.1 hf
    rw [serveOn_eq day n o hr hb]; dsimp only
    have written : Fades s (putFill n (servedFill day o f) (runEnded n f s)) :=
      (runEnded_fades n f s).trans (fades_of_link rfl)
    generalize putFill n (servedFill day o f) (runEnded n f s) = t at written
    refine Fades.trans ?_ (bookChanged_fades n _)
    have counted : Fades s (if r.origin = .system then t else countOutcome o t) := by
      split
      · exact written
      · exact written.trans (fades_of_link rfl)
    generalize (if r.origin = .system then t else countOutcome o t) = u at counted
    have flagged : Fades s (if o = .reached then u else setEvent .outcome u) := by
      split
      · exact counted
      · exact counted.trans (fades_of_link rfl)
    generalize (if o = .reached then u else setEvent .outcome u) = v at flagged
    have told := flagged.trans (fades_of_link (t := emit (.served (f.context.map (·.first))) v) rfl)
    split
    · exact told.trans (removeRecord_fades n _)
    · exact told

theorem serveHeatOn_fades (day n : Nat) (h : HeatRecord) (s : State) : Fades s (serveHeatOn day n h s) := by
  have put (g : HeatRecord) : Fades s (putHeat n g s) := fades_of_link rfl
  unfold serveHeatOn; dsimp only
  refine Fades.trans ?_ (bookChanged_fades n _)
  split
  · exact (put _).trans (removeRecord_fades n _)
  · exact put _

theorem closeOrder_fades (day : Nat) (s : State) (n : Nat) : Fades s (closeOrder day s n) := by
  unfold closeOrder; repeat' split
  all_goals first
    | exact fades_of_link rfl
    | exact serveOn_fades _ _ _ _
    | exact serveHeatOn_fades _ _ _ _

theorem renewOrder_fades (old new : Nat) (s : State) (n : Nat) : Fades s (renewOrder old new s n) := by
  unfold renewOrder; repeat' split
  all_goals first
    | exact fades_of_link rfl
    | exact serveOn_fades _ _ _ _
    | exact serveHeatOn_fades _ _ _ _

theorem emit_fades (n : Note) (s : State) : Fades s (emit n s) := fades_of_link rfl
theorem clearOutcomes_fades (s : State) : Fades s (clearOutcomes s) := fades_of_link rfl
theorem jumpAnnounced_fades (m : Nat) (s : State) : Fades s (jumpAnnounced m s) := fades_of_link rfl

theorem rollover_fades (old new : Nat) (s : State) : Fades s (rollover old new s) := by
  have closed : Fades s (closeDay old s) := (foldl_fades (closeOrder_fades old) _ s).trans (clearOutcomes_fades _)
  have renewed (t : State) : Fades t (newDay old new t) := (foldl_fades (renewOrder_fades old new) _ t).trans (clearOutcomes_fades _)
  have cleared (t : State) : Fades t (tallyCleared t) := by
    refine fades_of_link ?_
    unfold tallyCleared judgeAllowance
    split <;> rfl
  have refreshed (t : State) : Fades t (refreshSetpoints t) := fades_of_low (refreshSetpoints_low t)
  rw [rollover_eq]
  exact ((((closed.trans (renewed _)).trans (cleared _)).trans (refreshed _)).trans (emit_fades _ _)).trans (emit_fades _ _)

theorem adoptTime_fades (d m x : Nat) (b : Bool) (s : State) : Fades s (adoptTime d m x b s) := by
  unfold adoptTime; split
  · refine fades_of_link ?_
    unfold adjustTime; dsimp only; repeat' split
    all_goals rfl
  · have jumps : Fades s (jumped d m x s) := fades_of_link rfl
    by_cases h : d = s.clock.day
    · rw [discontinuity_sameDay m x h]
      exact jumps.trans (jumpAnnounced_fades m _)
    · rw [discontinuity_otherDay m x h]
      exact (jumps.trans (rollover_fades _ _ _)).trans (jumpAnnounced_fades m _)

end Sys2Proof.Machine
end

section
/-! PROOF. The opener of a round (R35, R37, R38, R157, R158, R175, R180). -/

namespace Sys2Proof.Machine
open Sys2Proof.Safety

/-! ### An opener judged -/

theorem openerInRange_iff {o : OpenerFields} :
    openerInRange o = true ↔
      o.round ≤ 63 ∧ o.rank ≤ 7 ∧ 250 ≤ o.slotLength ∧ o.slotLength ≤ 2000 ∧ o.minute ≤ 1439 ∧ o.second ≤ 59 := by
  simp [openerInRange, and_assoc]

theorem periodPassed_iff {s : State} {instant t : Nat} :
    periodPassed s instant t = true ↔
      s.clock.roundPeriod < instant - t ∨ (instant - t = s.clock.roundPeriod ∧ s.choice % 2 = 0) := by
  simp [periodPassed]

/-- What accepts an opener (R157). -/
theorem openerAccepted_iff {s : State} {instant : Nat} {o : OpenerFields} :
    openerAccepted s instant o = true ↔
      s.clock.trust ≠ .synced ∨ o.rank ≤ s.clock.rank ∨ s.clock.lastOpener = none ∨
        ∃ t, s.clock.lastOpener = some t ∧
          (s.clock.roundPeriod < instant - t ∨ (instant - t = s.clock.roundPeriod ∧ s.choice % 2 = 0)) := by
  unfold openerAccepted
  by_cases ht : s.clock.trust = .synced
  · rw [ht]
    cases hl : s.clock.lastOpener with
    | none => simp
    | some t => simp [periodPassed_iff]
  · cases h : s.clock.trust with
    | synced => exact absurd h ht
    | _ => simp

theorem takeOpener_unread {instant : Nat} {b : List Byte} (h : openerFields b = none) (s : State) : takeOpener instant b s = s := by
  unfold takeOpener
  rw [h]

theorem takeOpener_rejected {instant : Nat} {b : List Byte} {o : OpenerFields} {s : State} (h : openerFields b = some o)
    (no : ¬ (openerAccepted s instant o = true ∧ openerInRange o = true)) :
    takeOpener instant b s = { s with choice := s.choice / 2 } := by
  unfold takeOpener
  rw [h]
  exact if_neg fun c => no ((Bool.and_eq_true _ _).mp c).symm

theorem takeOpener_accepted {instant : Nat} {b : List Byte} {o : OpenerFields} {s : State} (h : openerFields b = some o)
    (yes : openerAccepted s instant o = true) (range : openerInRange o = true) :
    takeOpener instant b s =
      openRound instant o
        (clockTakesOpener instant o.day o.minute o.second o.rank o.timeSet { s with choice := s.choice / 2 }) := by
  unfold takeOpener
  rw [h]
  exact if_pos ((Bool.and_eq_true _ _).mpr ⟨range, yes⟩)

/-- The opener's ten bytes, and no other length (R199). -/
theorem openerFields_none {b : List Byte} (h : b.length ≠ 10) : openerFields b = none := if_neg h

/-- A good OPENER frame is routed to the opener's judgement (R156). -/
theorem receiveFrame_opener {instant : Nat} {f : Frame} {s : State} (line : s.link.line ≠ .sending) (check : frameCheckOk f = true)
    (kind : f.kind = 1) (dest : f.dest = 255) (src : f.src = 0) :
    receiveFrame instant f s = takeOpener instant f.body (lineQuiet s) := by
  have checked : ¬ frameCheckOk f = false := by rw [check]; exact Bool.noConfusion
  unfold receiveFrame
  rw [if_neg line]; dsimp only
  rw [if_neg checked]
  exact if_pos ⟨kind, dest, src⟩

theorem exec_opener (instant : Nat) (f : Frame) (s : State) :
    exec (.opener instant f) s = .next (finish (receiveFrame instant f (reachInstant instant s))) := by
  exact conclude_eq (receiveFrame instant f) (reachInstant instant s)

/-! ### The clock takes the opener -/

/-- Trust goes to SYNCED (R34, R43). -/
def trustSynced (s : State) : State :=
  { s with
    clock := { s.clock with
      trust := .synced
      band := if s.clock.trust = .free then calendarBand s.clock.minute s.store.calendar else s.clock.band }
    events := if s.clock.trust = .synced then s.events else s.events ||| flagMask .time }

theorem takeTrust_synced (s : State) : takeTrust .synced s = trustSynced s := by
  unfold takeTrust trustSynced
  cases ht : s.clock.trust with
  | synced => simp only [reduceCtorEq, if_true, if_false]; rw [← ht]
  | free => simp [bandNow, setEvent]
  | _ => simp [setEvent]

/-- A change of the head's rank sets TIME (R37). -/
def ranked (rank : Nat) (s : State) : State := if rank = s.clock.rank then s else setEvent .time s

/-- The clock with the opener's rank and instant, before it adopts the time. -/
def adopting (instant rank : Nat) (s : State) : State :=
  let t := trustSynced (ranked rank s)
  { t with clock := { t.clock with
      roundPeriod := newRoundPeriod s.clock instant, lastOpener := some instant, holdover := 0, rank := rank } }

theorem clockTakesOpener_eq (instant d m x rank : Nat) (b : Bool) (s : State) :
    clockTakesOpener instant d m x rank b s = announceTrust s.clock.trust (adoptTime d m x b (adopting instant rank s)) := by
  unfold clockTakesOpener adopting ranked
  dsimp only
  rw [takeTrust_synced]

section
variable (instant rank : Nat) (s : State)

theorem ranked_cases : ranked rank s = s ∨ ranked rank s = setEvent .time s := by
  unfold ranked; split
  · exact .inl rfl
  · exact .inr rfl

theorem adopting_eq :
    adopting instant rank s =
      { s with
        clock := { s.clock with
          trust := .synced, rank := rank, lastOpener := some instant, holdover := 0,
          roundPeriod := newRoundPeriod s.clock instant,
          band := if s.clock.trust = .free then calendarBand s.clock.minute s.store.calendar else s.clock.band }
        events := (adopting instant rank s).events } := by
  unfold adopting
  rcases ranked_cases rank s with e | e <;> rw [e] <;> rfl

/-- A new trust or a new rank sets TIME (R37). -/
theorem adopting_event (h : s.clock.trust ≠ .synced ∨ rank ≠ s.clock.rank) : eventIsSet .time (adopting instant rank s) = true := by
  have raised (t : State) (e : BitVec 17) (ht : t.events = e ||| flagMask .time) : eventIsSet .time t = true := by
    rw [eventIsSet_congr (s := setEvent .time { t with events := e }) ht]
    exact eventIsSet_setEvent _ _
  by_cases ht : s.clock.trust = .synced
  · have hr : rank ≠ s.clock.rank := h.resolve_left (not_not.2 ht)
    refine raised _ s.events ?_
    unfold adopting ranked
    rw [if_neg hr]
    exact if_pos ht
  · refine raised _ (ranked rank s).events ?_
    unfold adopting
    refine if_neg ?_
    rcases ranked_cases rank s with e | e <;> rw [e] <;> exact ht

theorem newRoundPeriod_kept {c : Clock} (h : c.trust ≠ .synced) : newRoundPeriod c instant = c.roundPeriod := by
  unfold newRoundPeriod
  cases ht : c.trust with
  | synced => exact absurd ht h
  | _ => rfl

theorem newRoundPeriod_measured {c : Clock} {t : Nat} (h : c.trust = .synced) (hl : c.lastOpener = some t) :
    newRoundPeriod c instant = min 4294967295 (max 1 (instant - t)) := by
  unfold newRoundPeriod
  rw [h, hl]

end

theorem announceTrust_grows (x : Trust) (s : State) : Grows s (announceTrust x s) := by
  unfold announceTrust; split
  · exact Grows.refl s
  · exact emit_grows _ _

/-! ### The round opens -/

/-- The frame due that outlives the opener (R170): none, or the one whose instant of sending is the opener's own end. -/
theorem dueWithOpener_some {instant : Nat} {d : FrameDue} :
    dueWithOpener instant (some d) = if d.due = instant then some d else none := by
  unfold dueWithOpener
  by_cases h : d.due = instant <;> simp [h]

theorem Faded.due {d e : FrameDue} (h : Faded d e) : e.due = d.due := by
  rcases h with rfl | ⟨n, round, -, rfl⟩ <;> rfl

theorem Faded.content {d e : FrameDue} (h : Faded d e) :
    ∃ k, e = { d with content := k } ∧ (k = d.content ∨ ∃ n round, d.content = .report (some n) round ∧ k = .report none round) := by
  rcases h with rfl | ⟨n, round, hc, rfl⟩
  · exact ⟨e.content, rfl, .inl rfl⟩
  · exact ⟨_, rfl, .inr ⟨n, round, hc, rfl⟩⟩

/-- What an opener leaves of the frame due, orders that left the book forgotten in it. -/
theorem openRound_frameDue {instant : Nat} {o : OpenerFields} {s t : State} (h : Fades s t) :
    (s.link.frameDue = none → (openRound instant o t).link.frameDue = none) ∧
      ∀ d, s.link.frameDue = some d →
        (d.due ≠ instant → (openRound instant o t).link.frameDue = none) ∧
        (d.due = instant → ∃ k, (openRound instant o t).link.frameDue = some { d with content := k } ∧
          (k = d.content ∨ ∃ n round, d.content = .report (some n) round ∧ k = .report none round)) := by
  refine ⟨fun hn => ?_, fun d hd => ?_⟩
  · show dueWithOpener instant t.link.frameDue = none
    rw [h.none hn]; rfl
  · obtain ⟨e, he, faded⟩ := h.some d hd
    obtain ⟨k, hk, content⟩ := faded.content
    have left : (openRound instant o t).link.frameDue = if d.due = instant then some e else none := by
      show dueWithOpener instant t.link.frameDue = _
      rw [he, dueWithOpener_some, faded.due]
    refine ⟨fun hne => left.trans (if_neg hne), fun heq => ⟨k, ?_, content⟩⟩
    rw [← hk]
    exact left.trans (if_pos heq)

theorem countRound_eq (r : Remote) :
    countRound r =
      { answer := r.answer.map (fun a => { a with heldOver := false })
        unlocked := r.unlocked && decide (1 < r.unlockLeft)
        unlockLeft := if r.unlocked then r.unlockLeft - 1 else r.unlockLeft
        refusalLeft := r.refusalLeft - 1 } := by
  have left : decide (0 < r.unlockLeft - 1) = decide (1 < r.unlockLeft) := decide_eq_decide.2 (by omega)
  unfold countRound
  dsimp only
  rw [left]

theorem openerFields_bytes (n d d' m m' x k g l l' : Byte) :
    openerFields [n, d, d', m, m', x, k, g, l, l'] =
      some { round := n.toNat, day := d.toNat * 256 + d'.toNat, minute := m.toNat * 256 + m'.toNat, second := x.toNat,
             rank := k.toNat, timeSet := decide (g.toNat % 2 = 1), slotLength := l.toNat * 256 + l'.toNat } := by
  refine (if_pos (rfl : [n, d, d', m, m', x, k, g, l, l'].length = 10)).trans ?_
  simp [at8, at16, bitSet]

end Sys2Proof.Machine
end

section
/-! PROOF. An opener accepted opens its round with the clock's time adopted; any other opens none (R157, R158). -/

namespace Sys2Proof.Machine
open Sys2Proof.Safety

section
variable (instant : Nat) (o : OpenerFields) (s : State)

/-- The state at the opener's time, and with the time adopted and the trust announced. -/
def timeTaken : State := clockTakesOpener instant o.day o.minute o.second o.rank o.timeSet s

theorem timeTaken_eq :
    timeTaken instant o s =
      announceTrust s.clock.trust (adoptTime o.day o.minute o.second o.timeSet (adopting instant o.rank s)) :=
  clockTakesOpener_eq instant o.day o.minute o.second o.rank o.timeSet s

theorem timeTaken_clock :
    (timeTaken instant o s).clock = (adoptTime o.day o.minute o.second o.timeSet (adopting instant o.rank s)).clock := by
  rw [timeTaken_eq, announceTrust_clock]

theorem timeTaken_book :
    (timeTaken instant o s).book = (adoptTime o.day o.minute o.second o.timeSet (adopting instant o.rank s)).book := by
  rw [timeTaken_eq, announceTrust_book]

theorem timeTaken_still : still (timeTaken instant o s) = still (adopting instant o.rank s) := by
  rw [timeTaken_eq, announceTrust_still, adoptTime_still]

theorem timeTaken_agenda :
    (timeTaken instant o s).agenda =
      (adoptTime o.day o.minute o.second o.timeSet (adopting instant o.rank s)).agenda ++
        (if s.clock.trust = .synced then [] else [.evalFill]) := by
  have trust : (adoptTime o.day o.minute o.second o.timeSet (adopting instant o.rank s)).clock.trust = .synced :=
    (congrArg Still.trust (adoptTime_still o.day o.minute o.second o.timeSet (adopting instant o.rank s))).trans
      (congrArg (fun t => t.clock.trust) (adopting_eq instant o.rank s))
  rw [timeTaken_eq, announceTrust_agenda, trust]
  exact congrArg _ (if_congr eq_comm rfl rfl)

theorem timeTaken_grows : Grows (adopting instant o.rank s) (timeTaken instant o s) := by
  rw [timeTaken_eq]
  exact (adoptTime_grows _ _ _ _ _).trans (announceTrust_grows _ _)

theorem timeTaken_fades : Fades s (timeTaken instant o s) := by
  have due : (adopting instant o.rank s).link.frameDue = s.link.frameDue := by rw [adopting_eq]
  rw [timeTaken_eq]
  exact ((fades_of_link due).trans (adoptTime_fades _ _ _ _ _)).trans
    (fades_of_link (congrArg Link.frameDue (announceTrust_keeps_link _ _)))

/-- What the clock keeps of the head, and what the round and the remote requests are opened with. -/
theorem timeTaken_parts :
    (timeTaken instant o s).clock.trust = .synced ∧ (timeTaken instant o s).clock.rank = o.rank ∧
      (timeTaken instant o s).clock.lastOpener = some instant ∧ (timeTaken instant o s).clock.holdover = 0 ∧
      (timeTaken instant o s).clock.roundPeriod = newRoundPeriod s.clock instant ∧ (timeTaken instant o s).gs = s.gs ∧
      (timeTaken instant o s).link.line = s.link.line ∧ (timeTaken instant o s).remote = s.remote := by
  have kept : still (timeTaken instant o s) =
      { still s with
        trust := .synced, rank := o.rank, lastOpener := some instant, holdover := 0,
        roundPeriod := newRoundPeriod s.clock instant } := by
    rw [timeTaken_still, adopting_eq]; rfl
  generalize timeTaken instant o s = t at kept
  exact ⟨congrArg Still.trust kept, congrArg Still.rank kept, congrArg Still.lastOpener kept, congrArg Still.holdover kept,
    congrArg Still.roundPeriod kept, congrArg Still.gs kept, congrArg Still.line kept, congrArg Still.remote kept⟩

end

/-- Settles O30: an opener judged by its rank, its instant and its ranges; the body by its ten bytes. -/
theorem openerJudged : Obligations.OpenerJudged := by
  refine ⟨fun instant f o s line check kind dest src fields => ?_, openerFields_bytes, fun instant f s line check kind dest src short => ?_⟩
  · intro c s0 u accepted inRange
    have routed : u = takeOpener instant f.body (lineQuiet (reachInstant instant s)) :=
      receiveFrame_opener (s := reachInstant instant s) line check kind dest src
    have exec_eq : exec (.opener instant f) s = .next (finish u) := exec_opener instant f s
    have accepted_iff : openerAccepted (lineQuiet (reachInstant instant s)) instant o = true ↔ accepted := openerAccepted_iff
    clear_value u
    refine ⟨fun yes range => ?_, fun no => ?_⟩
    · have opens : u = openRound instant o (timeTaken instant o s0) :=
        routed.trans (takeOpener_accepted fields (accepted_iff.2 yes) (openerInRange_iff.2 range))
      obtain ⟨trust, rank, last, holdover, period, gs, quiet, remote⟩ := timeTaken_parts instant o s0
      have clock := timeTaken_clock instant o s0
      have book := timeTaken_book instant o s0
      have agenda := timeTaken_agenda instant o s0
      have grows := timeTaken_grows instant o s0
      have due := openRound_frameDue (instant := instant) (o := o) (timeTaken_fades instant o s0)
      have before := adopting_eq instant o.rank s0
      have event := adopting_event instant o.rank s0
      generalize timeTaken instant o s0 = w at opens trust rank last holdover period gs quiet remote clock book agenda grows due
      generalize adopting instant o.rank s0 = v at clock book agenda grows before event
      subst opens
      refine ⟨exec_eq, trust, rank, last, holdover, fun ht => ?_, fun t ht hl => ?_, fun h => ?_,
        ⟨v, ?_, ?_, ?_, ?_, ?_, ?_, ?_, clock, book, agenda⟩, rfl, congrArg (fun g : GuardSet => some g.answerSlot) gs, quiet,
        due.1, due.2, rfl, ?_⟩
      · exact period.trans (newRoundPeriod_kept instant ht)
      · exact period.trans (newRoundPeriod_measured instant ht hl)
      · exact grows.events _ (event h)
      · rw [show (openRound instant o w).clock.roundPeriod = _ from period]
        exact congrArg State.clock before
      · exact (congrArg State.book before).trans rfl
      · exact (congrArg State.pumps before).trans rfl
      · exact (congrArg State.gs before).trans rfl
      · exact (congrArg State.store before).trans rfl
      · exact (congrArg State.agenda before).trans rfl
      · exact (congrArg State.choice before).trans rfl
      · rw [finish_remote]
        show countRound w.remote = _
        exact (congrArg countRound remote).trans (countRound_eq s0.remote)
    · have rejects : u = s0 :=
        routed.trans (takeOpener_rejected fields fun h => no ⟨accepted_iff.1 h.1, openerInRange_iff.1 h.2⟩)
      rw [exec_eq, rejects]
  · rw [exec_opener, receiveFrame_opener (s := reachInstant instant s) line check kind dest src,
      takeOpener_unread (openerFields_none short)]
    rfl

end Sys2Proof.Machine
end

section
/-! PROOF. A cabinet frame as it ends (R184, R185). -/

namespace Sys2Proof.Machine
open Sys2Proof.Safety

/-! ### A frame judged -/

theorem knownCode_iff {n : Nat} :
    knownCode n = true ↔
      n ∈ [0x01, 0x02, 0x03, 0x04, 0x05, 0x10, 0x11, 0x12, 0x13, 0x14, 0x15, 0x20, 0x21, 0x22, 0x23, 0x24, 0x30, 0x31] :=
  List.contains_iff_mem

theorem requestSumOk_iff {sdi : List Byte} :
    requestSumOk sdi = true ↔ (sdi.take (5 + at8 sdi 4)).foldl (· + ·) 0 = (sdi[5 + at8 sdi 4]?).getD 0 := decide_eq_true_iff

/-- A frame long enough for its header, its body and its sum (R185). -/
def LongEnough (sdi : List Byte) : Prop := 5 ≤ sdi.length ∧ at8 sdi 4 ≤ 96 ∧ 6 + at8 sdi 4 ≤ sdi.length

section
variable {sdi : List Byte} {s : State}

theorem judgeCabinetFrame_idle (h : sdi = [] ∨ at8 sdi 0 = 0) : judgeCabinetFrame sdi s = idlePort s := by
  refine if_pos ?_
  rcases h with rfl | h
  · rfl
  · rw [h]; exact Bool.or_true _

/-- A frame with a request code, past the check of its length (R185). -/
theorem judgeCabinetFrame_unidle (coded : at8 sdi 0 ≠ 0) : ¬ (sdi.isEmpty || decide (at8 sdi 0 = 0)) = true := by
  have filled : sdi ≠ [] := fun e => coded (by rw [e]; rfl)
  rw [Bool.or_eq_true, decide_eq_true_iff, List.isEmpty_iff]
  exact fun h => h.elim filled coded

theorem tooShort_iff : (decide (sdi.length < 5) || decide (96 < at8 sdi 4) || decide (sdi.length < 6 + at8 sdi 4)) = true ↔
    ¬ LongEnough sdi := by
  unfold LongEnough
  simp only [Bool.or_eq_true, decide_eq_true_iff]
  omega

variable (coded : at8 sdi 0 ≠ 0)
include coded

theorem judgeCabinetFrame_short (h : ¬ LongEnough sdi) : judgeCabinetFrame sdi s = holdResponse (plain .frameError) s := by
  unfold judgeCabinetFrame
  rw [if_neg (judgeCabinetFrame_unidle coded), if_pos (tooShort_iff.2 h)]

variable (long : LongEnough sdi)
include long

theorem judgeCabinetFrame_sum (h : requestSumOk sdi = false) : judgeCabinetFrame sdi s = holdResponse (plain .frameError) s := by
  unfold judgeCabinetFrame
  rw [if_neg (judgeCabinetFrame_unidle coded), if_neg (fun c => tooShort_iff.1 c long), if_pos h]

variable (sum : requestSumOk sdi = true)
include sum

theorem judgeCabinetFrame_unknown (h : knownCode (at8 sdi 0) = false) :
    judgeCabinetFrame sdi s = holdResponse (plain .unknown) s := by
  unfold judgeCabinetFrame
  rw [if_neg (judgeCabinetFrame_unidle coded), if_neg (fun c => tooShort_iff.1 c long),
    if_neg (by rw [sum]; exact Bool.noConfusion), if_pos h]

theorem judgeCabinetFrame_known (h : knownCode (at8 sdi 0) = true) :
    judgeCabinetFrame sdi s =
      if at8 sdi 0 = 0x20 then holdResponse (plain .notHere) s
      else (parseRequest s (at8 sdi 0) (at8 sdi 1) (at8 sdi 2) (at8 sdi 3) ((sdi.drop 5).take (at8 sdi 4))).elim
        (holdResponse (plain .invalid) s) (fun q => handRequest q s) := by
  unfold judgeCabinetFrame
  rw [if_neg (judgeCabinetFrame_unidle coded), if_neg (fun c => tooShort_iff.1 c long),
    if_neg (by rw [sum]; exact Bool.noConfusion), if_neg (by rw [h]; exact Bool.noConfusion)]
  refine if_congr Iff.rfl rfl ?_
  cases parseRequest s (at8 sdi 0) (at8 sdi 1) (at8 sdi 2) (at8 sdi 3) ((sdi.drop 5).take (at8 sdi 4)) <;> rfl

end

/-! ### The port as it was when the frame began -/

/-- The port with the frame's bytes let go. -/
def unclocked (s : State) : State := { s with cabinet := { s.cabinet with clocked := none } }

section
variable {sdi : List Byte} {s : State} {c : Clocked} (hc : s.cabinet.clocked = some c)
include hc

theorem endCabinetFrame_taken (h : c.atBegin = .idle ∨ (c.atBegin = .held ∧ c.sdo.length ≤ sdi.length)) :
    endCabinetFrame sdi s = judgeCabinetFrame sdi (unclocked s) := by
  unfold endCabinetFrame
  rw [hc]
  rcases h with h | ⟨h, hl⟩
  · simp only [h]; rfl
  · simp only [h, if_pos hl]; rfl

theorem endCabinetFrame_left (h : ¬ (c.atBegin = .idle ∨ (c.atBegin = .held ∧ c.sdo.length ≤ sdi.length))) :
    endCabinetFrame sdi s = unclocked s := by
  unfold endCabinetFrame
  rw [hc]
  cases hb : c.atBegin with
  | idle => exact absurd (.inl hb) h
  | working => simp only [hb]; rfl
  | held =>
    have short : ¬ c.sdo.length ≤ sdi.length := fun hl => h (.inr ⟨hb, hl⟩)
    simp only [hb, if_neg short]; rfl

end

end Sys2Proof.Machine
end

section
/-! PROOF. The wire form of a request's operands (R199, chapter 12.3). -/

namespace Sys2Proof.Machine
open Sys2Proof.Safety

/-! ### The pieces of a body -/

theorem bitSet_iff {n i : Nat} : bitSet n i = true ↔ n / 2 ^ i % 2 = 1 := decide_eq_true_iff

theorem bitSet_seven (x : Byte) : bitSet x.toNat 7 = true ↔ 128 ≤ x.toNat := by
  have := x.isLt
  rw [bitSet_iff]
  omega

theorem expected_iff (flags expected : Nat) :
    (if bitSet flags 0 then some expected else none) = (if flags % 2 = 1 then some expected else none) := by
  refine if_congr ?_ rfl rfl
  rw [bitSet_iff, Nat.pow_zero, Nat.div_one]

/-- A set of selectors, by the bit of each (R199). -/
def selected (x : Byte) : Option (List Selector) :=
  if 128 ≤ x.toNat then none
  else some (allSelectors.filter (fun y => x.toNat / 2 ^ selectorBit y % 2 = 1))

theorem selectorsOf_eq (x : Byte) : selectorsOf x.toNat = selected x := by
  have paired : allSelectors.zip (List.range 7) = allSelectors.map (fun y => (y, selectorBit y)) := by decide
  unfold selectorsOf selected
  refine if_congr (bitSet_seven x) rfl (congrArg some ?_)
  rw [paired, List.filterMap_map, ← List.filterMap_eq_filter]
  refine congrArg (fun f => List.filterMap f allSelectors) (funext fun y => ?_)
  simp [bitSet, Option.guard]

/-- A named field reads when it is not named, or its bytes read. -/
theorem namedField_eq {α : Type} (b : Bool) (v : Option α) :
    namedField b v = if b = true ∧ v = none then none else some (if b then v else none) := by
  cases b <;> cases v <;> simp [namedField]

/-! ### PLACE -/

theorem parsePlace_other {b : List Byte} (h0 : ¬ (b.length = 13 ∧ b.head? = some 0)) (h1 : ¬ (b.length = 11 ∧ b.head? = some 1))
    (h2 : ¬ (b.length = 5 ∧ b.head? = some 2)) : parsePlace b = none := by
  have kind {k : Byte} {n : Nat} (hn : 0 < n) (hk : at8 b 0 = k.toNat) (hl : b.length = n) : b.head? = some k := by
    cases b with
    | nil => exact absurd hl (by simp; omega)
    | cons x rest => exact congrArg some (BitVec.eq_of_toNat_eq hk)
  unfold parsePlace
  split
  · rename_i hk hl; exact absurd ⟨hl, kind (by omega) hk hl⟩ h0
  · rename_i hk hl; exact absurd ⟨hl, kind (by omega) hk hl⟩ h1
  · rename_i hk hl; exact absurd ⟨hl, kind (by omega) hk hl⟩ h2
  · rfl

theorem fillBlockAt_eq (b : List Byte) (i : Nat) :
    fillBlockAt b i = (recurrenceAt b (i + 7)).bind (fun r => (permissionOf (at8 b (i + 10))).map (fun k =>
      { pump := at8 b i, target := at16 b (i + 1), start := at16 b (i + 3), stop := at16 b (i + 5), recur := r, band := k,
        priority := at8 b (i + 11) })) := by
  unfold fillBlockAt
  cases recurrenceAt b (i + 7) <;> cases permissionOf (at8 b (i + 10)) <;> rfl

/-! ### AMEND -/

section
variable {s : State} {n : Nat} {b : List Byte}

/-- The record that an AMEND names calls for a body of this length. -/
def Fits (s : State) (n len : Nat) : Prop := ∀ r, findRecord n s = some r → amendLength r.body = len

/-- The fields of an AMEND by the length of its body. -/
def amendBody (b : List Byte) : Option AmendFields :=
  if b.length = 13 then (parseFillAmend b).map .fill
  else if b.length = 11 then (parseHeatAmend b).map .heat
  else if b.length = 5 then (parseReportAmend b).map .report
  else none

theorem amendBody_other (h : b.length ∉ [13, 11, 5]) : amendBody b = none := by
  simp only [List.mem_cons, List.not_mem_nil, or_false, not_or] at h
  obtain ⟨h1, h2, h3⟩ := h
  unfold amendBody
  rw [if_neg h1, if_neg h2, if_neg h3]

theorem parseAmend_fit (h : Fits s n b.length) : parseAmend s n b = amendBody b := by
  unfold parseAmend
  refine (if_pos ?_).trans ?_
  · cases hr : findRecord n s with
    | none => rfl
    | some r => exact decide_eq_true (h r hr).symm
  · unfold amendBody
    split
    · rename_i hl; exact (if_pos hl).symm
    · rename_i hl; simp [hl]
    · rename_i hl; simp [hl]
    · rename_i h1 h2 h3; rw [if_neg h1, if_neg h2, if_neg h3]

theorem parseAmend_unfit (h : ¬ Fits s n b.length) : parseAmend s n b = none := by
  unfold Fits at h
  push Not at h
  obtain ⟨r, hr, hne⟩ := h
  unfold parseAmend
  rw [hr]
  exact if_neg fun c => hne (of_decide_eq_true c).symm

theorem parseAmend_none (h : b.length ∉ [13, 11, 5] ∨ ¬ Fits s n b.length) : parseAmend s n b = none := by
  by_cases hf : Fits s n b.length
  · rw [parseAmend_fit hf, amendBody_other (h.resolve_right (not_not.2 hf))]
  · exact parseAmend_unfit hf

end

theorem bitSet_ite {α : Type} (n i : Nat) (a b : α) : (if bitSet n i then a else b) = if n / 2 ^ i % 2 = 1 then a else b :=
  if_congr bitSet_iff rfl rfl

section
variable {b : List Byte}

/-- A field that the mask names and that does not read (R199). -/
def Unread {α : Type} (b : List Byte) (i : Nat) (v : Option α) : Prop := at8 b 0 / 2 ^ i % 2 = 1 ∧ v = none

theorem namedField_unread {α : Type} {i : Nat} {v : Option α} (h : Unread b i v) : namedField (bitSet (at8 b 0) i) v = none := by
  obtain ⟨named, none⟩ := h
  rw [namedField_eq, if_pos ⟨bitSet_iff.2 named, none⟩]

theorem namedField_read {α : Type} {i : Nat} {v : Option α} (h : ¬ Unread b i v) :
    namedField (bitSet (at8 b 0) i) v = some (if at8 b 0 / 2 ^ i % 2 = 1 then v else none) := by
  rw [namedField_eq, if_neg fun c => h ⟨bitSet_iff.1 c.1, c.2⟩, bitSet_ite]

theorem parseFillAmend_barred
    (h : (at8 b 0 = 0 ∨ bitSet (at8 b 0) 7 = true) ∨ Unread b 4 (recurrenceAt b 8) ∨ Unread b 5 (permissionOf (at8 b 11))) :
    parseFillAmend b = none := by
  unfold parseFillAmend; dsimp only
  rcases h with h | h | h
  · rw [if_pos h]
  · split
    · rfl
    · rw [namedField_unread h]
  · split
    · rfl
    · rw [namedField_unread h]
      cases namedField (bitSet (at8 b 0) 4) (recurrenceAt b 8) <;> rfl

theorem parseFillAmend_read
    (h : ¬ ((at8 b 0 = 0 ∨ bitSet (at8 b 0) 7 = true) ∨ Unread b 4 (recurrenceAt b 8) ∨ Unread b 5 (permissionOf (at8 b 11)))) :
    parseFillAmend b = some
      { pump := if at8 b 0 / 2 ^ 0 % 2 = 1 then some (at8 b 1) else none
        target := if at8 b 0 / 2 ^ 1 % 2 = 1 then some (at16 b 2) else none
        start := if at8 b 0 / 2 ^ 2 % 2 = 1 then some (at16 b 4) else none
        stop := if at8 b 0 / 2 ^ 3 % 2 = 1 then some (at16 b 6) else none
        recur := if at8 b 0 / 2 ^ 4 % 2 = 1 then recurrenceAt b 8 else none
        band := if at8 b 0 / 2 ^ 5 % 2 = 1 then permissionOf (at8 b 11) else none
        priority := if at8 b 0 / 2 ^ 6 % 2 = 1 then some (at8 b 12) else none } := by
  simp only [not_or] at h
  obtain ⟨mask, recur, band⟩ := h
  unfold parseFillAmend; dsimp only
  rw [if_neg (not_or.2 mask), namedField_read recur, namedField_read band]
  simp only [bitSet_ite]

theorem parseHeatAmend_barred (h : (at8 b 0 = 0 ∨ 32 ≤ at8 b 0) ∨ Unread b 4 (recurrenceAt b 8)) : parseHeatAmend b = none := by
  unfold parseHeatAmend; dsimp only
  rcases h with h | h
  · rw [if_pos h]
  · split
    · rfl
    · rw [namedField_unread h]

theorem parseHeatAmend_read (h : ¬ ((at8 b 0 = 0 ∨ 32 ≤ at8 b 0) ∨ Unread b 4 (recurrenceAt b 8))) :
    parseHeatAmend b = some
      { circuit := if at8 b 0 / 2 ^ 0 % 2 = 1 then some (at8 b 1) else none
        hold := if at8 b 0 / 2 ^ 1 % 2 = 1 then some (atS16 b 2) else none
        start := if at8 b 0 / 2 ^ 2 % 2 = 1 then some (at16 b 4) else none
        stop := if at8 b 0 / 2 ^ 3 % 2 = 1 then some (at16 b 6) else none
        recur := if at8 b 0 / 2 ^ 4 % 2 = 1 then recurrenceAt b 8 else none } := by
  obtain ⟨mask, recur⟩ := not_or.1 h
  unfold parseHeatAmend; dsimp only
  rw [if_neg mask, namedField_read recur]
  simp only [bitSet_ite]

theorem parseReportAmend_barred (h : (at8 b 0 = 0 ∨ 8 ≤ at8 b 0) ∨ Unread b 2 (selectorsOf (at8 b 4))) :
    parseReportAmend b = none := by
  unfold parseReportAmend; dsimp only
  rcases h with h | h
  · rw [if_pos h]
  · split
    · rfl
    · rw [namedField_unread h]

theorem parseReportAmend_read (h : ¬ ((at8 b 0 = 0 ∨ 8 ≤ at8 b 0) ∨ Unread b 2 (selectorsOf (at8 b 4)))) :
    parseReportAmend b = some
      { slot := if at8 b 0 / 2 ^ 0 % 2 = 1 then some (at8 b 1) else none
        code := if at8 b 0 / 2 ^ 1 % 2 = 1 then some (at8 b 2, at8 b 3) else none
        contents := if at8 b 0 / 2 ^ 2 % 2 = 1 then selectorsOf (at8 b 4) else none } := by
  obtain ⟨mask, contents⟩ := not_or.1 h
  unfold parseReportAmend; dsimp only
  rw [if_neg mask, namedField_read contents]
  simp only [bitSet_ite]

end

/-! ### SET TARIFF, READ GUARD and the events -/

theorem parseEntries_cons (a b c : Byte) (rest : List Byte) :
    parseEntries (a :: b :: c :: rest) = (bandOfCode c.toNat).bind fun _ =>
      (parseEntries rest).map fun es => { start := a.toNat * 256 + b.toNat, band := c.toNat } :: es := by
  conv_lhs => unfold parseEntries
  cases bandOfCode c.toNat <;> cases parseEntries rest <;> rfl

/-- The entry of three bytes. -/
def entryOf (x : Byte × Byte × Byte) : TariffField := { start := x.1.toNat * 256 + x.2.1.toNat, band := x.2.2.toNat }

theorem parseEntries_flatMap (es : List (Byte × Byte × Byte)) :
    parseEntries (es.flatMap (fun x => [x.1, x.2.1, x.2.2])) =
      if ∀ x ∈ es, x.2.2.toNat ≤ 2 then some (es.map entryOf) else none := by
  induction es with
  | nil => simp [parseEntries]
  | cons x es ih =>
    obtain ⟨a, b, c⟩ := x
    have known : (∀ x ∈ (a, b, c) :: es, x.2.2.toNat ≤ 2) ↔ c.toNat ≤ 2 ∧ ∀ x ∈ es, x.2.2.toNat ≤ 2 := List.forall_mem_cons
    rw [List.flatMap_cons, List.cons_append, List.cons_append, List.cons_append, List.nil_append, parseEntries_cons, ih]
    by_cases hc : c.toNat ≤ 2
    · obtain ⟨k, hk⟩ := Option.isSome_iff_exists.1 ((bandOfCode_isSome c.toNat).2 hc)
      by_cases hes : ∀ x ∈ es, x.2.2.toNat ≤ 2
      · rw [hk, if_pos hes, if_pos (known.2 ⟨hc, hes⟩)]; rfl
      · rw [hk, if_neg hes, if_neg fun h => hes (known.1 h).2]; rfl
    · have unknown : bandOfCode c.toNat = none := by
        rw [← Option.not_isSome_iff_eq_none, bandOfCode_isSome]; exact hc
      rw [unknown, if_neg fun h => hc (known.1 h).1]; rfl

theorem parseTariff_entries (n : Byte) (es : List (Byte × Byte × Byte)) :
    parseTariff (n :: es.flatMap (fun x => [x.1, x.2.1, x.2.2])) =
      if n.toNat = es.length ∧ ∀ x ∈ es, x.2.2.toNat ≤ 2 then
        some (es.map entryOf)
      else none := by
  have length : (n :: es.flatMap (fun x => [x.1, x.2.1, x.2.2])).length = 1 + 3 * es.length := by
    rw [List.length_cons, length_flatMap_const (k := 3) (fun _ => rfl)]; omega
  have count : (n :: es.flatMap (fun x => [x.1, x.2.1, x.2.2])).length =
      1 + 3 * at8 (n :: es.flatMap (fun x => [x.1, x.2.1, x.2.2])) 0 ↔ n.toNat = es.length := by
    rw [length]
    show 1 + 3 * es.length = 1 + 3 * n.toNat ↔ _
    omega
  unfold parseTariff
  by_cases hn : n.toNat = es.length
  · rw [if_pos (count.2 hn)]
    refine (parseEntries_flatMap es).trans (if_congr ?_ rfl rfl)
    exact ⟨fun h => ⟨hn, h⟩, fun h => h.2⟩
  · rw [if_neg (mt count.1 hn), if_neg fun h => hn h.1]

theorem parseTariff_length {b : List Byte} (h : b.length % 3 ≠ 1) : parseTariff b = none := if_neg (by omega)

theorem readFormOk_iff {b : List Byte} :
    readFormOk b = true ↔ 1 ≤ b.length ∧ b.length ≤ 16 ∧ ∀ i ∈ b, (guardFieldOfId i).isSome = true := by
  simp only [readFormOk, Bool.and_eq_true, decide_eq_true_iff, List.all_eq_true, and_assoc]

theorem number_four (a b c d : Byte) :
    Wire.number [a, b, c, d] = (a.toNat * 256 + b.toNat) * 65536 + (c.toNat * 256 + d.toNat) := by
  simp only [Wire.number, List.foldl_cons, List.foldl_nil]; omega

theorem number_three (a b c : Byte) : Wire.number [a, b, c] = a.toNat * 65536 + (b.toNat * 256 + c.toNat) := by
  simp only [Wire.number, List.foldl_cons, List.foldl_nil]; omega

theorem parseEvents_three (a b c : Byte) :
    parseEvents [a, b, c] =
      if a.toNat * 65536 + (b.toNat * 256 + c.toNat) < 131072 then
        some (BitVec.ofNat 17 (a.toNat * 65536 + (b.toNat * 256 + c.toNat)))
      else none := by
  unfold parseEvents
  rw [number_three]
  exact if_congr ⟨fun h => h.2, fun h => ⟨rfl, h⟩⟩ rfl rfl

theorem whenEmpty_other {b : List Byte} (h : b ≠ []) (r : Request) : whenEmpty b r = none :=
  if_neg (by rw [List.isEmpty_iff]; exact h)

end Sys2Proof.Machine
end

section
/-! PROOF. A cabinet frame ended, and the requests its bytes carry (R184, R185, R199). -/

namespace Sys2Proof.Machine
open Sys2Proof.Safety

/-! ### The requests by their codes -/

/-- Three bytes of a recurrence, and a byte of a band permission. -/
def recurOf (m h l : Byte) : Option RecurrenceField := recurrenceAt [m, h, l] 0
def bandOf (g : Byte) : Option BandPermission := permissionOf g.toNat

/-- The expected revision that the header carries when its flag says so. -/
def expectedOf (flags expected : Nat) : Option Nat := if flags % 2 = 1 then some expected else none

section
variable {s : State} {flags order expected : Nat} {b : List Byte}

theorem parseRequest_place : parseRequest s 0x01 flags order expected b = (parsePlace b).map .place := rfl

theorem parseRequest_amend :
    parseRequest s 0x02 flags order expected b = (parseAmend s order b).map (.amend order (expectedOf flags expected)) :=
  congrArg (fun e => (parseAmend s order b).map (Request.amend order e)) (expected_iff flags expected)

theorem parseRequest_retire :
    parseRequest s 0x03 flags order expected b = whenEmpty b (.retire order (expectedOf flags expected)) :=
  congrArg (fun e => whenEmpty b (Request.retire order e)) (expected_iff flags expected)

theorem parsePlace_fill (hk : at8 b 0 = 0) (hl : b.length = 13) :
    parsePlace b = (recurrenceAt b 8).bind (fun r => (permissionOf (at8 b 11)).map (fun k => .fill
      { pump := at8 b 1, target := at16 b 2, start := at16 b 4, stop := at16 b 6, recur := r, band := k, priority := at8 b 12 })) := by
  have block : parsePlace b = (fillBlockAt b 1).map .fill := by
    unfold parsePlace
    simp only [hk, hl]
  rw [block, fillBlockAt_eq]
  cases recurrenceAt b (1 + 7) <;> cases permissionOf (at8 b (1 + 10)) <;> rfl

/-- An AMEND of each kind, over the record its number names. -/
theorem amend_fill (fit : Fits s order 13) (hl : b.length = 13) :
    parseRequest s 0x02 flags order expected b =
      ((parseFillAmend b).map .fill).map (.amend order (expectedOf flags expected)) := by
  rw [parseRequest_amend, parseAmend_fit (by rw [hl]; exact fit)]
  unfold amendBody
  rw [if_pos hl]

theorem amend_heat (fit : Fits s order 11) (hl : b.length = 11) :
    parseRequest s 0x02 flags order expected b =
      ((parseHeatAmend b).map .heat).map (.amend order (expectedOf flags expected)) := by
  rw [parseRequest_amend, parseAmend_fit (by rw [hl]; exact fit)]
  unfold amendBody
  rw [if_neg (by omega), if_pos hl]

theorem amend_report (fit : Fits s order 5) (hl : b.length = 5) :
    parseRequest s 0x02 flags order expected b =
      ((parseReportAmend b).map .report).map (.amend order (expectedOf flags expected)) := by
  rw [parseRequest_amend, parseAmend_fit (by rw [hl]; exact fit)]
  unfold amendBody
  rw [if_neg (by omega), if_neg (by omega), if_pos hl]

end

theorem byte_zero_iff {x : Byte} : x = 0 ↔ x.toNat = 0 := by
  rw [← BitVec.toNat_inj]; rfl

theorem fillMask_iff {x : Byte} {A B : Prop} :
    (x = 0 ∨ 128 ≤ x.toNat ∨ A ∨ B) ↔ (x.toNat = 0 ∨ bitSet x.toNat 7 = true) ∨ A ∨ B := by
  rw [byte_zero_iff, bitSet_seven, or_assoc]

theorem mask_iff {x : Byte} {n : Nat} {A : Prop} : (x = 0 ∨ n ≤ x.toNat ∨ A) ↔ (x.toNat = 0 ∨ n ≤ x.toNat) ∨ A := by
  rw [byte_zero_iff, or_assoc]

/-! ### The frame ended -/

/-- What a frame of the cabinet port leaves of a state (R185). -/
theorem cabinetFrame_ends (x : Sample) (sdi : List Byte) (c : Clocked) (s : State) (hc : s.cabinet.clocked = some c) :
    let s1 := { takeSample x s with cabinet := { s.cabinet with clocked := none } }
    let gives := fun (b : Cabinet) => exec (.cabinetFrameEnd x sdi) s = .next { s1 with cabinet := b }
    let taken := c.atBegin = .idle ∨ (c.atBegin = .held ∧ c.sdo.length ≤ sdi.length)
    let formed := fun (k : ResultCode) => gives { state := .held, held := some (plain k), clocked := none, inFlight := none }
    let request := parseRequest s1 (at8 sdi 0) (at8 sdi 1) (at8 sdi 2) (at8 sdi 3) ((sdi.drop 5).take (at8 sdi 4))
    (¬ taken → exec (.cabinetFrameEnd x sdi) s = .next s1) ∧
    (taken → sdi = [] ∨ at8 sdi 0 = 0 → gives { state := .idle, held := none, clocked := none, inFlight := none }) ∧
    (taken → at8 sdi 0 ≠ 0 →
      (¬ LongEnough sdi → formed .frameError) ∧
      (LongEnough sdi → requestSumOk sdi = false → formed .frameError) ∧
      (LongEnough sdi → requestSumOk sdi = true → knownCode (at8 sdi 0) = false → formed .unknown) ∧
      (LongEnough sdi → requestSumOk sdi = true → at8 sdi 0 = 0x20 → formed .notHere) ∧
      (LongEnough sdi → requestSumOk sdi = true → knownCode (at8 sdi 0) = true → at8 sdi 0 ≠ 0x20 →
        (request = none → formed .invalid) ∧
        (∀ q, request = some q →
          gives { state := .working, held := none, clocked := none, inFlight := some { request := q, formed := none } }))) := by
  intro s1 gives taken formed request
  have ended : exec (.cabinetFrameEnd x sdi) s = .next (endCabinetFrame sdi (takeSample x s)) := rfl
  have judged (h : taken) {t : State} (ht : judgeCabinetFrame sdi s1 = t) : exec (.cabinetFrameEnd x sdi) s = .next t :=
    ended.trans (congrArg Host.Outcome.next ((endCabinetFrame_taken (s := takeSample x s) hc h).trans ht))
  refine ⟨fun h => ?_, fun h h0 => judged h (judgeCabinetFrame_idle h0), fun h coded =>
    ⟨fun hl => judged h (judgeCabinetFrame_short coded hl), fun hl hs => judged h (judgeCabinetFrame_sum coded hl hs),
      fun hl hs hk => judged h (judgeCabinetFrame_unknown coded hl hs hk), fun hl hs h20 => ?_, fun hl hs hk hne => ?_⟩⟩
  · exact ended.trans (congrArg Host.Outcome.next (endCabinetFrame_left (s := takeSample x s) hc h))
  · have known : knownCode (at8 sdi 0) = true := by rw [h20]; decide
    exact judged h ((judgeCabinetFrame_known coded hl hs known).trans (if_pos h20))
  · have read := (judgeCabinetFrame_known (s := s1) coded hl hs hk).trans (if_neg hne)
    refine ⟨fun hn => judged h (read.trans ?_), fun q hq => judged h (read.trans ?_)⟩
    · exact congrArg (fun r => Option.elim r (holdResponse (plain .invalid) s1) (fun q => handRequest q s1)) hn
    · exact congrArg (fun r => Option.elim r (holdResponse (plain .invalid) s1) (fun q => handRequest q s1)) hq

end Sys2Proof.Machine
end

section
/-! PROOF. The requests of the wire, byte by byte (R199, chapter 12.3). -/

namespace Sys2Proof.Machine
open Sys2Proof.Safety

section
variable (s : State) (flags order expected : Nat)

/-- A body of another length than its request calls for is none. -/
theorem parseRequest_lengths :
    ∀ p ∈ ([(0x10, 1), (0x12, 5), (0x15, 5), (0x20, 4), (0x22, 2), (0x23, 1), (0x30, 3), (0x31, 3)] : List (Nat × Nat)),
      ∀ b : List Byte, b.length ≠ p.2 → parseRequest s p.1 flags order expected b = none := by
  have events {b : List Byte} (h : b.length ≠ 3) : parseEvents b = none := if_neg fun c => h c.1
  intro p hp b hb
  simp only [List.mem_cons, List.not_mem_nil, or_false] at hp
  rcases hp with rfl | rfl | rfl | rfl | rfl | rfl | rfl | rfl
  · exact if_neg fun c => hb c.1
  · exact if_neg hb
  · exact if_neg hb
  · exact if_neg hb
  · exact if_neg hb
  · exact if_neg hb
  · exact congrArg (Option.map Request.clearEvents) (events hb)
  · exact congrArg (Option.map Request.setEventEnables) (events hb)

/-- The requests without a body. -/
theorem parseRequest_bare :
    ∀ p ∈ [(0x03, Request.retire order (expectedOf flags expected)), (0x04, .look order), (0x05, .list order), (0x14, .readTariff),
        (0x21, .lock), (0x24, .acknowledge)],
      parseRequest s p.1 flags order expected [] = some p.2 ∧
        ∀ b : List Byte, b ≠ [] → parseRequest s p.1 flags order expected b = none := by
  intro p hp
  simp only [List.mem_cons, List.not_mem_nil, or_false] at hp
  rcases hp with rfl | rfl | rfl | rfl | rfl | rfl
  · exact ⟨parseRequest_retire, fun b hb => parseRequest_retire.trans (whenEmpty_other hb _)⟩
  all_goals exact ⟨rfl, fun b hb => whenEmpty_other hb _⟩

theorem parseRequest_events (a b c : Byte) :
    let n := a.toNat * 65536 + (b.toNat * 256 + c.toNat)
    parseRequest s 0x30 flags order expected [a, b, c] = (if n < 131072 then some (.clearEvents (BitVec.ofNat 17 n)) else none) ∧
      parseRequest s 0x31 flags order expected [a, b, c] =
        (if n < 131072 then some (.setEventEnables (BitVec.ofNat 17 n)) else none) := by
  intro n
  have read (f : BitVec 17 → Request) :
      (parseEvents [a, b, c]).map f = if n < 131072 then some (f (BitVec.ofNat 17 n)) else none := by
    rw [parseEvents_three]
    by_cases h : n < 131072
    · rw [if_pos h, if_pos h]; rfl
    · rw [if_neg h, if_neg h]; rfl
  exact ⟨read _, read _⟩

/-- The requests with a body of one length. -/
theorem parseRequest_readTower (n : Byte) :
    parseRequest s 0x10 flags order expected [n] = if 1 ≤ n.toNat ∧ n.toNat ≤ 7 then some (.readTower n.toNat) else none := by
  refine if_congr ?_ rfl rfl
  show 1 = 1 ∧ partOk n.toNat = true ↔ _
  simp [partOk]

theorem parseRequest_writeGuard (i a b c d : Byte) :
    parseRequest s 0x12 flags order expected [i, a, b, c, d] =
      some (.writeGuard i (BitVec.ofNat 32 ((a.toNat * 256 + b.toNat) * 65536 + (c.toNat * 256 + d.toNat)))) := by
  have field : BitVec.ofNat 8 i.toNat = i := by simp
  have read : parseRequest s 0x12 flags order expected [i, a, b, c, d] =
      some (.writeGuard (BitVec.ofNat 8 i.toNat) (BitVec.ofNat 32 (Wire.number [a, b, c, d]))) := rfl
  rw [read, field, number_four]

theorem parseRequest_unlock (a b c d : Byte) :
    parseRequest s 0x20 flags order expected [a, b, c, d] =
      some (.unlock (BitVec.ofNat 32 ((a.toNat * 256 + b.toNat) * 65536 + (c.toNat * 256 + d.toNat)))) := by
  have read : parseRequest s 0x20 flags order expected [a, b, c, d] =
      some (.unlock (BitVec.ofNat 32 (Wire.number [a, b, c, d]))) := rfl
  rw [read, number_four]

theorem parseRequest_readGuard (b : List Byte) :
    parseRequest s 0x11 flags order expected b =
      if 1 ≤ b.length ∧ b.length ≤ 16 ∧ ∀ i ∈ b, (guardFieldOfId i).isSome = true then some (.readGuard b) else none :=
  if_congr readFormOk_iff rfl rfl

theorem parseRequest_setTariff (n : Byte) (es : List (Byte × Byte × Byte)) :
    parseRequest s 0x13 flags order expected (n :: es.flatMap (fun x => [x.1, x.2.1, x.2.2])) =
      if n.toNat = es.length ∧ ∀ x ∈ es, x.2.2.toNat ≤ 2 then some (.setTariff (es.map entryOf)) else none := by
  refine (congrArg (Option.map Request.setTariff) (parseTariff_entries n es)).trans ?_
  by_cases h : n.toNat = es.length ∧ ∀ x ∈ es, x.2.2.toNat ≤ 2
  · rw [if_pos h, if_pos h]; rfl
  · rw [if_neg h, if_neg h]; rfl

end

/-- Settles O28: a frame by the port's state at its beginning and R185's cases, and a request by its code, its header and its bytes. -/
theorem cabinetFrameEnds : Obligations.CabinetFrameEnds := by
  refine ⟨fun x sdi c s hc => ?_, fun flags order expected s => ?_⟩
  · intro s1 gives taken formed long sumOk codes request
    obtain ⟨left, idle, judged⟩ := cabinetFrame_ends x sdi c s hc
    refine ⟨left, idle, fun h coded => ?_⟩
    obtain ⟨short, sum, unknown, notHere, read⟩ := judged h coded
    have sums : sumOk → requestSumOk sdi = true := requestSumOk_iff.2
    exact ⟨short, fun hl hs => sum hl (by rw [← Bool.not_eq_true]; exact mt requestSumOk_iff.1 hs),
      fun hl hs hk => unknown hl (sums hs) (by rw [← Bool.not_eq_true]; exact mt knownCode_iff.1 hk),
      fun hl hs => notHere hl (sums hs), fun hl hs hk => read hl (sums hs) (knownCode_iff.2 hk)⟩
  · intro reads two signed has e recur band contents fits
    have er : recur = recurOf := rfl
    have eb : band = bandOf := rfl
    have ec : contents = selected := rfl
    have ef : ∀ n, fits n ↔ Fits s order n := fun n => Iff.rfl
    clear_value recur band contents fits
    subst er eb ec
    refine ⟨fun p t t' a a' z z' m h l g q => ?_, fun c t t' a a' z z' m h l => ?_, fun n k r x => ?_, fun b h0 h1 h2 => ?_, ?_⟩
    · refine (congrArg (Option.map Request.place) (parsePlace_fill (b := [0, p, t, t', a, a', z, z', m, h, l, g, q]) rfl rfl)).trans ?_
      rw [show recurrenceAt [0, p, t, t', a, a', z, z', m, h, l, g, q] 8 = recurOf m h l from rfl,
        show permissionOf (at8 [0, p, t, t', a, a', z, z', m, h, l, g, q] 11) = bandOf g from rfl]
      cases recurOf m h l <;> cases bandOf g <;> rfl
    · exact Option.map_map ..
    · rw [← selectorsOf_eq]
      exact Option.map_map ..
    · exact congrArg (Option.map Request.place) (parsePlace_other h0 h1 h2)
    refine ⟨fun fit x p t t' a a' z z' m h l g q => ?_, fun fit x c t t' a a' z z' m h l => ?_, fun fit x n k r y => ?_,
      fun b hb => ?_, ?_⟩
    · have read := amend_fill (flags := flags) (expected := expected) (b := [x, p, t, t', a, a', z, z', m, h, l, g, q])
        ((ef 13).1 fit) rfl
      by_cases hc : x = 0 ∨ 128 ≤ x.toNat ∨ (has x 4 ∧ recurOf m h l = none) ∨ (has x 5 ∧ bandOf g = none)
      · rw [if_pos hc]
        rw [parseFillAmend_barred (b := [x, p, t, t', a, a', z, z', m, h, l, g, q]) (fillMask_iff.1 hc)] at read
        exact read
      · rw [if_neg hc]
        rw [parseFillAmend_read (b := [x, p, t, t', a, a', z, z', m, h, l, g, q]) (mt fillMask_iff.2 hc)] at read
        exact read
    · have read := amend_heat (flags := flags) (expected := expected) (b := [x, c, t, t', a, a', z, z', m, h, l])
        ((ef 11).1 fit) rfl
      by_cases hc : x = 0 ∨ 32 ≤ x.toNat ∨ (has x 4 ∧ recurOf m h l = none)
      · rw [if_pos hc]
        rw [parseHeatAmend_barred (b := [x, c, t, t', a, a', z, z', m, h, l]) (mask_iff.1 hc)] at read
        exact read
      · rw [if_neg hc]
        rw [parseHeatAmend_read (b := [x, c, t, t', a, a', z, z', m, h, l]) (mt mask_iff.2 hc)] at read
        exact read
    · have read := amend_report (flags := flags) (expected := expected) (b := [x, n, k, r, y]) ((ef 5).1 fit) rfl
      rw [← selectorsOf_eq]
      by_cases hc : x = 0 ∨ 8 ≤ x.toNat ∨ (has x 2 ∧ selectorsOf y.toNat = none)
      · rw [if_pos hc]
        rw [parseReportAmend_barred (b := [x, n, k, r, y]) (mask_iff.1 hc)] at read
        exact read
      · rw [if_neg hc]
        rw [parseReportAmend_read (b := [x, n, k, r, y]) (mt mask_iff.2 hc)] at read
        exact read
    · refine parseRequest_amend.trans ?_
      rw [parseAmend_none (hb.imp_right (mt (ef _).2))]
      rfl
    refine ⟨parseRequest_bare s flags order expected, parseRequest_readTower s flags order expected,
      parseRequest_writeGuard s flags order expected, fun d d' m m' x => rfl, parseRequest_unlock s flags order expected, ?_⟩
    refine ⟨fun p o => rfl, fun c => rfl, parseRequest_events s flags order expected, parseRequest_lengths s flags order expected, ?_⟩
    refine ⟨fun b => ?_, fun n es => ?_, fun b hb => ?_⟩
    · exact parseRequest_readGuard s flags order expected b
    · have read := parseRequest_setTariff s flags order expected n es
      by_cases lawful : n.toNat = es.length ∧ ∀ x ∈ es, x.2.2.toNat ≤ 2
      · exact (read.trans (if_pos lawful)).trans (if_pos lawful).symm
      · exact (read.trans (if_neg lawful)).trans (if_neg lawful).symm
    · exact congrArg (Option.map Request.setTariff) (parseTariff_length hb)

end Sys2Proof.Machine
end
